-- ==== Sys2Proof/Word.lean ====
section
/-! DEFINITION. Sys2Proof/Word.lean: the words of the JXP-8640: the 32-bit management register word (R3) and the byte. -/
namespace Sys2Proof

/-- A management register word (R3: the register space is 32-bit). -/
abbrev Word := BitVec 32

/-- One byte. -/
abbrev Byte := BitVec 8

/-- A map from a number to a value, held as a list of pairs with strictly rising keys. -/
abbrev AMap (α : Type) := List (Nat × α)

end Sys2Proof
end

