-- ==== Sys2Proof/Syntax.lean ====
section
/-! DEFINITION. Sys2Proof/Syntax.lean: the commands the block takes and the data they carry. -/
namespace Sys2Proof

/-- A CXL head (R108). -/
abbrev HeadId := Fin 2

/-- The three sources of the request pipeline (R108). -/
inductive Source where
  | h0 | h1 | guest
  deriving DecidableEq, Repr

/-- The access paths to the management registers (R3), each with its own latches (R456): the internal cores are the six programmable cores
of R19, M0 to M3 (0 to 3) and SC0 and SC1 (4 and 5) (log entry 106). -/
inductive Path where
  | bar2 | sideband | core (n : Fin 6)
  deriving DecidableEq, Repr

/-- Bits in error in what one device of a subchannel delivered: device 0 to 9, symbol 0 to 3, and the error pattern (R150). -/
structure Flip where
  device : Nat
  symbol : Nat
  value : BitVec 16
  deriving DecidableEq, Repr

/-- What a calibration run measured on one lane (R159, R161): the new centres and the eye widths, in taps. -/
structure LaneMeas where
  rank : Nat
  lane : Nat
  rdDly : Nat
  wrDly : Nat
  rdVref : Nat
  wrVref : Nat
  rdEye : Nat
  wrEye : Nat
  deriving DecidableEq, Repr

/-- The ECC outcome of a read of a 16-byte word of the embedded flash (R425). -/
inductive EccRead where
  | clean | corrected | uncorrectable
  deriving DecidableEq, Repr

/-- What a read of a word of the embedded flash meets: its ECC outcome, and how long it waited, in µs (R432). -/
structure WordRead where
  ecc : EccRead
  stall : Nat
  deriving DecidableEq, Repr

/-- A section header of a configuration image (R53). -/
structure SecHdr where
  type : Nat
  critical : Bool
  deriving DecidableEq, Repr

/-- A factory bad plane-block of section 0x0007 (R250). -/
structure BadBlock where
  channel : Nat
  way : Nat
  block : Nat
  plane : Nat
  deriving DecidableEq, Repr

/-- A DRAM training seed of section 0x0005: the starting delays and Vref codes of a lane (R54, R137). -/
structure DramSeed where
  channel : Nat
  rank : Nat
  lane : Nat
  rdDly : Nat
  wrDly : Nat
  rdVref : Nat
  wrVref : Nat
  deriving DecidableEq, Repr

/-- A configuration image copy in the SPI NOR (R52, R53): its header, its section headers, the values of the fields of its
sections, and what a check of bytes that the model does not hold finds (parsing, signature, digest, a failing read: at the
header 0, later 1). -/
structure ImageCopy where
  magic : Nat
  formatVersion : Nat
  headerSize : Nat
  imageSize : Nat
  generation : Nat
  part : Nat
  validS : Bool
  validG : Bool
  hubStepping : Nat
  dieStepping : Nat
  keySlot : Nat
  sigAlg : Nat
  parses : Bool
  signatureGood : Bool
  digestGood : Bool
  readFails : Option Nat
  sections : List SecHdr
  vals : AMap Nat
  badBlocks : List BadBlock
  integrator : List (List Byte)
  seeds : List DramSeed
  deriving DecidableEq, Repr

/-- An erased copy: every byte 0xFF. -/
def ImageCopy.erased : ImageCopy :=
  ⟨0xFFFFFFFF, 0xFFFF, 0xFFFF, 0xFFFFFFFF, 0xFFFFFFFF, 0xFFFF, true, true, 15, 15, 255, 255, false, false, false, none, [], [], [], [], []⟩

/-- A directory of the SPI NOR (R51). -/
structure Directory where
  magic : Nat
  version : Nat
  flags : Nat
  aOffset : Nat
  aSize : Nat
  bOffset : Nat
  bSize : Nat
  spiMode : Nat
  spiClk : Nat
  intOffset : Nat
  intSize : Nat
  crc : Nat
  deriving DecidableEq, Repr

def Directory.erased : Directory :=
  ⟨0xFFFFFFFF, 0xFFFF, 0xFFFF, 0xFFFFFFFF, 0xFFFFFFFF, 0xFFFFFFFF, 0xFFFFFFFF, 255, 255, 0xFFFFFFFF, 0xFFFFFFFF, 0xFFFFFFFF⟩

/-- The SPI NOR (R49, R50): its capacity by the SFDP tables, the two directories and the two image copies. -/
structure Nor where
  capacity : Nat
  primary : Directory
  duplicate : Directory
  copyA : ImageCopy
  copyB : ImageCopy
  deriving DecidableEq, Repr

def Nor.erased : Nor := ⟨8388608, Directory.erased, Directory.erased, ImageCopy.erased, ImageCopy.erased⟩

/-- The operations of an Awl engine (R256). -/
inductive AwlOp where
  | reset | identify | feature | train | programUnit | programWl | read | erase | eraseCheck
  deriving DecidableEq, Repr

/-- The fields of a descriptor (R255) that its source gives: way, mode, class, tag, block, page or wordline, read-retry step, and pages to read;
and the frame that a restore read serves (R238). The engine itself takes the buffer slots, and every plane of a block is used (R250). -/
structure DescArgs where
  way : Nat
  pslc : Bool
  cls : Nat
  tag : Nat
  block : Nat
  page : Nat
  step : Nat
  count : Nat
  frame : Option Nat
  deriving DecidableEq, Repr

/-- What the save dies could not read in a restore (R230, R243): the records of the newest or the carried image, which are then rebuilt by a scan;
frames of positions that the scan or the table could not give; slot tables lost altogether; the first JSEQ of journal pages that no die can
give; and every base slot. -/
structure RestoreInfo where
  scanN : Bool
  scanC : Bool
  lostN : List Nat
  lostC : List Nat
  lostAllN : Bool
  lostAllC : Bool
  lostPages : List Nat
  noBase : Bool
  deriving DecidableEq, Repr

/-- What the host has set in the configuration space of a head: PTM enabled (R105), ASPM L1 enabled, the function put into D3hot (R101), and the
MSI-X vectors that it has enabled (R82), a bit each. Configuration writes have no row of their own: they arrive with LINK_UP (log entry 113). -/
structure HostCfg where
  ptm : Bool
  aspmL1 : Bool
  d3hot : Bool
  msix : Nat
  deriving DecidableEq, Repr

/-- The configuration space as its reset leaves it. -/
def HostCfg.init : HostCfg := ⟨false, false, false, 0⟩

/-- What a link negotiation settles beside rate, width and flit size: the latency-optimized flit (R75), and what the host then sets in
configuration space. -/
structure LinkSetting where
  lopt : Bool
  host : HostCfg
  deriving DecidableEq, Repr

/-- DRAM read data that crosses back: the bits in error, and the line that the command reached when it went astray (R151). -/
structure ReadBack where
  flips : List Flip
  reached : Option Nat
  deriving DecidableEq, Repr

/-- A write CRC failure that a device reports (R157): channel and line, and what the incremental run finds where one is made: the temperature, the
lanes, and a full retraining where an eye is below 8 taps. -/
structure CrcAlert where
  ch : Fin 8
  line : Nat
  temp : Int
  lanes : List LaneMeas
  retrain : Option (List LaneMeas)
  deriving DecidableEq, Repr

/-- A flit that arrives at a link with a bad CRC: its bytes (R355). -/
structure BadFlit where
  link : Fin 3
  bytes : List (BitVec 8)
  deriving DecidableEq, Repr

/-- A mailbox command that no other row names: its opcode, and the size of its payload. -/
structure RawCommand where
  opcode : Nat
  size : Nat
  deriving DecidableEq, Repr

/-- A read over an access path (R6): its management address, and whether it is 32 bits wide and aligned. -/
structure RegAccess where
  mpa : Nat
  aligned : Bool
  deriving DecidableEq, Repr

/-- A firmware package in a slot of the embedded flash (R400): its header, and what its digests and signature show. -/
structure FwPackage where
  magic : Nat
  version : Nat
  hubVersion : Nat
  sdVersion : Nat
  svn : Nat
  grpMin : Nat
  grpMax : Nat
  formatMax : Nat
  sdiLevel : Nat
  sdiMin : Nat
  sdiMax : Nat
  part : Nat
  validS : Bool
  validG : Bool
  hubStepping : Nat
  dieStepping : Nat
  keyGood : Bool
  signatureGood : Bool
  digestsGood : Bool
  fits : Bool
  deriving DecidableEq, Repr

/-- A die's part in W9 (R251, R254): its ways that did not answer or whose parameters differ (channel × 8 + way), whether no half of its table
area can be read, and what the trainings of its channels found (channel, temperature, lanes). -/
structure DieInfo where
  failedWays : List Nat
  noTables : Bool
  trained : List (Nat × Int × List LaneMeas)
  deriving DecidableEq, Repr

/-- A DRAM channel's part in W8 (R137): its temperature, what the verify run of stored values measured, and what full training found where it
was needed. -/
structure DramTrain where
  ch : Nat
  temp : Int
  verify : List LaneMeas
  full : List LaneMeas
  deriving DecidableEq, Repr

/-- What completes a wake step (R61): W1 to W11. W3 says whether the embedded flash lies in band L (R430); W4 what the firmware slots hold when
they have been programmed outside the device (a factory or a debugger); W5 the same for the SPI NOR; W7 gives the first store voltage in mV and which stored calibration slots fail their CRC; W8
what the training of each populated channel found; W9 the part of each save die, `none` for a missing one. -/
inductive WakeInfo where
  | supplies
  | oscillator
  | plls (lowBand : Bool)
  | firmware (slots : Option (Option FwPackage × Option FwPackage))
  | config (nor : Option Nor)
  | rails
  | calibration (storeMv bad : Nat)
  | dram (chans : List DramTrain)
  | dies (d0 d1 : Option DieInfo)
  | guest
  | cxl
  deriving DecidableEq, Repr


/-- The commands of the block: one constructor per row of spec/opcode_table.json, in its order. -/
inductive Instr where
  /-- HEEL_POWER_ON (R13). -/
  | heelPowerOn
  /-- HEEL_SUPPLY_LOSS (R13). -/
  | heelSupplyLoss
  /-- INPUT_WAKE (R14). -/
  | inputWake
  /-- HEEL_WAKE_CMD (R74). -/
  | heelWakeCmd (v : Nat)
  /-- INPUT_RISE (R337). -/
  | inputRise
  /-- INPUT_FALL (R337). -/
  | inputFall
  /-- WAKE_STEP_COMPLETE (R61). -/
  | wakeStepComplete (w : WakeInfo)
  /-- WAKE_STEP_TIMEOUT (R62). -/
  | wakeStepTimeout (n : Nat)
  /-- CONFIGURATION_LOCK (R65). -/
  | configurationLock
  /-- RESTORE_STEP_COMPLETE (R229). -/
  | restoreStepComplete (info : RestoreInfo)
  /-- RESTORE_COMPLETE (R233). -/
  | restoreComplete
  /-- DERATE_CLEAR (R13). -/
  | derateClear
  /-- SERVICE_WAIT_EXPIRY (R447). -/
  | serviceWaitExpiry
  /-- STALL_WAIT_EXPIRY (R447). -/
  | stallWaitExpiry
  /-- THERMAL_KEEP (R447). -/
  | thermalKeep (die : Fin 3) (t : Int)
  /-- THERMAL_KEEP_CLEAR (R447). -/
  | thermalKeepClear (hub s0 s1 : Int)
  /-- THERMAL_WARNING (R47). -/
  | thermalWarning (die : Fin 3) (t : Int)
  /-- THERMAL_TRIP (R47). -/
  | thermalTrip (die : Fin 3) (t : Int)
  /-- PFAIL_ASSERT (R40). -/
  | pfailAssert
  /-- HEEL_SAVE_CMD (R221). -/
  | heelSaveCmd (v : Nat)
  /-- HUB_RESTART (R70). -/
  | hubRestart (v : Nat)
  /-- HUB_FW_RESET (R73). -/
  | hubFwReset (v : Nat)
  /-- CORE_WATCHDOG (R69). -/
  | coreWatchdog
  /-- JTAG_DEBUG_REQUEST (R69). -/
  | jtagDebugRequest
  /-- TRST_LOW (R69). -/
  | trstLow
  /-- FIRMWARE_RESTART (R71). -/
  | firmwareRestart (good : Bool)
  /-- SAVE_DIE_WATCHDOG (R69). -/
  | saveDieWatchdog (d : Fin 2)
  /-- STICKY_HUB_FAULT (R445). -/
  | stickyHubFault (unit word : Nat)
  /-- FCLK_RELOCK_TIMEOUT (R445). -/
  | fclkRelockTimeout
  /-- SAVE_START (R194). -/
  | saveStart (d : Fin 2)
  /-- FILL (R200). -/
  | fill (d : Fin 2)
  /-- SFETCH (R201). -/
  | sfetch (d : Fin 2)
  /-- SFETCH_DATA (R201). -/
  | sfetchData (d : Fin 2)
  /-- UNIT_PROGRAM_DONE (R203). -/
  | unitProgramDone (d : Fin 2) (k r pos : Nat) (ok : Bool) (busy : Nat)
  /-- DIE_DROP_TIMEOUT (R208). -/
  | dieDropTimeout (d : Fin 2) (k pos : Nat)
  /-- CONFIRM (R201). -/
  | confirm (d : Fin 2)
  /-- SAVE_DIE_LOSS_TIMEOUT (R215). -/
  | saveDieLossTimeout (d : Fin 2)
  /-- SAVE_DIE_LOST (R215). -/
  | saveDieLost (d : Fin 2) (core : Bool)
  /-- SEAL_REQ (R214). -/
  | sealReq (d : Fin 2) (gen us : Nat)
  /-- LEASE_RENEW (R212). -/
  | leaseRenew (d : Fin 2)
  /-- LEASE_CLAIM (R212). -/
  | leaseClaim (s0 s1 : Bool)
  /-- LEASE_EXPIRY (R212). -/
  | leaseExpiry
  /-- LEAD_HOLD_EXPIRY (R213). -/
  | leadHoldExpiry (d : Fin 2)
  /-- STORE_CUTOFF (R313). -/
  | storeCutoff
  /-- DOWN_ORDER_COMPLETE (R342). -/
  | downOrderComplete
  /-- MEM_RD (R111). -/
  | memRd (h : HeadId) (tag hpa : Nat)
  /-- MEM_RD_DATA (R111). -/
  | memRdData (h : HeadId) (tag hpa : Nat)
  /-- MEM_WR (R111). -/
  | memWr (h : HeadId) (tag hpa : Nat) (data : List Byte) (poison : Bool)
  /-- MEM_WR_PTL (R111). -/
  | memWrPtl (h : HeadId) (tag hpa : Nat) (data : List Byte) (mask : Nat) (poison : Bool)
  /-- MEM_INV (R111). -/
  | memInv (h : HeadId) (tag hpa : Nat)
  /-- MEM_INV_NT (R111). -/
  | memInvNt (h : HeadId) (tag hpa : Nat)
  /-- MEM_SPEC_RD (R111). -/
  | memSpecRd (h : HeadId) (hpa : Nat)
  /-- M2S_PROTOCOL_ERROR (R111). -/
  | m2sProtocolError (h : HeadId) (opcode : Nat)
  /-- ARBITRATE_GRANT (R116). -/
  | arbitrateGrant
  /-- THROTTLE_TRICKLE (R130). -/
  | throttleTrickle
  /-- DRAM_READ_ISSUE (R143). -/
  | dramReadIssue (ch : Fin 8) (sub : Fin 2)
  /-- DRAM_WRITE_ISSUE (R144). -/
  | dramWriteIssue (ch : Fin 8) (sub : Fin 2)
  /-- WRITE_AGE_EXPIRY (R144). -/
  | writeAgeExpiry (ch : Fin 8)
  /-- ROW_IDLE_CLOSE (R142). -/
  | rowIdleClose (ch : Fin 8) (bank : Nat)
  /-- READ_DATA_RETURN (R113). -/
  | readDataReturn (ch : Fin 8) (back : ReadBack) (resource : Bool)
  /-- WRITE_CRC_ALERT (R157). -/
  | writeCrcAlert (a : CrcAlert)
  /-- REFRESH_DUE (R147). -/
  | refreshDue (ch : Fin 8) (rank : Fin 2) (postpone : Bool)
  /-- MR4_POLL (R147). -/
  | mr4Poll (ch : Fin 8) (hot : Bool)
  /-- PATROL_SCRUB_READ (R153). -/
  | patrolScrubRead (ch : Fin 8)
  /-- PHY_PLL_LOCK_LOSS (R149). -/
  | phyPllLockLoss (ch : Fin 8) (relocked : Bool)
  /-- CALIBRATION_CHECK (R158). -/
  | calibrationCheck (hub s0 s1 : List Int) (aged : List Nat)
  /-- INCREMENTAL_RUN (R159). -/
  | incrementalRun (ch : Fin 8) (temp : Int) (lanes : List LaneMeas) (retrain : Option (List LaneMeas))
  /-- FLASH_INTERFACE_RUN (R161). -/
  | flashInterfaceRun (ch : Fin 64) (temp : Int) (lanes : List LaneMeas)
  /-- RUN_DRAM (R167). -/
  | runDram
  /-- RUN_FLASH (R167). -/
  | runFlash
  /-- REEL_SELECTION (R182). -/
  | reelSelection
  /-- COLD_SWEEP_VISIT (R182). -/
  | coldSweepVisit
  /-- COPY_DATA (R183). -/
  | copyData (frame : Nat)
  /-- COPY_DONE (R183). -/
  | copyDone (frame : Nat)
  /-- JOURNAL_PAGE_FLUSH (R186). -/
  | journalPageFlush
  /-- JPAGE (R186). -/
  | jpage (d : Fin 2)
  /-- JOURNAL_PAGE_DURABLE (R186). -/
  | journalPageDurable (d : Fin 2)
  /-- COMPACTION_START (R188). -/
  | compactionStart
  /-- BASE_MAP_WRITTEN (R188). -/
  | baseMapWritten
  /-- BUDGET_RECOMPUTE (R177). -/
  | budgetRecompute (secondPassed : Bool)
  /-- BUDGET_STALE (R178). -/
  | budgetStale
  /-- NO_COPY_UNIT_TIMEOUT (R180). -/
  | noCopyUnitTimeout
  /-- READY_MAP (R262). -/
  | readyMap (d : Fin 2)
  /-- RSTR_REQ (R232). -/
  | rstrReq (d : Fin 2)
  /-- RSTR_DATA (R232). -/
  | rstrData (frame : Nat) (lost : List Nat)
  /-- TOUCH_REQ (R235). -/
  | touchReq (d : Fin 2)
  /-- TOUCH_DATA (R236). -/
  | touchData (d : Fin 2) (lost : List Nat) (us : Nat)
  /-- RESET (R256). -/
  | reset (ch : Fin 64) (a : DescArgs)
  /-- IDENTIFY (R256). -/
  | identify (ch : Fin 64) (a : DescArgs)
  /-- FEATURE (R256). -/
  | feature (ch : Fin 64) (a : DescArgs)
  /-- TRAIN (R256). -/
  | train (ch : Fin 64) (a : DescArgs)
  /-- PROGRAM_UNIT (R256). -/
  | programUnit (ch : Fin 64) (a : DescArgs)
  /-- PROGRAM_WL (R256). -/
  | programWl (ch : Fin 64) (a : DescArgs)
  /-- READ (R256). -/
  | read (ch : Fin 64) (a : DescArgs)
  /-- ERASE (R256). -/
  | erase (ch : Fin 64) (a : DescArgs)
  /-- ERASE_CHECK (R256). -/
  | eraseCheck (ch : Fin 64) (a : DescArgs)
  /-- DESCRIPTOR_COMPLETION (R255). -/
  | descriptorCompletion (ch : Fin 64) (way status wait retried soft rebuilt : Nat)
  /-- OPERATION_TIMEOUT (R260). -/
  | operationTimeout (ch : Fin 64) (way : Nat)
  /-- ERASE_AHEAD (R262). -/
  | eraseAhead (ch : Fin 64) (way : Nat)
  /-- SOLE_PERIODIC_CHECK (R263). -/
  | solePeriodicCheck (ch : Fin 64) (way : Nat) (setB : Bool) (entry : Nat)
  /-- COPY_ROW_PAD (R266). -/
  | copyRowPad (group : Fin 8) (reloc : Bool)
  /-- RECLAMATION_START (R271). -/
  | reclamationStart (group : Fin 8)
  /-- WEAR_LEVELLING (R276). -/
  | wearLevelling (ch : Fin 64) (way : Nat)
  /-- TABLE_LOG_PROGRAM (R254). -/
  | tableLogProgram (d : Fin 2)
  /-- CHECKPOINT_WRITE (R254). -/
  | checkpointWrite (d : Fin 2)
  /-- PROGRAM_TIME_CHECK (R279). -/
  | programTimeCheck (ch : Fin 64) (way median : Nat)
  /-- CHANNEL_RETRAIN (R278). -/
  | channelRetrain (ch : Fin 64) (pass : Bool) (lanes : List LaneMeas)
  /-- JOIN (R288). -/
  | join (h : HeadId) (tag era grp inc level module epoch sent : Nat) (resume : Bool)
  /-- CLOSE (R290). -/
  | close (h : HeadId) (tag era grp inc level module epoch sent : Nat)
  /-- COMMIT (R288). -/
  | commit (h : HeadId) (tag era grp inc level module epoch sent : Nat)
  /-- ABORT (R288). -/
  | abort (h : HeadId) (tag era grp inc level module epoch sent : Nat)
  /-- LEAVE (R288). -/
  | leave (h : HeadId) (tag era grp inc level module epoch sent : Nat)
  /-- LEVEL (R303). -/
  | level (h : HeadId) (tag era grp inc level module epoch sent : Nat)
  /-- STATUS (R288). -/
  | status (h : HeadId) (tag era grp inc level module epoch sent : Nat)
  /-- EPOCH_PULSE_EDGE (R297). -/
  | epochPulseEdge (t : Nat)
  /-- PULSE_FAULT (R297). -/
  | pulseFault (k : Nat)
  /-- PULSE_SOURCE_DRIVE (R296). -/
  | pulseSourceDrive (k : Nat)
  /-- PULSE_CONTENTION (R42). -/
  | pulseContention
  /-- PTM_REQUEST (R105). -/
  | ptmRequest
  /-- PTM_RESPONSE (R300). -/
  | ptmResponse (off : Int)
  /-- HOLDOVER_ENTRY (R300). -/
  | holdoverEntry
  /-- PRECISE_SAMPLE (R312). -/
  | preciseSample (code : Int) (storeMv inputMv : Nat)
  /-- OFFSET_CALIBRATION (R311). -/
  | offsetCalibration (code : Int)
  /-- STORE_TEMP_SAMPLE (R311). -/
  | storeTempSample (t : Int)
  /-- OVER_VOLTAGE (R313). -/
  | overVoltage
  /-- REST_POINT (R316). -/
  | restPoint (storeMv : Nat)
  /-- LEARN (R319). -/
  | learn
  /-- LEARN_STOP (R319). -/
  | learnStop
  /-- LEARN_CYCLE_DUE (R319). -/
  | learnCycleDue
  /-- E_USE_RECOMPUTE (R323). -/
  | eUseRecompute
  /-- CHARGER_TARGET_UPDATE (R326). -/
  | chargerTargetUpdate (cvOut : Nat)
  /-- HEADROOM_GUARD (R327). -/
  | headroomGuard
  /-- CHARGER_TARGET_TIMEOUT (R325). -/
  | chargerTargetTimeout
  /-- CV_TERMINATION (R325). -/
  | cvTermination
  /-- HOLD_ENTRY (R325). -/
  | holdEntry
  /-- HOLD_EXIT (R325). -/
  | holdExit
  /-- CHARGER_FAULT_CLEAR (R325). -/
  | chargerFaultClear
  /-- PRECHARGE_TIMEOUT (R324). -/
  | prechargeTimeout (storeMv : Nat)
  /-- UP_DELAY_ELAPSED (R338). -/
  | upDelayElapsed
  /-- INRUSH_ELAPSED (R336). -/
  | inrushElapsed (slot : Nat)
  /-- SLOT_READY (R336). -/
  | slotReady (slot vs ramp : Nat)
  /-- PG_TIMEOUT (R336). -/
  | pgTimeout (slot vs : Nat)
  /-- SLOT_FAULT (R339). -/
  | slotFault (slot cause vs : Nat) (delay : Option Nat)
  /-- SLOT_FALLEN (R336). -/
  | slotFallen (slot : Nat)
  /-- FALL_TIMEOUT (R336). -/
  | fallTimeout (slot : Nat)
  /-- RETRY_OFF_ELAPSED (R340). -/
  | retryOffElapsed (slot : Nat)
  /-- RETRY_COUNT_RESET (R340). -/
  | retryCountReset (slot : Nat)
  /-- WDI_EDGE (R345). -/
  | wdiEdge (gap : Nat)
  /-- WDI_TIMEOUT (R345). -/
  | wdiTimeout
  /-- VHEEL_LOSS (R347). -/
  | vheelLoss (inProgress : Bool)
  /-- HOLD_CHARGED (R347). -/
  | holdCharged
  /-- HEEL_RLOG_CLEAR (R349). -/
  | heelRlogClear (key : Nat)
  /-- LINK_TRAINED (R352). -/
  | linkTrained (k : Fin 3) (m0 m1 x80 x81 : Bool) (rate : Nat)
  /-- TRAIN_TIMEOUT (R352). -/
  | trainTimeout (k : Fin 3)
  /-- HELLO (R352). -/
  | hello (k : Fin 3) (version role guestId : Nat)
  /-- HELLO_ACK (R352). -/
  | helloAck (k : Fin 3) (version role guestId : Nat)
  /-- CREDIT (R361). -/
  | credit (k : Fin 3) (cls count : Nat)
  /-- READY (R352). -/
  | ready
  /-- PORT_RESET (R369). -/
  | portReset (cause : Nat)
  /-- PORT_RESET_ACK (R369). -/
  | portResetAck
  /-- PORT_RESET_ACK_TIMEOUT (R369). -/
  | portResetAckTimeout
  /-- GST_CTRL (R382). -/
  | gstCtrl (key : Nat)
  /-- ERR (R370). -/
  | err (fatal : Bool) (code : Nat)
  /-- GS_ALERT (R370). -/
  | gsAlert
  /-- TEMP_TIMEOUT (R370). -/
  | tempTimeout
  /-- TEMP (R372). -/
  | temp (t : Int)
  /-- INT (R367). -/
  | int (v : Nat)
  /-- EVT (R365). -/
  | evt
  /-- MRD (R364). -/
  | mrd (tid era ga hint : Nat)
  /-- MWR (R364). -/
  | mwr (tid era ga hint : Nat) (data : List Byte) (poison : Bool)
  /-- MWRP (R364). -/
  | mwrp (tid era ga hint : Nat) (data : List Byte) (mask : Nat) (poison : Bool)
  /-- CMP (R364). -/
  | cmp (tid : Nat)
  /-- DATA (R364). -/
  | data (tid : Nat)
  /-- DERR (R364). -/
  | derr (tid : Nat)
  /-- MMRD (R366). -/
  | mmrd
  /-- MMWR (R366). -/
  | mmwr
  /-- MMCPL (R366). -/
  | mmcpl (tid era status : Nat) (data : List Byte)
  /-- BAR4_READ (R366). -/
  | bar4Read (h : HeadId) (tag off n : Nat)
  /-- BAR4_WRITE (R366). -/
  | bar4Write (off : Nat) (data : List Byte)
  /-- MMIO_TIMEOUT (R366). -/
  | mmioTimeout (tid : Nat)
  /-- TID_QUARANTINE_END (R368). -/
  | tidQuarantineEnd (tid : Nat)
  /-- FLIT_CRC_ERROR (R356). -/
  | flitCrcError (flit : BadFlit)
  /-- NAK (R356). -/
  | nak (k : Fin 3) (ackSeq : Nat)
  /-- REPLAY_TIMEOUT (R356). -/
  | replayTimeout (k : Fin 3)
  /-- REPLAY_RETRAIN (R356). -/
  | replayRetrain (k : Fin 3)
  /-- MODULE_LOSS (R356). -/
  | moduleLoss (k : Fin 3) (upper : Bool)
  /-- SLEEP_PROPOSAL (R374). -/
  | sleepProposal
  /-- SLP_PREP (R375). -/
  | slpPrep (k : Fin 3) (busy : Bool)
  /-- SLP_ACK (R375). -/
  | slpAck (k : Fin 3) (n : Nat)
  /-- SLP_NAK (R375). -/
  | slpNak (k : Fin 3) (n : Nat)
  /-- SLEEP_ACK_TIMEOUT (R375). -/
  | sleepAckTimeout
  /-- SLP_GO (R376). -/
  | slpGo (k : Fin 3)
  /-- SLP_CANCEL (R375). -/
  | slpCancel (k : Fin 3)
  /-- SLP_WAKE (R376). -/
  | slpWake (k : Fin 3) (n : Nat)
  /-- SLEEP_ENTRY_COMPLETE (R376). -/
  | sleepEntryComplete
  /-- SLEEP_EXIT (R375). -/
  | sleepExit
  /-- FW_LOAD (R19). -/
  | fwLoad (d : Fin 2)
  /-- KEY (R219). -/
  | key (d : Fin 2)
  /-- SERVICE (R215). -/
  | service (d : Fin 2)
  /-- PERST_ASSERT (R98). -/
  | perstAssert (h : HeadId)
  /-- PERST_DEASSERT (R100). -/
  | perstDeassert (h : HeadId)
  /-- HOT_RESET (R98). -/
  | hotReset (h : HeadId)
  /-- LINK_DOWN_RESET (R98). -/
  | linkDownReset (h : HeadId)
  /-- CXL_RESET (R98). -/
  | cxlReset (h : HeadId)
  /-- FUNCTION_LEVEL_RESET (R98). -/
  | functionLevelReset (h : HeadId)
  /-- LINK_UP (R79). -/
  | linkUp (h : HeadId) (rate width : Nat) (flit256 : Bool) (link : LinkSetting)
  /-- HDM_DECODER_COMMIT (R85). -/
  | hdmDecoderCommit (h : HeadId) (dec : Fin 8) (base size ways gran target skip : Nat)
  /-- VIRAL (R88). -/
  | viral (h : HeadId)
  /-- GPF_PHASE_1 (R93). -/
  | gpfPhase1 (h : HeadId)
  /-- GPF_PHASE_2 (R93). -/
  | gpfPhase2 (h : HeadId)
  /-- GPF_TIMEOUT (R94). -/
  | gpfTimeout
  /-- PME_TURN_OFF (R102). -/
  | pmeTurnOff (h : HeadId)
  /-- ASPM_L1_ENTRY (R101). -/
  | aspmL1Entry (h : HeadId)
  /-- IDENTIFY_MEMORY_DEVICE (R89). -/
  | identifyMemoryDevice (h : HeadId) (tag : Nat)
  /-- GET_PARTITION_INFO (R89). -/
  | getPartitionInfo (h : HeadId) (tag : Nat)
  /-- SET_PARTITION_INFO (R89). -/
  | setPartitionInfo (h : HeadId) (tag : Nat)
  /-- GET_LSA (R91). -/
  | getLsa (h : HeadId) (tag off len : Nat)
  /-- SET_LSA (R91). -/
  | setLsa (h : HeadId) (tag off : Nat) (data : List Byte)
  /-- GET_HEALTH_INFO (R96). -/
  | getHealthInfo (h : HeadId) (tag : Nat) (temp : Int)
  /-- GET_ALERT_CONFIGURATION (R89). -/
  | getAlertConfiguration (h : HeadId) (tag : Nat)
  /-- SET_ALERT_CONFIGURATION (R89). -/
  | setAlertConfiguration (h : HeadId) (tag valid enable : Nat) (vals : List Nat)
  /-- GET_SHUTDOWN_STATE (R95). -/
  | getShutdownState (h : HeadId) (tag : Nat)
  /-- SET_SHUTDOWN_STATE (R95). -/
  | setShutdownState (h : HeadId) (tag : Nat) (dirty : Bool)
  /-- GET_POISON_LIST (R89). -/
  | getPoisonList (h : HeadId) (tag dpa lines : Nat)
  /-- INJECT_POISON (R89). -/
  | injectPoison (h : HeadId) (tag dpa : Nat)
  /-- CLEAR_POISON (R89). -/
  | clearPoison (h : HeadId) (tag dpa : Nat) (data : List Byte)
  /-- GET_SCAN_MEDIA_CAPABILITIES (R89). -/
  | getScanMediaCapabilities (h : HeadId) (tag dpa lines : Nat)
  /-- SCAN_MEDIA (R89). -/
  | scanMedia (h : HeadId) (tag dpa lines : Nat)
  /-- GET_SCAN_MEDIA_RESULTS (R89). -/
  | getScanMediaResults (h : HeadId) (tag : Nat)
  /-- SANITIZE (R90). -/
  | sanitize (h : HeadId) (tag : Nat)
  /-- SECURE_ERASE (R90). -/
  | secureErase (h : HeadId) (tag : Nat)
  /-- BACKGROUND_OPERATION_DONE (R90). -/
  | backgroundOperationDone (opcode : Nat)
  /-- GET_SECURITY_STATE (R89). -/
  | getSecurityState (h : HeadId) (tag : Nat)
  /-- SET_PASSPHRASE (R87). -/
  | setPassphrase (h : HeadId) (tag : Nat) (master : Bool) (old new : Nat)
  /-- DISABLE_PASSPHRASE (R87). -/
  | disablePassphrase (h : HeadId) (tag : Nat) (master : Bool) (pass : Nat)
  /-- UNLOCK (R87). -/
  | unlock (h : HeadId) (tag pass : Nat)
  /-- FREEZE_SECURITY_STATE (R87). -/
  | freezeSecurityState (h : HeadId) (tag : Nat)
  /-- PASSPHRASE_SECURE_ERASE (R89). -/
  | passphraseSecureErase (h : HeadId) (tag : Nat) (master : Bool) (pass : Nat)
  /-- GET_EVENT_RECORDS (R89). -/
  | getEventRecords (h : HeadId) (tag : Nat) (log : Fin 4)
  /-- CLEAR_EVENT_RECORDS (R89). -/
  | clearEventRecords (h : HeadId) (tag : Nat) (log : Fin 4) (all : Bool) (handles : List Nat)
  /-- GET_EVENT_INTERRUPT_POLICY (R89). -/
  | getEventInterruptPolicy (h : HeadId) (tag : Nat)
  /-- SET_EVENT_INTERRUPT_POLICY (R104). -/
  | setEventInterruptPolicy (h : HeadId) (tag policy : Nat)
  /-- GET_FW_INFO (R89). -/
  | getFwInfo (h : HeadId) (tag : Nat)
  /-- TRANSFER_FW (R402). -/
  | transferFw (h : HeadId) (tag action slot off len inCrc : Nat) (pkg : Option FwPackage)
  /-- TRANSFER_FW_TIMEOUT (R402). -/
  | transferFwTimeout
  /-- ACTIVATE_FW (R403). -/
  | activateFw (h : HeadId) (tag : Nat) (online : Bool) (slot : Nat)
  /-- PROVISIONAL_PERIOD_END (R404). -/
  | provisionalPeriodEnd
  /-- GET_TIMESTAMP (R92). -/
  | getTimestamp (h : HeadId) (tag : Nat)
  /-- SET_TIMESTAMP (R92). -/
  | setTimestamp (h : HeadId) (tag t : Nat)
  /-- GET_SUPPORTED_LOGS (R89). -/
  | getSupportedLogs (h : HeadId) (tag : Nat)
  /-- GET_LOG (R89). -/
  | getLog (h : HeadId) (tag : Nat) (vendor : Bool) (off len : Nat)
  /-- UNSUPPORTED_COMMAND (R76). -/
  | unsupportedCommand (h : HeadId) (tag : Nat) (cmd : RawCommand)
  /-- GET_JARICA_INFO (R388). -/
  | getJaricaInfo (h : HeadId) (tag era : Nat)
  /-- OPEN_SESSION (R385). -/
  | openSession (h : HeadId) (tag era : Nat)
  /-- GET_JOURNAL (R398). -/
  | getJournal (h : HeadId) (tag era start max filter : Nat)
  /-- STAGE_START (R389). -/
  | stageStart (h : HeadId) (tag era : Nat) (hdr : List Byte) (sizeCheck : Nat)
  /-- STAGE_DATA (R389). -/
  | stageData (h : HeadId) (tag era off : Nat) (data : List Byte) (good : Bool)
  /-- STAGE_FINISH (R389). -/
  | stageFinish (h : HeadId) (tag era : Nat) (img : ImageCopy)
  /-- STAGE_ABORT (R389). -/
  | stageAbort (h : HeadId) (tag era : Nat)
  /-- STAGING_IDLE_TIMEOUT (R389). -/
  | stagingIdleTimeout
  /-- RAISE_GENERATION_FLOOR (R390). -/
  | raiseGenerationFloor (h : HeadId) (tag era v : Nat)
  /-- PROGRAM_KEY_SLOT (R390). -/
  | programKeySlot (h : HeadId) (tag era slot hash : Nat)
  /-- REVOKE_KEY_SLOT (R390). -/
  | revokeKeySlot (h : HeadId) (tag era slot : Nat)
  /-- READ_INTEGRATOR_DATA (R388). -/
  | readIntegratorData (h : HeadId) (tag era inst off len : Nat)
  /-- SAVE_NOW (R391). -/
  | saveNow (h : HeadId) (tag era : Nat)
  /-- SET_RESTORE_TARGET (R391). -/
  | setRestoreTarget (h : HeadId) (tag era target : Nat) (once : Bool)
  /-- RELEASE_KEEP_IMAGE (R452). -/
  | releaseKeepImage (h : HeadId) (tag era : Nat)
  /-- RELEASE_DRAIN_DONE (R452). -/
  | releaseDrainDone
  /-- RELEASE_DRAIN_TIMEOUT (R452). -/
  | releaseDrainTimeout
  /-- RAISE_FIRMWARE_FLOOR (R390). -/
  | raiseFirmwareFloor (h : HeadId) (tag era v : Nat)
  /-- ADVANCE_FORMAT (R405). -/
  | advanceFormat (h : HeadId) (tag era f : Nat)
  /-- GET_DIAGNOSTICS (R388). -/
  | getDiagnostics (h : HeadId) (tag era mpa count : Nat)
  /-- SET_ALERT_ENABLES (R393). -/
  | setAlertEnables (h : HeadId) (tag era v : Nat)
  /-- HEEL_RESTORE_TGT (R239). -/
  | heelRestoreTgt (v : Nat)
  /-- SB_WRITE_TRANSFER (R413). -/
  | sbWriteTransfer (addr : Nat) (bytes : List Byte)
  /-- SB_READ_TRANSFER (R413). -/
  | sbReadTransfer (addr : Nat) (ptr : Option Nat) (n : Nat)
  /-- SB_QUICK_COMMAND (R409). -/
  | sbQuickCommand (addr : Nat)
  /-- SBB_IND_READ (R416). -/
  | sbbIndRead (late : Bool)
  /-- SBB_IND_WRITE (R416). -/
  | sbbIndWrite (v : Word)
  /-- SB_HANDOFF (R411). -/
  | sbHandoff (cut : Bool)
  /-- SB_CLOCK_LOW_TIMEOUT (R417). -/
  | sbClockLowTimeout (bytes : List Byte)
  /-- ALERT_RESPONSE_ADDRESS (R419). -/
  | alertResponseAddress (won : Bool)
  /-- SB_ALERT_ASSERT (R419). -/
  | sbAlertAssert
  /-- SBB_ALERT_PEND_CLEAR (R419). -/
  | sbbAlertPendClear (v : Word)
  /-- HOST_NOTIFY (R420). -/
  | hostNotify (acked : Bool)
  /-- HOST_NOTIFY_RETRY (R420). -/
  | hostNotifyRetry (acked : Bool)
  /-- ARBITRATION_LOST (R421). -/
  | arbitrationLost
  /-- EFL_HKEY (R428). -/
  | eflHkey (v : Word)
  /-- EFL_UNLOCK_TIMEOUT (R428). -/
  | eflUnlockTimeout
  /-- EFL_HBUF (R428). -/
  | eflHbuf (v : Word)
  /-- EFL_READ (R428). -/
  | eflRead (got : WordRead)
  /-- EFL_PROGRAM (R428). -/
  | eflProgram
  /-- EFL_ERASE (R428). -/
  | eflErase
  /-- EFL_BLANK_CHECK (R428). -/
  | eflBlankCheck
  /-- EFL_CLEAR_BUF (R428). -/
  | eflClearBuf
  /-- EFL_FETCH (R432). -/
  | eflFetch (addr stall : Nat) (ecc : EccRead)
  /-- EFL_RESUME (R432). -/
  | eflResume (bank : Fin 2)
  /-- EFL_OPERATION_DONE (R429). -/
  | eflOperationDone (bank : Fin 2) (failAt : Option Nat)
  /-- EVENT_RECORD (R435). -/
  | eventRecord (code source severity data : Nat)
  /-- FOLD_WINDOW_CLOSE (R439). -/
  | foldWindowClose (code source : Nat)
  /-- EVR_FLUSH (R437). -/
  | evrFlush
  /-- EVR_CLEAR (R440). -/
  | evrClear
  /-- EVR_FLUSH_CMD (R437). -/
  | evrFlushCmd
  /-- LO_READ_LATCH (R456). -/
  | loReadLatch (p : Path) (a : RegAccess)
  /-- REGISTER_WRITE (R4). -/
  | registerWrite (p : Path) (mpa v : Nat) (aligned : Bool)
  /-- IDLE_FLIT (R356). -/
  | idleFlit (k : Fin 3) (fseq ackSeq : Nat) (cra crb : Nat × Nat)
  /-- GUEST_RETRAIN_EXPIRY (R370). -/
  | guestRetrainExpiry
  /-- EFL_WAIT_BAND (R430). -/
  | eflWaitBand (vs : Nat)
  /-- ZERO_FRAME_FILL (R232). -/
  | zeroFrameFill (frame : Nat)
  /-- GUEST_L1_REQUEST (R375). -/
  | guestL1Request
  deriving DecidableEq, Repr

end Sys2Proof
end

