-- ==== Sys2Proof/Machine/Maps.lean ====
section
/-! DEFINITION. Sys2Proof/Machine/Maps.lean: sorted maps, byte memories in canonical form, sets of numbers, byte strings
and the CRC-32 of R51. -/
namespace Sys2Proof.Machine

/-! Sorted maps. -/

/-- The value at a key, if the key is listed. -/
def mapFind {α : Type} : AMap α → Nat → Option α
  | [], _ => none
  | (k, v) :: m, i => if k = i then some v else mapFind m i

/-- The value at a key, or the default of an unlisted key. -/
def mapGet {α : Type} (d : α) (m : AMap α) (i : Nat) : α := (mapFind m i).getD d

/-- Remove a key. -/
def mapErase {α : Type} : AMap α → Nat → AMap α
  | [], _ => []
  | (k, v) :: m, i => if k = i then mapErase m i else (k, v) :: mapErase m i

/-- Put a value at a key, keeping the keys rising. -/
def mapPut {α : Type} : AMap α → Nat → α → AMap α
  | [], i, x => [(i, x)]
  | (k, v) :: m, i, x =>
    if i < k then (i, x) :: (k, v) :: m
    else if k = i then (i, x) :: m
    else (k, v) :: mapPut m i x

/-- Put a value at a key of a canonical map: writing the default removes the entry. -/
def mapSet {α : Type} [DecidableEq α] (d : α) (m : AMap α) (i : Nat) (x : α) : AMap α :=
  if x = d then mapErase m i else mapPut m i x

/-- Change the value at a key. -/
def mapUpd {α : Type} [DecidableEq α] (d : α) (m : AMap α) (i : Nat) (f : α → α) : AMap α :=
  mapSet d m i (f (mapGet d m i))

/-- The keys rise strictly, from a lower bound on. -/
def mapRising {α : Type} : Option Nat → AMap α → Bool
  | _, [] => true
  | none, (k, _) :: m => mapRising (some k) m
  | some b, (k, _) :: m => decide (b < k) && mapRising (some k) m

/-- The canonical form of a map: keys rise strictly, and no entry holds the default. -/
def mapWf {α : Type} [DecidableEq α] (d : α) (m : AMap α) : Bool :=
  mapRising none m && m.all (fun e => decide (e.2 ≠ d))

/-! Sets of numbers, held as strictly rising lists. -/

/-- Add a number to a set. -/
def setAdd : List Nat → Nat → List Nat
  | [], i => [i]
  | k :: m, i => if i < k then i :: k :: m else if k = i then k :: m else k :: setAdd m i

/-- Take a number out of a set. -/
def setDel : List Nat → Nat → List Nat
  | [], _ => []
  | k :: m, i => if k = i then m else k :: setDel m i

/-! Byte memories: the cells of Host.Core, addresses strictly rising, no cell equal to what an unlisted byte reads as. -/

/-- Read one byte; `e` is what an unlisted byte reads as. -/
def memRead (e : Byte) (m : List Host.Cell) (a : Nat) : Byte := mapGet e m a

/-- Write one byte, keeping the canonical form. -/
def memWrite (e : Byte) (m : List Host.Cell) (a : Nat) (b : Byte) : List Host.Cell := mapSet e m a b

/-- Write the bytes of a list from an address on. -/
def memWriteList (e : Byte) (m : List Host.Cell) (a : Nat) : List Byte → List Host.Cell
  | [] => m
  | b :: bs => memWriteList e (memWrite e m a b) (a + 1) bs

/-- Write the bytes of a list whose bit in the enable mask is set. -/
def memWriteMasked (e : Byte) (m : List Host.Cell) (a : Nat) (mask : Nat) : List Byte → List Host.Cell
  | [] => m
  | b :: bs => memWriteMasked e (if mask % 2 = 1 then memWrite e m a b else m) (a + 1) (mask / 2) bs

/-- Read `n` bytes from an address on. -/
def memReadList (e : Byte) (m : List Host.Cell) (a : Nat) : Nat → List Byte
  | 0 => []
  | n + 1 => memRead e m a :: memReadList e m (a + 1) n

/-- The canonical form of a byte memory. -/
def memWf (e : Byte) (m : List Host.Cell) : Bool := mapWf e m

/-- Remove the cells of an address range: they read as unlisted bytes again. -/
def memClear (m : List Host.Cell) (a n : Nat) : List Host.Cell :=
  m.filter (fun c => !(decide (a ≤ c.1) && decide (c.1 < a + n)))

/-- The cells of an address range, at addresses relative to its start. -/
def memSlice (m : List Host.Cell) (a n : Nat) : List Host.Cell :=
  (m.filter (fun c => decide (a ≤ c.1) && decide (c.1 < a + n))).map (fun c => (c.1 - a, c.2))

/-- Put the cells of a slice at an address: each cell is written. -/
def memPutSlice (e : Byte) (m : List Host.Cell) (a : Nat) (sl : List Host.Cell) : List Host.Cell :=
  sl.foldl (fun m c => memWrite e m (a + c.1) c.2) m

/-! Numbers and bits. -/

/-- Bits `lo + w - 1 .. lo` of a number. -/
def bitsOf (v lo w : Nat) : Nat := v / 2 ^ lo % 2 ^ w

/-- A truth value as a bit. -/
def b2n (b : Bool) : Nat := if b then 1 else 0

/-- Set one bit of a number held as a bitmap. -/
def bitSet (m i : Nat) : Nat := m ||| 1 <<< i

/-- Clear one bit of a bitmap. -/
def bitClr (m i : Nat) : Nat := if m.testBit i then m - 1 <<< i else m

/-- The number of set bits among the lowest `n`. -/
def popCount (m : Nat) : Nat → Nat
  | 0 => 0
  | n + 1 => popCount (m / 2) n + m % 2

/-- The lowest index below `n` (counting from `i`) at which a test holds. -/
def firstFrom (p : Nat → Bool) : Nat → Nat → Option Nat
  | _, 0 => none
  | i, n + 1 => if p i then some i else firstFrom p (i + 1) n

/-- An increment that saturates at the largest value of a width. -/
def satInc (w v : Nat) : Nat := min (v + 1) (2 ^ w - 1)

/-- The signed value of a two's-complement field. -/
def signedOf (w v : Nat) : Int := if v < 2 ^ (w - 1) then (v : Int) else (v : Int) - 2 ^ w

/-- A signed value as a two's-complement field. -/
def fieldOf (w : Nat) (v : Int) : Nat := (v % 2 ^ w).toNat

/-! Byte strings, least significant byte first. -/

/-- The `n` bytes of a number, least significant first. -/
def leBytes (v : Nat) : Nat → List Byte
  | 0 => []
  | n + 1 => BitVec.ofNat 8 v :: leBytes (v / 256) n

/-- The number that a byte string spells, least significant byte first. -/
def leNat : List Byte → Nat
  | [] => 0
  | b :: bs => b.toNat + 256 * leNat bs

/-- One bit step of the reflected CRC-32 of R51. -/
def crcBit (c : Nat) : Nat := if c % 2 = 1 then (c / 2) ^^^ 0xEDB88320 else c / 2

/-- One byte of the reflected CRC-32 of R51. -/
def crcByte (c : Nat) (b : Byte) : Nat :=
  crcBit (crcBit (crcBit (crcBit (crcBit (crcBit (crcBit (crcBit (c ^^^ b.toNat))))))))

/-- The CRC-32 of R51: polynomial 0x04C1_1DB7 reflected, initial value and final XOR 0xFFFF_FFFF. -/
def crc32 (bs : List Byte) : Nat := (bs.foldl crcByte 0xFFFFFFFF) ^^^ 0xFFFFFFFF

end Sys2Proof.Machine
end

