-- ==== Sys2Proof/Config.lean ====
section
/-! DEFINITION. Sys2Proof/Config.lean: what the spec leaves open and the model therefore leaves free. A free value is an
opaque constant without a body, applied to the counter `fresh` of the state (log entry 2): no proof can learn a value. -/
namespace Sys2Proof.Config

/-- Free value: one number, drawn with the state's counter. -/
opaque freeValue : Nat → Nat

/-- Free value: one byte. -/
opaque freeByte : Nat → BitVec 8

/-- Free value: one yes or no. -/
opaque freeBit : Nat → Bool

/-- The hub key: 32 bytes in one-time-programmable fuses that no register shows (R219). -/
opaque hubKey : List (BitVec 8)

/-- AES-256 key wrap of a key under a key (R219), left uninterpreted. -/
opaque keyWrap : List (BitVec 8) → List (BitVec 8) → List (BitVec 8)

/-- The key stream byte `i` of AES-256-GCM under a key and an IV (R220), left uninterpreted. -/
opaque gcmStream : List (BitVec 8) → Nat → Nat → BitVec 8

/-- The 128-bit tag of AES-256-GCM: key, IV, associated data, ciphertext (R220), left uninterpreted. -/
opaque gcmTag : List (BitVec 8) → Nat → List (BitVec 8) → List (BitVec 8) → Nat

/-- Byte `i` of the LDPC parity of a codeword's payload and metadata (R252): the spec gives no parity matrix. -/
opaque ldpcParity : List (BitVec 8) → Nat → BitVec 8

/-- What follows the common bits of a save-die message other than KEY: opcode, fields, data (R377 gives no layout). -/
opaque sdFields : Nat → List Nat → List (BitVec 8) → List (BitVec 8)

end Sys2Proof.Config
end

