-- ==== Sys2Proof/Machine/Regs.lean ====
section
/-! DEFINITION. Sys2Proof/Machine/Regs.lean: the fields of the management registers (R3), one constant for each field
of the field tables of the spec, and the register table that a whole-register access (R4, R5) walks. A wide pair _LO/_HI
(R456) is one field of 64 bits at the address of its _LO register. -/
namespace Sys2Proof.Machine

/-- A register field: its register's management address, its lowest bit and its width. -/
structure Fld where
  mpa : Nat
  lo : Nat
  width : Nat
  deriving DecidableEq, Repr

/-- The access codes of R4. -/
inductive Acc where
  | ro | rw | rwl | w1c | wo
  deriving DecidableEq, Repr

/-- The key under which a field stands in the register field map. -/
def Fld.key (f : Fld) : Nat := f.mpa * 64 + f.lo

namespace Reg


/-! HUB_ID (R73, 03_configuration_and_startup.md). -/
def HUB_ID.PART : Fld := ⟨0x10000, 0, 16⟩
def HUB_ID.VARIANT : Fld := ⟨0x10000, 16, 8⟩
def HUB_ID.FAMILY : Fld := ⟨0x10000, 24, 8⟩

/-! HUB_STEPPING (R73, 03_configuration_and_startup.md). -/
def HUB_STEPPING.HUB : Fld := ⟨0x10004, 0, 4⟩
def HUB_STEPPING.S0 : Fld := ⟨0x10004, 4, 4⟩
def HUB_STEPPING.S1 : Fld := ⟨0x10004, 8, 4⟩

/-! HUB_SERIAL_LO (R73, 03_configuration_and_startup.md). -/
def HUB_SERIAL_LO.VALUE : Fld := ⟨0x10008, 0, 32⟩

/-! HUB_SERIAL_HI (R73, 03_configuration_and_startup.md). -/
def HUB_SERIAL_HI.VALUE : Fld := ⟨0x1000c, 0, 32⟩

/-! HUB_CFG_STATUS (R73, 03_configuration_and_startup.md). -/
def HUB_CFG_STATUS.LOCKED : Fld := ⟨0x10010, 0, 1⟩
def HUB_CFG_STATUS.ACTIVE_COPY : Fld := ⟨0x10010, 1, 1⟩
def HUB_CFG_STATUS.FALLBACK : Fld := ⟨0x10010, 2, 1⟩
def HUB_CFG_STATUS.STAGED : Fld := ⟨0x10010, 3, 1⟩
def HUB_CFG_STATUS.DIR_DUP : Fld := ⟨0x10010, 4, 1⟩
def HUB_CFG_STATUS.REJECT_A : Fld := ⟨0x10010, 8, 4⟩
def HUB_CFG_STATUS.REJECT_B : Fld := ⟨0x10010, 12, 4⟩

/-! HUB_CFG_GEN (R73, 03_configuration_and_startup.md). -/
def HUB_CFG_GEN.VALUE : Fld := ⟨0x10014, 0, 32⟩

/-! HUB_CFG_FLOOR (R73, 03_configuration_and_startup.md). -/
def HUB_CFG_FLOOR.VALUE : Fld := ⟨0x10018, 0, 32⟩

/-! HUB_CFG_LOCK (R73, 03_configuration_and_startup.md). -/
def HUB_CFG_LOCK.LOCK : Fld := ⟨0x1001c, 0, 1⟩

/-! HUB_RESET_CAUSE (R73, 03_configuration_and_startup.md). -/
def HUB_RESET_CAUSE.FW_CMD : Fld := ⟨0x10020, 0, 1⟩
def HUB_RESET_CAUSE.FW_WDOG : Fld := ⟨0x10020, 1, 1⟩
def HUB_RESET_CAUSE.FW_ACTIVATE : Fld := ⟨0x10020, 2, 1⟩
def HUB_RESET_CAUSE.FW_DEBUG : Fld := ⟨0x10020, 3, 1⟩
def HUB_RESET_CAUSE.S0 : Fld := ⟨0x10020, 4, 1⟩
def HUB_RESET_CAUSE.S1 : Fld := ⟨0x10020, 5, 1⟩
def HUB_RESET_CAUSE.CXL0_PERST : Fld := ⟨0x10020, 8, 1⟩
def HUB_RESET_CAUSE.CXL0_HOT : Fld := ⟨0x10020, 9, 1⟩
def HUB_RESET_CAUSE.CXL1_PERST : Fld := ⟨0x10020, 10, 1⟩
def HUB_RESET_CAUSE.CXL1_HOT : Fld := ⟨0x10020, 11, 1⟩

/-! HUB_FW_RESET (R73, 03_configuration_and_startup.md). -/
def HUB_FW_RESET.KEY : Fld := ⟨0x10024, 0, 16⟩

/-! HUB_RESTART (R73, 03_configuration_and_startup.md). -/
def HUB_RESTART.KEY : Fld := ⟨0x10028, 0, 16⟩

/-! HUB_DOMAIN_STATUS (R73, 03_configuration_and_startup.md). -/
def HUB_DOMAIN_STATUS.CORE_RUN : Fld := ⟨0x1002c, 0, 4⟩
def HUB_DOMAIN_STATUS.S0_IN_SERVICE : Fld := ⟨0x1002c, 4, 1⟩
def HUB_DOMAIN_STATUS.S1_IN_SERVICE : Fld := ⟨0x1002c, 5, 1⟩
def HUB_DOMAIN_STATUS.CXL0_UP : Fld := ⟨0x1002c, 8, 1⟩
def HUB_DOMAIN_STATUS.CXL1_UP : Fld := ⟨0x1002c, 9, 1⟩
def HUB_DOMAIN_STATUS.GUEST_OPEN : Fld := ⟨0x1002c, 10, 1⟩

/-! HUB_FW_RESET_COUNT (R73, 03_configuration_and_startup.md). -/
def HUB_FW_RESET_COUNT.TOTAL : Fld := ⟨0x10030, 0, 16⟩
def HUB_FW_RESET_COUNT.FAILED_RUN : Fld := ⟨0x10030, 16, 4⟩

/-! HEEL_STATE (R74, 03_configuration_and_startup.md). -/
def HEEL_STATE.STATE : Fld := ⟨0xb0000, 0, 4⟩
def HEEL_STATE.PREVIOUS : Fld := ⟨0xb0000, 4, 4⟩

/-! HEEL_WAKE_CMD (R74, 03_configuration_and_startup.md). -/
def HEEL_WAKE_CMD.KEY : Fld := ⟨0xb0004, 0, 16⟩

/-! HEEL_WAKE_CFG (R74, 03_configuration_and_startup.md). -/
def HEEL_WAKE_CFG.AUTO_WAKE : Fld := ⟨0xb0008, 0, 1⟩

/-! HEEL_WAKE_STATUS (R74, 03_configuration_and_startup.md). -/
def HEEL_WAKE_STATUS.RESULT : Fld := ⟨0xb000c, 0, 4⟩
def HEEL_WAKE_STATUS.STEP : Fld := ⟨0xb000c, 4, 4⟩
def HEEL_WAKE_STATUS.SLOT : Fld := ⟨0xb000c, 8, 4⟩
def HEEL_WAKE_STATUS.SLOT_VALID : Fld := ⟨0xb000c, 12, 1⟩
def HEEL_WAKE_STATUS.FAIL_COUNT : Fld := ⟨0xb000c, 16, 8⟩
def HEEL_WAKE_STATUS.RESTART_PENDING : Fld := ⟨0xb000c, 24, 1⟩
def HEEL_WAKE_STATUS.NEW : Fld := ⟨0xb000c, 31, 1⟩

/-! MEM_CAPACITY (R106, 04_cxl_port.md). -/
def MEM_CAPACITY.UNITS : Fld := ⟨0x20000, 0, 16⟩
def MEM_CAPACITY.SHADOW_UNITS : Fld := ⟨0x20000, 16, 9⟩

/-! MEM_PORT_CFG (R106, 04_cxl_port.md). -/
def MEM_PORT_CFG.TWO_HEAD : Fld := ⟨0x20004, 0, 1⟩
def MEM_PORT_CFG.SRIS0 : Fld := ⟨0x20004, 1, 1⟩
def MEM_PORT_CFG.SRIS1 : Fld := ⟨0x20004, 2, 1⟩
def MEM_PORT_CFG.PTM_HEAD : Fld := ⟨0x20004, 3, 1⟩
def MEM_PORT_CFG.GPF_POLICY : Fld := ⟨0x20004, 4, 1⟩
def MEM_PORT_CFG.GPF_TIMEOUT : Fld := ⟨0x20004, 5, 10⟩
def MEM_PORT_CFG.ASPM_L1_IDLE : Fld := ⟨0x20004, 16, 11⟩

/-! MEM_H0_WIN_BASE (R106, 04_cxl_port.md). -/
def MEM_H0_WIN_BASE.VALUE : Fld := ⟨0x20008, 0, 16⟩

/-! MEM_H0_WIN_SIZE (R106, 04_cxl_port.md). -/
def MEM_H0_WIN_SIZE.VALUE : Fld := ⟨0x2000c, 0, 16⟩

/-! MEM_H1_WIN_BASE (R106, 04_cxl_port.md). -/
def MEM_H1_WIN_BASE.VALUE : Fld := ⟨0x20010, 0, 16⟩

/-! MEM_H1_WIN_SIZE (R106, 04_cxl_port.md). -/
def MEM_H1_WIN_SIZE.VALUE : Fld := ⟨0x20014, 0, 16⟩

/-! MEM_HDM_STATUS (R106, 04_cxl_port.md). -/
def MEM_HDM_STATUS.H0_COMMITTED : Fld := ⟨0x20018, 0, 8⟩
def MEM_HDM_STATUS.H1_COMMITTED : Fld := ⟨0x20018, 8, 8⟩
def MEM_HDM_STATUS.H0_ERR : Fld := ⟨0x20018, 16, 8⟩
def MEM_HDM_STATUS.H1_ERR : Fld := ⟨0x20018, 24, 8⟩

/-! MEM_ACCESS_STATUS (R106, 04_cxl_port.md). -/
def MEM_ACCESS_STATUS.H0_INTAKE : Fld := ⟨0x2001c, 0, 1⟩
def MEM_ACCESS_STATUS.H1_INTAKE : Fld := ⟨0x2001c, 1, 1⟩
def MEM_ACCESS_STATUS.H0_MEM_ACTIVE : Fld := ⟨0x2001c, 2, 1⟩
def MEM_ACCESS_STATUS.H1_MEM_ACTIVE : Fld := ⟨0x2001c, 3, 1⟩
def MEM_ACCESS_STATUS.LOCKED : Fld := ⟨0x2001c, 4, 1⟩
def MEM_ACCESS_STATUS.FROZEN : Fld := ⟨0x2001c, 5, 1⟩
def MEM_ACCESS_STATUS.H0_VIRAL : Fld := ⟨0x2001c, 6, 1⟩
def MEM_ACCESS_STATUS.H1_VIRAL : Fld := ⟨0x2001c, 7, 1⟩
def MEM_ACCESS_STATUS.SHUTDOWN_DIRTY : Fld := ⟨0x2001c, 8, 1⟩
def MEM_ACCESS_STATUS.BG_BUSY : Fld := ⟨0x2001c, 9, 1⟩
def MEM_ACCESS_STATUS.GPF_PENDING : Fld := ⟨0x2001c, 10, 1⟩

/-! MEM_LINK_STATUS (R106, 04_cxl_port.md). -/
def MEM_LINK_STATUS.H0_RATE : Fld := ⟨0x20020, 0, 3⟩
def MEM_LINK_STATUS.H0_WIDTH : Fld := ⟨0x20020, 3, 5⟩
def MEM_LINK_STATUS.H0_FLIT256 : Fld := ⟨0x20020, 8, 1⟩
def MEM_LINK_STATUS.H0_LOPT : Fld := ⟨0x20020, 9, 1⟩
def MEM_LINK_STATUS.H0_L1 : Fld := ⟨0x20020, 10, 1⟩
def MEM_LINK_STATUS.H0_HELD_L2 : Fld := ⟨0x20020, 11, 1⟩
def MEM_LINK_STATUS.H1_RATE : Fld := ⟨0x20020, 16, 3⟩
def MEM_LINK_STATUS.H1_WIDTH : Fld := ⟨0x20020, 19, 5⟩
def MEM_LINK_STATUS.H1_FLIT256 : Fld := ⟨0x20020, 24, 1⟩
def MEM_LINK_STATUS.H1_LOPT : Fld := ⟨0x20020, 25, 1⟩
def MEM_LINK_STATUS.H1_L1 : Fld := ⟨0x20020, 26, 1⟩
def MEM_LINK_STATUS.H1_HELD_L2 : Fld := ⟨0x20020, 27, 1⟩

/-! MEM_DSC (R106, 04_cxl_port.md). -/
def MEM_DSC.COUNT : Fld := ⟨0x20024, 0, 32⟩

/-! HEEL_CXL_WAKE (R107, 04_cxl_port.md). -/
def HEEL_CXL_WAKE.PEND0 : Fld := ⟨0xb0010, 0, 1⟩
def HEEL_CXL_WAKE.PEND1 : Fld := ⟨0xb0010, 1, 1⟩
def HEEL_CXL_WAKE.DRIVEN0 : Fld := ⟨0xb0010, 2, 1⟩
def HEEL_CXL_WAKE.DRIVEN1 : Fld := ⟨0xb0010, 3, 1⟩
def HEEL_CXL_WAKE.COUNT0 : Fld := ⟨0xb0010, 8, 8⟩
def HEEL_CXL_WAKE.COUNT1 : Fld := ⟨0xb0010, 16, 8⟩
def HEEL_CXL_WAKE.NEW : Fld := ⟨0xb0010, 31, 1⟩

/-! MEM_PIPE_QOS (R133, 05_memory_pipeline.md). -/
def MEM_PIPE_QOS.W_H0 : Fld := ⟨0x20100, 0, 4⟩
def MEM_PIPE_QOS.W_H1 : Fld := ⟨0x20100, 4, 4⟩
def MEM_PIPE_QOS.W_G : Fld := ⟨0x20100, 8, 4⟩

/-! MEM_THROTTLE_CFG (R133, 05_memory_pipeline.md). -/
def MEM_THROTTLE_CFG.TRICKLE : Fld := ⟨0x20104, 0, 10⟩

/-! MEM_THROTTLE_STATUS (R133, 05_memory_pipeline.md). -/
def MEM_THROTTLE_STATUS.BAND : Fld := ⟨0x20108, 0, 2⟩
def MEM_THROTTLE_STATUS.HELD_H0 : Fld := ⟨0x20108, 4, 1⟩
def MEM_THROTTLE_STATUS.HELD_H1 : Fld := ⟨0x20108, 5, 1⟩
def MEM_THROTTLE_STATUS.HELD_G : Fld := ⟨0x20108, 6, 1⟩
def MEM_THROTTLE_STATUS.TOKENS : Fld := ⟨0x20108, 16, 9⟩

/-! MEM_THROTTLE_HOLDS (R133, 05_memory_pipeline.md). -/
def MEM_THROTTLE_HOLDS.COUNT : Fld := ⟨0x2010c, 0, 32⟩

/-! MEM_CSN (R133, 05_memory_pipeline.md). -/
def MEM_CSN.CSN : Fld := ⟨0x20110, 0, 64⟩

/-! MEM_SRC_OCC (R133, 05_memory_pipeline.md). -/
def MEM_SRC_OCC.H0 : Fld := ⟨0x20118, 0, 9⟩
def MEM_SRC_OCC.H1 : Fld := ⟨0x20118, 9, 9⟩
def MEM_SRC_OCC.G : Fld := ⟨0x20118, 18, 9⟩

/-! MEM_SRC_HOLD (R133, 05_memory_pipeline.md). -/
def MEM_SRC_HOLD.H0_REASON : Fld := ⟨0x2011c, 0, 4⟩
def MEM_SRC_HOLD.H1_REASON : Fld := ⟨0x2011c, 4, 4⟩
def MEM_SRC_HOLD.G_REASON : Fld := ⟨0x2011c, 8, 4⟩

/-! MEM_CH_HOL (R133, 05_memory_pipeline.md). -/
def MEM_CH_HOL.UNITS (n : Nat) : Fld := ⟨0x20120 + 0x4 * n, 0, 32⟩

/-! MEM_UNDECODED (R133, 05_memory_pipeline.md). -/
def MEM_UNDECODED.H0 : Fld := ⟨0x20140, 0, 16⟩
def MEM_UNDECODED.H1 : Fld := ⟨0x20140, 16, 16⟩

/-! MEM_POISON_COUNT (R133, 05_memory_pipeline.md). -/
def MEM_POISON_COUNT.RD : Fld := ⟨0x20144, 0, 16⟩
def MEM_POISON_COUNT.WR : Fld := ⟨0x20144, 16, 16⟩

/-! MEM_ILV_CFG (R165, 06_dram_and_calibration.md). -/
def MEM_ILV_CFG.CH4 : Fld := ⟨0x20200, 0, 1⟩
def MEM_ILV_CFG.GRAIN : Fld := ⟨0x20200, 1, 3⟩
def MEM_ILV_CFG.HASH : Fld := ⟨0x20200, 4, 1⟩
def MEM_ILV_CFG.MAP_MODE : Fld := ⟨0x20200, 5, 1⟩
def MEM_ILV_CFG.BANK_XOR : Fld := ⟨0x20200, 6, 1⟩

/-! MEM_HINT_H0 (R165, 06_dram_and_calibration.md). -/
def MEM_HINT_H0.HINT (d : Nat) : Fld := ⟨0x20204, 2 * d, 2⟩

/-! MEM_HINT_H1 (R165, 06_dram_and_calibration.md). -/
def MEM_HINT_H1.HINT (d : Nat) : Fld := ⟨0x20208, 2 * d, 2⟩

/-! DRC_TOPO (R166, 06_dram_and_calibration.md). -/
def DRC_TOPO.POPULATED (n : Nat) : Fld := ⟨0x30000 + 0x1000 * n, 0, 1⟩
def DRC_TOPO.RANKS (n : Nat) : Fld := ⟨0x30000 + 0x1000 * n, 1, 1⟩
def DRC_TOPO.STACK (n : Nat) : Fld := ⟨0x30000 + 0x1000 * n, 2, 2⟩
def DRC_TOPO.DENSITY (n : Nat) : Fld := ⟨0x30000 + 0x1000 * n, 4, 1⟩
def DRC_TOPO.SPEED (n : Nat) : Fld := ⟨0x30000 + 0x1000 * n, 5, 3⟩
def DRC_TOPO.REF_SB (n : Nat) : Fld := ⟨0x30000 + 0x1000 * n, 8, 1⟩
def DRC_TOPO.WCRC_EN (n : Nat) : Fld := ⟨0x30000 + 0x1000 * n, 9, 1⟩

/-! DRC_QUEUE_CFG (R166, 06_dram_and_calibration.md). -/
def DRC_QUEUE_CFG.WM_HIGH (n : Nat) : Fld := ⟨0x30004 + 0x1000 * n, 0, 7⟩
def DRC_QUEUE_CFG.WM_LOW (n : Nat) : Fld := ⟨0x30004 + 0x1000 * n, 8, 7⟩
def DRC_QUEUE_CFG.WR_AGE (n : Nat) : Fld := ⟨0x30004 + 0x1000 * n, 16, 4⟩

/-! DRC_PAGE_CFG (R166, 06_dram_and_calibration.md). -/
def DRC_PAGE_CFG.OPEN_IDLE (n : Nat) : Fld := ⟨0x30008 + 0x1000 * n, 0, 8⟩
def DRC_PAGE_CFG.AUTO_IDLE (n : Nat) : Fld := ⟨0x30008 + 0x1000 * n, 8, 8⟩
def DRC_PAGE_CFG.REEL_AGE (n : Nat) : Fld := ⟨0x30008 + 0x1000 * n, 16, 8⟩

/-! DRC_STATUS (R166, 06_dram_and_calibration.md). -/
def DRC_STATUS.STATE (n : Nat) : Fld := ⟨0x3000c + 0x1000 * n, 0, 3⟩
def DRC_STATUS.BATCH (n : Nat) : Fld := ⟨0x3000c + 0x1000 * n, 3, 1⟩
def DRC_STATUS.POSTPONED (n : Nat) : Fld := ⟨0x3000c + 0x1000 * n, 4, 3⟩
def DRC_STATUS.FAST_REF (n : Nat) : Fld := ⟨0x3000c + 0x1000 * n, 7, 1⟩
def DRC_STATUS.RQ_OCC (n : Nat) : Fld := ⟨0x3000c + 0x1000 * n, 8, 7⟩
def DRC_STATUS.WQ_OCC (n : Nat) : Fld := ⟨0x3000c + 0x1000 * n, 16, 7⟩

/-! DRC_ECC_CE (R166, 06_dram_and_calibration.md). -/
def DRC_ECC_CE.COUNT (n : Nat) : Fld := ⟨0x30010 + 0x1000 * n, 0, 32⟩

/-! DRC_ECC_UE (R166, 06_dram_and_calibration.md). -/
def DRC_ECC_UE.COUNT (n : Nat) : Fld := ⟨0x30014 + 0x1000 * n, 0, 32⟩

/-! DRC_ECC_LAST (R166, 06_dram_and_calibration.md). -/
def DRC_ECC_LAST.TYPE (n : Nat) : Fld := ⟨0x30018 + 0x1000 * n, 0, 2⟩
def DRC_ECC_LAST.SUBCH (n : Nat) : Fld := ⟨0x30018 + 0x1000 * n, 2, 1⟩
def DRC_ECC_LAST.RANK (n : Nat) : Fld := ⟨0x30018 + 0x1000 * n, 3, 1⟩
def DRC_ECC_LAST.CID (n : Nat) : Fld := ⟨0x30018 + 0x1000 * n, 4, 2⟩
def DRC_ECC_LAST.DEVICE (n : Nat) : Fld := ⟨0x30018 + 0x1000 * n, 8, 4⟩

/-! DRC_ECC_LAST_DPA (R166, 06_dram_and_calibration.md). -/
def DRC_ECC_LAST_DPA.DPA (n : Nat) : Fld := ⟨0x3001c + 0x1000 * n, 0, 64⟩

/-! DRC_MARK (R166, 06_dram_and_calibration.md). -/
def DRC_MARK.DEVICE (n j : Nat) : Fld := ⟨0x30024 + 0x1000 * n, 8 * j, 4⟩
def DRC_MARK.VALID (n j : Nat) : Fld := ⟨0x30024 + 0x1000 * n, 8 * j + 7, 1⟩

/-! DRC_REPAIR (R166, 06_dram_and_calibration.md). -/
def DRC_REPAIR.SOFT (n : Nat) : Fld := ⟨0x30028 + 0x1000 * n, 0, 8⟩
def DRC_REPAIR.HARD_PENDING (n : Nat) : Fld := ⟨0x30028 + 0x1000 * n, 8, 8⟩
def DRC_REPAIR.HARD_DONE (n : Nat) : Fld := ⟨0x30028 + 0x1000 * n, 16, 8⟩
def DRC_REPAIR.NO_RESOURCE (n : Nat) : Fld := ⟨0x30028 + 0x1000 * n, 24, 8⟩

/-! DRC_SCRUB_CFG (R166, 06_dram_and_calibration.md). -/
def DRC_SCRUB_CFG.PERIOD (n : Nat) : Fld := ⟨0x3002c + 0x1000 * n, 0, 8⟩
def DRC_SCRUB_CFG.ENABLE (n : Nat) : Fld := ⟨0x3002c + 0x1000 * n, 8, 1⟩

/-! DRC_SCRUB_STATUS (R166, 06_dram_and_calibration.md). -/
def DRC_SCRUB_STATUS.PASSES (n : Nat) : Fld := ⟨0x30030 + 0x1000 * n, 0, 16⟩
def DRC_SCRUB_STATUS.PERCENT (n : Nat) : Fld := ⟨0x30030 + 0x1000 * n, 16, 7⟩

/-! DRC_WCRC (R166, 06_dram_and_calibration.md). -/
def DRC_WCRC.RETRIES (n : Nat) : Fld := ⟨0x30034 + 0x1000 * n, 0, 24⟩
def DRC_WCRC.RECAL (n : Nat) : Fld := ⟨0x30034 + 0x1000 * n, 24, 8⟩

/-! CAL_CFG (R167, 06_dram_and_calibration.md). -/
def CAL_CFG.DRAM_DT : Fld := ⟨0x40000, 0, 5⟩
def CAL_CFG.FLASH_DT : Fld := ⟨0x40000, 8, 5⟩
def CAL_CFG.MAX_INTERVAL : Fld := ⟨0x40000, 16, 8⟩
def CAL_CFG.EYE_MIN : Fld := ⟨0x40000, 24, 8⟩

/-! CAL_CTRL (R167, 06_dram_and_calibration.md). -/
def CAL_CTRL.RUN_DRAM : Fld := ⟨0x40004, 0, 1⟩
def CAL_CTRL.RUN_FLASH : Fld := ⟨0x40004, 1, 1⟩

/-! CAL_STATUS (R167, 06_dram_and_calibration.md). -/
def CAL_STATUS.DRAM_BUSY : Fld := ⟨0x40008, 0, 1⟩
def CAL_STATUS.FLASH_BUSY : Fld := ⟨0x40008, 1, 1⟩
def CAL_STATUS.DRAM_CH : Fld := ⟨0x40008, 2, 3⟩
def CAL_STATUS.STORE_PENDING : Fld := ⟨0x40008, 5, 1⟩
def CAL_STATUS.DRAM_SLOT : Fld := ⟨0x40008, 6, 1⟩
def CAL_STATUS.FLASH_SLOT : Fld := ⟨0x40008, 7, 1⟩
def CAL_STATUS.CRC_FAIL_W7 : Fld := ⟨0x40008, 8, 1⟩

/-! CAL_LANE_SEL (R167, 06_dram_and_calibration.md). -/
def CAL_LANE_SEL.KIND : Fld := ⟨0x40010, 0, 1⟩
def CAL_LANE_SEL.UNIT : Fld := ⟨0x40010, 1, 6⟩
def CAL_LANE_SEL.RANK : Fld := ⟨0x40010, 7, 1⟩
def CAL_LANE_SEL.LANE : Fld := ⟨0x40010, 8, 7⟩

/-! CAL_LANE_VAL (R167, 06_dram_and_calibration.md). -/
def CAL_LANE_VAL.RD_DLY : Fld := ⟨0x40014, 0, 9⟩
def CAL_LANE_VAL.WR_DLY : Fld := ⟨0x40014, 16, 9⟩
def CAL_LANE_VAL.RD_VREF : Fld := ⟨0x40014, 9, 7⟩
def CAL_LANE_VAL.WR_VREF : Fld := ⟨0x40014, 25, 7⟩

/-! CAL_LANE_CNT (R167, 06_dram_and_calibration.md). -/
def CAL_LANE_CNT.ADJ_COUNT : Fld := ⟨0x40018, 0, 16⟩

/-! CAL_LANE_TIME (R167, 06_dram_and_calibration.md). -/
def CAL_LANE_TIME.LAST_TIME : Fld := ⟨0x4001c, 0, 32⟩

/-! CAL_LANE_EYE (R167, 06_dram_and_calibration.md). -/
def CAL_LANE_EYE.RD_EYE : Fld := ⟨0x40020, 0, 8⟩
def CAL_LANE_EYE.WR_EYE : Fld := ⟨0x40020, 8, 8⟩

/-! CAL_DRAM_EYE (R167, 06_dram_and_calibration.md). -/
def CAL_DRAM_EYE.RD_EYE (n : Nat) : Fld := ⟨0x40040 + 0x4 * n, 0, 8⟩
def CAL_DRAM_EYE.WR_EYE (n : Nat) : Fld := ⟨0x40040 + 0x4 * n, 8, 8⟩
def CAL_DRAM_EYE.TEMP_LAST (n : Nat) : Fld := ⟨0x40040 + 0x4 * n, 16, 8⟩
def CAL_DRAM_EYE.RUNS (n : Nat) : Fld := ⟨0x40040 + 0x4 * n, 24, 8⟩

/-! CAL_FLASH_EYE (R167, 06_dram_and_calibration.md). -/
def CAL_FLASH_EYE.RD_EYE (n : Nat) : Fld := ⟨0x40100 + 0x4 * n, 0, 8⟩
def CAL_FLASH_EYE.WR_EYE (n : Nat) : Fld := ⟨0x40100 + 0x4 * n, 8, 8⟩
def CAL_FLASH_EYE.TEMP_LAST (n : Nat) : Fld := ⟨0x40100 + 0x4 * n, 16, 8⟩
def CAL_FLASH_EYE.RUNS (n : Nat) : Fld := ⟨0x40100 + 0x4 * n, 24, 8⟩

/-! DTK_BUDGET_CFG (R191, 07_dirty_tracking_and_reel.md). -/
def DTK_BUDGET_CFG.VALUE : Fld := ⟨0x50000, 0, 19⟩

/-! DTK_BUDGET_MIN (R191, 07_dirty_tracking_and_reel.md). -/
def DTK_BUDGET_MIN.VALUE : Fld := ⟨0x50004, 0, 19⟩

/-! DTK_BUDGET_FROZEN (R191, 07_dirty_tracking_and_reel.md). -/
def DTK_BUDGET_FROZEN.VALUE : Fld := ⟨0x50008, 0, 19⟩

/-! DTK_SAVE_POWER (R191, 07_dirty_tracking_and_reel.md). -/
def DTK_SAVE_POWER.WATTS : Fld := ⟨0x5000c, 0, 10⟩

/-! DTK_POLICY (R191, 07_dirty_tracking_and_reel.md). -/
def DTK_POLICY.SERVICE_WAIT : Fld := ⟨0x50010, 0, 12⟩
def DTK_POLICY.COLD_SWEEP : Fld := ⟨0x50010, 16, 7⟩
def DTK_POLICY.COMPACT : Fld := ⟨0x50010, 24, 8⟩

/-! DTK_BUDGET_FW (R191, 07_dirty_tracking_and_reel.md). -/
def DTK_BUDGET_FW.VALUE : Fld := ⟨0x50014, 0, 19⟩

/-! DTK_BUDGET_EFF (R191, 07_dirty_tracking_and_reel.md). -/
def DTK_BUDGET_EFF.B : Fld := ⟨0x50018, 0, 19⟩
def DTK_BUDGET_EFF.SOLE_BOUND : Fld := ⟨0x50018, 24, 1⟩
def DTK_BUDGET_EFF.STALE_BOUND : Fld := ⟨0x50018, 25, 1⟩

/-! DTK_BUDGET_AGE (R191, 07_dirty_tracking_and_reel.md). -/
def DTK_BUDGET_AGE.MS : Fld := ⟨0x5001c, 0, 12⟩
def DTK_BUDGET_AGE.STALE : Fld := ⟨0x5001c, 16, 1⟩
def DTK_BUDGET_AGE.STALE_COUNT : Fld := ⟨0x5001c, 24, 8⟩

/-! DTK_SOLE (R191, 07_dirty_tracking_and_reel.md). -/
def DTK_SOLE.READY : Fld := ⟨0x50020, 0, 19⟩
def DTK_SOLE.SINGLE_DIE : Fld := ⟨0x50020, 24, 1⟩

/-! DTK_DIRTY (R191, 07_dirty_tracking_and_reel.md). -/
def DTK_DIRTY.D : Fld := ⟨0x50024, 0, 22⟩

/-! DTK_COUNTS (R191, 07_dirty_tracking_and_reel.md). -/
def DTK_COUNTS.CLEANING : Fld := ⟨0x50028, 0, 6⟩
def DTK_COUNTS.EPOCH_PEND : Fld := ⟨0x50028, 8, 19⟩

/-! DTK_SLOTLESS (R191, 07_dirty_tracking_and_reel.md). -/
def DTK_SLOTLESS.COUNT : Fld := ⟨0x5002c, 0, 22⟩

/-! DTK_REEL_CFG (R191, 07_dirty_tracking_and_reel.md). -/
def DTK_REEL_CFG.BW_BASE : Fld := ⟨0x50030, 0, 6⟩
def DTK_REEL_CFG.BW_BAND : Fld := ⟨0x50030, 8, 6⟩
def DTK_REEL_CFG.INFLIGHT : Fld := ⟨0x50030, 16, 6⟩
def DTK_REEL_CFG.ENABLE : Fld := ⟨0x50030, 24, 1⟩

/-! DTK_REEL_STATUS (R191, 07_dirty_tracking_and_reel.md). -/
def DTK_REEL_STATUS.ACTIVE : Fld := ⟨0x50034, 0, 6⟩
def DTK_REEL_STATUS.RUNNING : Fld := ⟨0x50034, 8, 1⟩
def DTK_REEL_STATUS.BAND_CAP : Fld := ⟨0x50034, 9, 1⟩
def DTK_REEL_STATUS.NO_UNIT : Fld := ⟨0x50034, 10, 1⟩
def DTK_REEL_STATUS.RATE : Fld := ⟨0x50034, 16, 6⟩

/-! DTK_REEL_DONE (R191, 07_dirty_tracking_and_reel.md). -/
def DTK_REEL_DONE.COUNT : Fld := ⟨0x50038, 0, 32⟩

/-! DTK_REEL_ABANDON (R191, 07_dirty_tracking_and_reel.md). -/
def DTK_REEL_ABANDON.COUNT : Fld := ⟨0x5003c, 0, 32⟩

/-! DTK_WELT_JSEQ (R191, 07_dirty_tracking_and_reel.md). -/
def DTK_WELT_JSEQ.JSEQ : Fld := ⟨0x50040, 0, 64⟩

/-! DTK_WELT_STATUS (R191, 07_dirty_tracking_and_reel.md). -/
def DTK_WELT_STATUS.BASE_GEN : Fld := ⟨0x50048, 0, 16⟩
def DTK_WELT_STATUS.BASE_SLOT : Fld := ⟨0x50048, 16, 1⟩
def DTK_WELT_STATUS.COMPACTING : Fld := ⟨0x50048, 17, 1⟩
def DTK_WELT_STATUS.SINGLE_MIRROR : Fld := ⟨0x50048, 18, 1⟩
def DTK_WELT_STATUS.RING_PCT : Fld := ⟨0x50048, 24, 7⟩

/-! DTK_FRAME_SEL (R191, 07_dirty_tracking_and_reel.md). -/
def DTK_FRAME_SEL.FRAME : Fld := ⟨0x5004c, 0, 21⟩

/-! DTK_FRAME_VAL (R191, 07_dirty_tracking_and_reel.md). -/
def DTK_FRAME_VAL.STATE : Fld := ⟨0x50050, 0, 4⟩
def DTK_FRAME_VAL.TOUCH : Fld := ⟨0x50050, 4, 1⟩
def DTK_FRAME_VAL.SLOT_VALID : Fld := ⟨0x50050, 5, 1⟩
def DTK_FRAME_VAL.SLOT : Fld := ⟨0x50050, 8, 18⟩

/-! HEEL_SAVE_CAUSE (R221, 08_save.md). -/
def HEEL_SAVE_CAUSE.CAUSE : Fld := ⟨0xb0020, 0, 4⟩
def HEEL_SAVE_CAUSE.LATER : Fld := ⟨0xb0020, 4, 4⟩
def HEEL_SAVE_CAUSE.LATCHED : Fld := ⟨0xb0020, 8, 1⟩
def HEEL_SAVE_CAUSE.NEW : Fld := ⟨0xb0020, 31, 1⟩

/-! HEEL_SAVE_CMD (R221, 08_save.md). -/
def HEEL_SAVE_CMD.KEY : Fld := ⟨0xb0024, 0, 16⟩

/-! HEEL_LEASE (R221, 08_save.md). -/
def HEEL_LEASE.OWNER : Fld := ⟨0xb0028, 0, 2⟩
def HEEL_LEASE.REMAIN : Fld := ⟨0xb0028, 4, 3⟩
def HEEL_LEASE.REFUSED : Fld := ⟨0xb0028, 8, 8⟩

/-! HEEL_LEASE_GEN (R221, 08_save.md). -/
def HEEL_LEASE_GEN.GEN : Fld := ⟨0xb002c, 0, 32⟩

/-! HEEL_SEAL_ID (R221, 08_save.md). -/
def HEEL_SEAL_ID.SAVE_ID : Fld := ⟨0xb0030, 0, 64⟩

/-! HEEL_SEAL_STATUS (R221, 08_save.md). -/
def HEEL_SEAL_STATUS.SEALED_VALID : Fld := ⟨0xb0038, 0, 1⟩
def HEEL_SEAL_STATUS.LAST_UNSEALED : Fld := ⟨0xb0038, 1, 1⟩
def HEEL_SEAL_STATUS.SEALED_BY : Fld := ⟨0xb0038, 2, 2⟩
def HEEL_SEAL_STATUS.SINGLE_DIE : Fld := ⟨0xb0038, 4, 1⟩
def HEEL_SEAL_STATUS.PROTECTED : Fld := ⟨0xb0038, 5, 1⟩
def HEEL_SEAL_STATUS.CAUSE : Fld := ⟨0xb0038, 8, 4⟩

/-! SAV_LAST_CFG (R222, 08_save.md). -/
def SAV_LAST_CFG.SLOTS : Fld := ⟨0x60000, 0, 19⟩
def SAV_LAST_CFG.UNITS : Fld := ⟨0x60000, 20, 2⟩
def SAV_LAST_CFG.SETS : Fld := ⟨0x60000, 24, 6⟩

/-! SAV_TIMING (R222, 08_save.md). -/
def SAV_TIMING.T_C : Fld := ⟨0x60004, 0, 16⟩

/-! SAV_POWER (R222, 08_save.md). -/
def SAV_POWER.P_SINGLE : Fld := ⟨0x60008, 0, 10⟩

/-! SAV_RATE (R222, 08_save.md). -/
def SAV_RATE.R_EFF : Fld := ⟨0x6000c, 0, 18⟩
def SAV_RATE.LAMBDA : Fld := ⟨0x6000c, 24, 1⟩

/-! SAV_BALANCE (R222, 08_save.md). -/
def SAV_BALANCE.BETA : Fld := ⟨0x60010, 0, 16⟩
def SAV_BALANCE.L : Fld := ⟨0x60010, 16, 16⟩

/-! SAV_LAG_MARK (R222, 08_save.md). -/
def SAV_LAG_MARK.SETS : Fld := ⟨0x60014, 0, 32⟩

/-! SAV_STATUS (R222, 08_save.md). -/
def SAV_STATUS.PHASE : Fld := ⟨0x60018, 0, 3⟩
def SAV_STATUS.LEAD : Fld := ⟨0x60018, 3, 1⟩
def SAV_STATUS.FALLBACK : Fld := ⟨0x60018, 4, 1⟩
def SAV_STATUS.SINGLE_DIE : Fld := ⟨0x60018, 5, 1⟩

/-! SAV_PROGRESS (R222, 08_save.md). -/
def SAV_PROGRESS.CONFIRMED : Fld := ⟨0x6001c, 0, 19⟩
def SAV_PROGRESS.MISSING : Fld := ⟨0x6001c, 20, 12⟩

/-! SAV_CUT_CSN (R222, 08_save.md). -/
def SAV_CUT_CSN.CSN : Fld := ⟨0x60020, 0, 64⟩

/-! SAV_DURATION (R222, 08_save.md). -/
def SAV_DURATION.US : Fld := ⟨0x60028, 0, 32⟩

/-! SAV_DETOURS (R222, 08_save.md). -/
def SAV_DETOURS.SETS : Fld := ⟨0x6002c, 0, 32⟩

/-! SAV_KEY (R222, 08_save.md). -/
def SAV_KEY.KEY_GEN : Fld := ⟨0x60030, 0, 16⟩
def SAV_KEY.LOADED_S0 : Fld := ⟨0x60030, 16, 1⟩
def SAV_KEY.LOADED_S1 : Fld := ⟨0x60030, 17, 1⟩

/-! SAV_SD_STATUS (R223, 08_save.md). -/
def SAV_SD_STATUS.LEAD (d : Nat) : Fld := ⟨0x68000 + 0x4000 * d, 0, 1⟩
def SAV_SD_STATUS.SAVING (d : Nat) : Fld := ⟨0x68000 + 0x4000 * d, 1, 1⟩
def SAV_SD_STATUS.FALLBACK_ACTIVE (d : Nat) : Fld := ⟨0x68000 + 0x4000 * d, 2, 1⟩
def SAV_SD_STATUS.LAG_SETS (d : Nat) : Fld := ⟨0x68000 + 0x4000 * d, 4, 5⟩

/-! SAV_SD_UNITS (R223, 08_save.md). -/
def SAV_SD_UNITS.COUNT (d : Nat) : Fld := ⟨0x68004 + 0x4000 * d, 0, 32⟩

/-! SAV_SD_FAIL (R223, 08_save.md). -/
def SAV_SD_FAIL.REWRITES (d : Nat) : Fld := ⟨0x68008 + 0x4000 * d, 0, 16⟩
def SAV_SD_FAIL.DROPPED (d : Nat) : Fld := ⟨0x68008 + 0x4000 * d, 16, 8⟩
def SAV_SD_FAIL.MISSING (d : Nat) : Fld := ⟨0x68008 + 0x4000 * d, 24, 8⟩

/-! HEEL_RESTORE_TGT (R246, 09_restore_and_recovery.md). -/
def HEEL_RESTORE_TGT.TARGET : Fld := ⟨0xb0040, 0, 2⟩
def HEEL_RESTORE_TGT.ONCE : Fld := ⟨0xb0040, 4, 1⟩

/-! HEEL_CARRY (R246, 09_restore_and_recovery.md). -/
def HEEL_CARRY.CARRY_VALID : Fld := ⟨0xb0044, 0, 1⟩
def HEEL_CARRY.CARRY_PROTECTED : Fld := ⟨0xb0044, 1, 1⟩

/-! HEEL_CARRY_ID (R246, 09_restore_and_recovery.md). -/
def HEEL_CARRY_ID.SAVE_ID : Fld := ⟨0xb0048, 0, 64⟩

/-! HEEL_RECOVERY (R246, 09_restore_and_recovery.md). -/
def HEEL_RECOVERY.KEEP_WRITES : Fld := ⟨0xb0050, 0, 1⟩
def HEEL_RECOVERY.OPEN_MARK : Fld := ⟨0xb0050, 1, 1⟩
def HEEL_RECOVERY.LAST_LOSSY : Fld := ⟨0xb0050, 2, 1⟩
def HEEL_RECOVERY.NEW : Fld := ⟨0xb0050, 31, 1⟩

/-! SAV_RST_STATUS (R247, 09_restore_and_recovery.md). -/
def SAV_RST_STATUS.PHASE : Fld := ⟨0x60040, 0, 3⟩
def SAV_RST_STATUS.EARLY_OPEN : Fld := ⟨0x60040, 3, 1⟩
def SAV_RST_STATUS.TARGET_USED : Fld := ⟨0x60040, 4, 2⟩
def SAV_RST_STATUS.TARGET_FALLBACK : Fld := ⟨0x60040, 6, 1⟩
def SAV_RST_STATUS.SCAN : Fld := ⟨0x60040, 7, 1⟩
def SAV_RST_STATUS.CHAIN : Fld := ⟨0x60040, 8, 1⟩
def SAV_RST_STATUS.LOSSY : Fld := ⟨0x60040, 9, 1⟩
def SAV_RST_STATUS.DSC_INC : Fld := ⟨0x60040, 10, 1⟩

/-! SAV_RST_FRAMES (R247, 09_restore_and_recovery.md). -/
def SAV_RST_FRAMES.COUNT : Fld := ⟨0x60044, 0, 22⟩

/-! SAV_RST_CARRY (R247, 09_restore_and_recovery.md). -/
def SAV_RST_CARRY.COUNT : Fld := ⟨0x60048, 0, 22⟩

/-! SAV_RST_POISONED (R247, 09_restore_and_recovery.md). -/
def SAV_RST_POISONED.COUNT : Fld := ⟨0x6004c, 0, 22⟩

/-! SAV_RST_REBUILT (R247, 09_restore_and_recovery.md). -/
def SAV_RST_REBUILT.RETRIED : Fld := ⟨0x60050, 0, 16⟩
def SAV_RST_REBUILT.REBUILT : Fld := ⟨0x60050, 16, 16⟩

/-! SAV_RST_TOUCH (R247, 09_restore_and_recovery.md). -/
def SAV_RST_TOUCH.FETCHES : Fld := ⟨0x60054, 0, 16⟩
def SAV_RST_TOUCH.MAX_US : Fld := ⟨0x60054, 16, 16⟩

/-! SAV_RST_EARLY (R247, 09_restore_and_recovery.md). -/
def SAV_RST_EARLY.MS : Fld := ⟨0x60058, 0, 16⟩

/-! SAV_RST_EPOCH (R247, 09_restore_and_recovery.md). -/
def SAV_RST_EPOCH.EPOCH : Fld := ⟨0x6005c, 0, 64⟩

/-! FLC_CFG (R281, 10_flash_subsystem.md). -/
def FLC_CFG.WAYS (n : Nat) : Fld := ⟨0x70000 + 0x400 * n, 0, 8⟩
def FLC_CFG.IFACE (n : Nat) : Fld := ⟨0x70000 + 0x400 * n, 8, 1⟩
def FLC_CFG.LUN2 (n : Nat) : Fld := ⟨0x70000 + 0x400 * n, 9, 1⟩
def FLC_CFG.RATE (n : Nat) : Fld := ⟨0x70000 + 0x400 * n, 16, 12⟩

/-! FLC_STATUS (R281, 10_flash_subsystem.md). -/
def FLC_STATUS.STATE (n : Nat) : Fld := ⟨0x70004 + 0x400 * n, 0, 3⟩
def FLC_STATUS.QUEUED (n : Nat) : Fld := ⟨0x70004 + 0x400 * n, 8, 8⟩
def FLC_STATUS.BUF_FREE (n : Nat) : Fld := ⟨0x70004 + 0x400 * n, 16, 5⟩
def FLC_STATUS.ABORTED (n : Nat) : Fld := ⟨0x70004 + 0x400 * n, 24, 1⟩

/-! FLC_OPS (R281, 10_flash_subsystem.md). -/
def FLC_OPS.COUNT (n : Nat) : Fld := ⟨0x70008 + 0x400 * n, 0, 32⟩

/-! FLC_FAIL (R281, 10_flash_subsystem.md). -/
def FLC_FAIL.PROGRAM (n : Nat) : Fld := ⟨0x7000c + 0x400 * n, 0, 8⟩
def FLC_FAIL.ERASE (n : Nat) : Fld := ⟨0x7000c + 0x400 * n, 8, 8⟩
def FLC_FAIL.TIMEOUT (n : Nat) : Fld := ⟨0x7000c + 0x400 * n, 16, 8⟩
def FLC_FAIL.CHECK (n : Nat) : Fld := ⟨0x7000c + 0x400 * n, 24, 8⟩

/-! FLC_RETRY (R281, 10_flash_subsystem.md). -/
def FLC_RETRY.RETRIED (n : Nat) : Fld := ⟨0x70010 + 0x400 * n, 0, 16⟩
def FLC_RETRY.SOFT (n : Nat) : Fld := ⟨0x70010 + 0x400 * n, 16, 16⟩

/-! FLC_SUSPEND (R281, 10_flash_subsystem.md). -/
def FLC_SUSPEND.COUNT (n : Nat) : Fld := ⟨0x70014 + 0x400 * n, 0, 16⟩
def FLC_SUSPEND.MAX_US (n : Nat) : Fld := ⟨0x70014 + 0x400 * n, 16, 16⟩

/-! FLC_DIE_SEL (R281, 10_flash_subsystem.md). -/
def FLC_DIE_SEL.WAY (n : Nat) : Fld := ⟨0x70018 + 0x400 * n, 0, 3⟩

/-! FLC_DIE_STATE (R281, 10_flash_subsystem.md). -/
def FLC_DIE_STATE.STATE (n : Nat) : Fld := ⟨0x7001c + 0x400 * n, 0, 2⟩
def FLC_DIE_STATE.LAG_MARK (n : Nat) : Fld := ⟨0x7001c + 0x400 * n, 2, 1⟩
def FLC_DIE_STATE.SYSTEM (n : Nat) : Fld := ⟨0x7001c + 0x400 * n, 3, 1⟩
def FLC_DIE_STATE.GROWN (n : Nat) : Fld := ⟨0x7001c + 0x400 * n, 8, 8⟩
def FLC_DIE_STATE.GOOD (n : Nat) : Fld := ⟨0x7001c + 0x400 * n, 16, 12⟩

/-! FLC_DIE_WEAR (R281, 10_flash_subsystem.md). -/
def FLC_DIE_WEAR.COPY_MAX (n : Nat) : Fld := ⟨0x70020 + 0x400 * n, 0, 16⟩
def FLC_DIE_WEAR.SOLE_MAX (n : Nat) : Fld := ⟨0x70020 + 0x400 * n, 16, 16⟩

/-! FLC_DIE_CHECK (R281, 10_flash_subsystem.md). -/
def FLC_DIE_CHECK.MEDIAN (n : Nat) : Fld := ⟨0x70024 + 0x400 * n, 0, 16⟩
def FLC_DIE_CHECK.LAGGED (n : Nat) : Fld := ⟨0x70024 + 0x400 * n, 16, 8⟩
def FLC_DIE_CHECK.PASS (n : Nat) : Fld := ⟨0x70024 + 0x400 * n, 24, 1⟩

/-! SAV_SD_SOLE (R282, 10_flash_subsystem.md). -/
def SAV_SD_SOLE.LAST_SET (d : Nat) : Fld := ⟨0x68100 + 0x4000 * d, 0, 1⟩
def SAV_SD_SOLE.OTHER_HELD (d : Nat) : Fld := ⟨0x68100 + 0x4000 * d, 1, 1⟩
def SAV_SD_SOLE.OTHER_ERASED (d : Nat) : Fld := ⟨0x68100 + 0x4000 * d, 2, 1⟩
def SAV_SD_SOLE.SPARES_MIN (d : Nat) : Fld := ⟨0x68100 + 0x4000 * d, 4, 4⟩
def SAV_SD_SOLE.UNREADY (d : Nat) : Fld := ⟨0x68100 + 0x4000 * d, 16, 16⟩

/-! SAV_SD_WEAR (R282, 10_flash_subsystem.md). -/
def SAV_SD_WEAR.COPY_PCT (d : Nat) : Fld := ⟨0x68104 + 0x4000 * d, 0, 8⟩
def SAV_SD_WEAR.SOLE_PCT (d : Nat) : Fld := ⟨0x68104 + 0x4000 * d, 8, 8⟩
def SAV_SD_WEAR.SPREAD (d : Nat) : Fld := ⟨0x68104 + 0x4000 * d, 16, 16⟩

/-! SAV_SD_RECLAIM (R282, 10_flash_subsystem.md). -/
def SAV_SD_RECLAIM.RELOCATED (d : Nat) : Fld := ⟨0x68108 + 0x4000 * d, 0, 16⟩
def SAV_SD_RECLAIM.ERASED (d : Nat) : Fld := ⟨0x68108 + 0x4000 * d, 16, 16⟩

/-! SAV_SD_TABLES (R282, 10_flash_subsystem.md). -/
def SAV_SD_TABLES.LOADED (d : Nat) : Fld := ⟨0x6810c + 0x4000 * d, 0, 1⟩
def SAV_SD_TABLES.MIRRORED (d : Nat) : Fld := ⟨0x6810c + 0x4000 * d, 1, 1⟩
def SAV_SD_TABLES.FORMATTED (d : Nat) : Fld := ⟨0x6810c + 0x4000 * d, 2, 1⟩
def SAV_SD_TABLES.LOG_PCT (d : Nat) : Fld := ⟨0x6810c + 0x4000 * d, 8, 8⟩

/-! SAV_SD_GRP_LU (R282, 10_flash_subsystem.md). -/
def SAV_SD_GRP_LU.FREE (d j : Nat) : Fld := ⟨0x68110 + 0x4000 * d + 0x8 * j, 0, 22⟩
def SAV_SD_GRP_LU.NO_UNIT (d j : Nat) : Fld := ⟨0x68110 + 0x4000 * d + 0x8 * j, 24, 1⟩
def SAV_SD_GRP_LU.MEMBER_FAILED (d j : Nat) : Fld := ⟨0x68110 + 0x4000 * d + 0x8 * j, 25, 1⟩
def SAV_SD_GRP_LU.ABSENT (d j : Nat) : Fld := ⟨0x68110 + 0x4000 * d + 0x8 * j, 26, 1⟩

/-! SAV_SD_GRP_SB (R282, 10_flash_subsystem.md). -/
def SAV_SD_GRP_SB.FREE (d j : Nat) : Fld := ⟨0x68114 + 0x4000 * d + 0x8 * j, 0, 16⟩
def SAV_SD_GRP_SB.CLOSED (d j : Nat) : Fld := ⟨0x68114 + 0x4000 * d + 0x8 * j, 16, 16⟩

/-! EPG_CFG (R305, 11_persistence_groups.md). -/
def EPG_CFG.ROLE : Fld := ⟨0x80000, 0, 2⟩
def EPG_CFG.LIFETIME : Fld := ⟨0x80000, 8, 8⟩
def EPG_CFG.PERIOD_MS : Fld := ⟨0x80000, 16, 14⟩

/-! EPG_PHASE (R305, 11_persistence_groups.md). -/
def EPG_PHASE.PHASE : Fld := ⟨0x80004, 0, 24⟩

/-! EPG_IDS (R305, 11_persistence_groups.md). -/
def EPG_IDS.MODULE_ID : Fld := ⟨0x80008, 0, 18⟩

/-! EPG_GROUP_ID (R305, 11_persistence_groups.md). -/
def EPG_GROUP_ID.GROUP_ID : Fld := ⟨0x8000c, 0, 32⟩

/-! EPG_STATE (R305, 11_persistence_groups.md). -/
def EPG_STATE.MEMBER : Fld := ⟨0x80010, 0, 2⟩
def EPG_STATE.CLOSABLE : Fld := ⟨0x80010, 2, 1⟩
def EPG_STATE.SEAL_PENDING : Fld := ⟨0x80010, 3, 1⟩
def EPG_STATE.UNRESOLVED : Fld := ⟨0x80010, 4, 1⟩
def EPG_STATE.ABORTED : Fld := ⟨0x80010, 5, 1⟩
def EPG_STATE.LAST_MISS : Fld := ⟨0x80010, 8, 4⟩
def EPG_STATE.QUEUED : Fld := ⟨0x80010, 16, 7⟩

/-! EPG_CLOSED (R305, 11_persistence_groups.md). -/
def EPG_CLOSED.VALUE : Fld := ⟨0x80014, 0, 64⟩

/-! EPG_SEALED (R305, 11_persistence_groups.md). -/
def EPG_SEALED.VALUE : Fld := ⟨0x8001c, 0, 64⟩

/-! EPG_CLOSE_CSN (R305, 11_persistence_groups.md). -/
def EPG_CLOSE_CSN.VALUE : Fld := ⟨0x80024, 0, 64⟩

/-! EPG_PULSE (R305, 11_persistence_groups.md). -/
def EPG_PULSE.STATE : Fld := ⟨0x8002c, 0, 2⟩
def EPG_PULSE.UNALIGNED : Fld := ⟨0x8002c, 2, 1⟩
def EPG_PULSE.GOOD : Fld := ⟨0x8002c, 4, 4⟩
def EPG_PULSE.FAULTS : Fld := ⟨0x8002c, 8, 8⟩
def EPG_PULSE.STRAY : Fld := ⟨0x8002c, 16, 16⟩

/-! EPG_LEVEL (R305, 11_persistence_groups.md). -/
def EPG_LEVEL.MIN : Fld := ⟨0x80030, 0, 8⟩
def EPG_LEVEL.MAX : Fld := ⟨0x80030, 8, 8⟩
def EPG_LEVEL.IN_FORCE : Fld := ⟨0x80030, 16, 8⟩
def EPG_LEVEL.FORMAT : Fld := ⟨0x80030, 24, 8⟩

/-! EPG_SHADOW (R305, 11_persistence_groups.md). -/
def EPG_SHADOW.RESERVED : Fld := ⟨0x80034, 0, 16⟩
def EPG_SHADOW.USED : Fld := ⟨0x80034, 16, 16⟩

/-! EPG_COUNTS (R305, 11_persistence_groups.md). -/
def EPG_COUNTS.MISSED : Fld := ⟨0x80038, 0, 12⟩
def EPG_COUNTS.REJECTED : Fld := ⟨0x80038, 12, 12⟩
def EPG_COUNTS.DROPPED : Fld := ⟨0x80038, 24, 8⟩

/-! EPG_SEAL_MS (R305, 11_persistence_groups.md). -/
def EPG_SEAL_MS.MS : Fld := ⟨0x8003c, 0, 32⟩

/-! CLK_TIME (R306, 11_persistence_groups.md). -/
def CLK_TIME.NS : Fld := ⟨0x120000, 0, 64⟩

/-! CLK_STATUS (R306, 11_persistence_groups.md). -/
def CLK_STATUS.SOURCE : Fld := ⟨0x120008, 0, 3⟩
def CLK_STATUS.VALID : Fld := ⟨0x120008, 3, 1⟩
def CLK_STATUS.SLEW : Fld := ⟨0x120008, 4, 2⟩
def CLK_STATUS.STEPS : Fld := ⟨0x120008, 8, 8⟩

/-! CLK_OFFSET (R306, 11_persistence_groups.md). -/
def CLK_OFFSET.NS : Fld := ⟨0x12000c, 0, 32⟩

/-! CLK_FREQ (R306, 11_persistence_groups.md). -/
def CLK_FREQ.PPB : Fld := ⟨0x120010, 0, 20⟩

/-! CLK_ERR (R306, 11_persistence_groups.md). -/
def CLK_ERR.US : Fld := ⟨0x120014, 0, 32⟩

/-! CLK_SLEW_LEFT (R306, 11_persistence_groups.md). -/
def CLK_SLEW_LEFT.US : Fld := ⟨0x120018, 0, 32⟩

/-! HEEL_GRP (R307, 11_persistence_groups.md). -/
def HEEL_GRP.INCARNATION : Fld := ⟨0xb0070, 0, 16⟩
def HEEL_GRP.INC_VALID : Fld := ⟨0xb0070, 16, 1⟩
def HEEL_GRP.FORMAT : Fld := ⟨0xb0070, 20, 4⟩
def HEEL_GRP.LEVEL : Fld := ⟨0xb0070, 24, 8⟩

/-! HEEL_COMMITTED (R307, 11_persistence_groups.md). -/
def HEEL_COMMITTED.VALUE : Fld := ⟨0xb0074, 0, 64⟩

/-! HEEL_EPOCH_HIGH (R307, 11_persistence_groups.md). -/
def HEEL_EPOCH_HIGH.VALUE : Fld := ⟨0xb007c, 0, 64⟩

/-! HEEL_TIME (R307, 11_persistence_groups.md). -/
def HEEL_TIME.VALUE : Fld := ⟨0xb0084, 0, 64⟩

/-! NRG_CFG (R330, 12_energy_store.md). -/
def NRG_CFG.CHEM : Fld := ⟨0x90000, 0, 2⟩
def NRG_CFG.CELLS : Fld := ⟨0x90000, 2, 3⟩
def NRG_CFG.SHUNT : Fld := ⟨0x90000, 16, 13⟩

/-! NRG_LIMITS (R330, 12_energy_store.md). -/
def NRG_LIMITS.V_FULL : Fld := ⟨0x90004, 0, 16⟩
def NRG_LIMITS.V_CUT : Fld := ⟨0x90004, 16, 16⟩

/-! NRG_CHG_CFG (R330, 12_energy_store.md). -/
def NRG_CHG_CFG.I_CHG : Fld := ⟨0x90008, 0, 14⟩
def NRG_CHG_CFG.P_IN_MAX : Fld := ⟨0x90008, 16, 6⟩

/-! NRG_CTRL (R330, 12_energy_store.md). -/
def NRG_CTRL.LEARN : Fld := ⟨0x9000c, 0, 1⟩
def NRG_CTRL.LEARN_STOP : Fld := ⟨0x9000c, 1, 1⟩
def NRG_CTRL.CHG_LIMIT : Fld := ⟨0x9000c, 16, 14⟩

/-! NRG_STATUS (R330, 12_energy_store.md). -/
def NRG_STATUS.CHG_STATE : Fld := ⟨0x90010, 0, 3⟩
def NRG_STATUS.BACKUP : Fld := ⟨0x90010, 3, 1⟩
def NRG_STATUS.LEARNING : Fld := ⟨0x90010, 4, 1⟩
def NRG_STATUS.RESTING : Fld := ⟨0x90010, 5, 1⟩
def NRG_STATUS.ABSENT : Fld := ⟨0x90010, 6, 1⟩
def NRG_STATUS.NTC_FAULT : Fld := ⟨0x90010, 7, 1⟩
def NRG_STATUS.LIMIT_H : Fld := ⟨0x90010, 8, 1⟩
def NRG_STATUS.LIMIT_P : Fld := ⟨0x90010, 9, 1⟩
def NRG_STATUS.CUTOFF : Fld := ⟨0x90010, 10, 1⟩
def NRG_STATUS.TEMP : Fld := ⟨0x90010, 16, 8⟩
def NRG_STATUS.REST_MIN : Fld := ⟨0x90010, 24, 8⟩

/-! NRG_CURRENT (R330, 12_energy_store.md). -/
def NRG_CURRENT.MA : Fld := ⟨0x90014, 0, 32⟩

/-! NRG_VOLTAGE (R330, 12_energy_store.md). -/
def NRG_VOLTAGE.STORE : Fld := ⟨0x90018, 0, 16⟩
def NRG_VOLTAGE.INPUT : Fld := ⟨0x90018, 16, 16⟩

/-! NRG_Q (R330, 12_energy_store.md). -/
def NRG_Q.Q : Fld := ⟨0x9001c, 0, 64⟩

/-! NRG_SOC (R330, 12_energy_store.md). -/
def NRG_SOC.SOC : Fld := ⟨0x90024, 0, 10⟩
def NRG_SOC.SOC_LO : Fld := ⟨0x90024, 10, 10⟩
def NRG_SOC.SOC_HI : Fld := ⟨0x90024, 20, 10⟩

/-! NRG_CAPACITY (R330, 12_energy_store.md). -/
def NRG_CAPACITY.C : Fld := ⟨0x90028, 0, 24⟩
def NRG_CAPACITY.HEALTH : Fld := ⟨0x90028, 24, 8⟩

/-! NRG_E_USE (R330, 12_energy_store.md). -/
def NRG_E_USE.E_USE : Fld := ⟨0x9002c, 0, 24⟩
def NRG_E_USE.WEAR : Fld := ⟨0x9002c, 24, 8⟩

/-! NRG_E_NEED (R330, 12_energy_store.md). -/
def NRG_E_NEED.E_NEED : Fld := ⟨0x90030, 0, 24⟩
def NRG_E_NEED.RATIO : Fld := ⟨0x90030, 24, 8⟩

/-! NRG_RINT (R330, 12_energy_store.md). -/
def NRG_RINT.R_INT : Fld := ⟨0x90034, 0, 16⟩
def NRG_RINT.SAMPLES : Fld := ⟨0x90034, 16, 5⟩

/-! NRG_LEARN (R330, 12_energy_store.md). -/
def NRG_LEARN.COUNT : Fld := ⟨0x90038, 0, 8⟩
def NRG_LEARN.LAST_PCT : Fld := ⟨0x90038, 8, 8⟩
def NRG_LEARN.RESULT : Fld := ⟨0x90038, 16, 3⟩
def NRG_LEARN.DAYS : Fld := ⟨0x90038, 24, 8⟩

/-! NRG_LAST_SAVE (R330, 12_energy_store.md). -/
def NRG_LAST_SAVE.ENERGY : Fld := ⟨0x9003c, 0, 24⟩
def NRG_LAST_SAVE.V_MIN : Fld := ⟨0x9003c, 24, 8⟩

/-! NRG_EVENTS (R330, 12_energy_store.md). -/
def NRG_EVENTS.HOLDS : Fld := ⟨0x90040, 0, 8⟩
def NRG_EVENTS.OV_TRIPS : Fld := ⟨0x90040, 8, 8⟩
def NRG_EVENTS.REST_POINTS : Fld := ⟨0x90040, 16, 8⟩
def NRG_EVENTS.DISJOINT : Fld := ⟨0x90040, 24, 8⟩

/-! HEEL_NRG_SNAP (R331, 12_energy_store.md). -/
def HEEL_NRG_SNAP.Q_LO : Fld := ⟨0xb0090, 0, 24⟩
def HEEL_NRG_SNAP.BOUND : Fld := ⟨0xb0090, 24, 7⟩
def HEEL_NRG_SNAP.VALID : Fld := ⟨0xb0090, 31, 1⟩

/-! HEEL_NRG_SNAP_TIME (R331, 12_energy_store.md). -/
def HEEL_NRG_SNAP_TIME.S : Fld := ⟨0xb0094, 0, 32⟩

/-! PSQ_VIN_CFG (R348, 13_power_sequencing.md). -/
def PSQ_VIN_CFG.RISE_MV : Fld := ⟨0xa0000, 0, 12⟩
def PSQ_VIN_CFG.FALL_MV : Fld := ⟨0xa0000, 16, 12⟩

/-! PSQ_WDI_CFG (R348, 13_power_sequencing.md). -/
def PSQ_WDI_CFG.RESPONSE : Fld := ⟨0xa0004, 0, 2⟩
def PSQ_WDI_CFG.FIRST : Fld := ⟨0xa0004, 8, 7⟩
def PSQ_WDI_CFG.TIMEOUT : Fld := ⟨0xa0004, 16, 16⟩

/-! PSQ_STATUS (R348, 13_power_sequencing.md). -/
def PSQ_STATUS.PHASE : Fld := ⟨0xa0008, 0, 3⟩
def PSQ_STATUS.SLOT : Fld := ⟨0xa0008, 4, 4⟩
def PSQ_STATUS.VIN_UP : Fld := ⟨0xa0008, 8, 1⟩
def PSQ_STATUS.ORDER_HELD : Fld := ⟨0xa0008, 9, 1⟩

/-! PSQ_RAILS (R348, 13_power_sequencing.md). -/
def PSQ_RAILS.EN : Fld := ⟨0xa000c, 0, 16⟩
def PSQ_RAILS.READY : Fld := ⟨0xa000c, 16, 16⟩

/-! PSQ_FAULTS (R348, 13_power_sequencing.md). -/
def PSQ_FAULTS.FAULTED : Fld := ⟨0xa0010, 0, 16⟩
def PSQ_FAULTS.OV : Fld := ⟨0xa0010, 16, 16⟩

/-! PSQ_SLOT_SEL (R348, 13_power_sequencing.md). -/
def PSQ_SLOT_SEL.SLOT : Fld := ⟨0xa0014, 0, 4⟩

/-! PSQ_SLOT_CFG0 (R348, 13_power_sequencing.md). -/
def PSQ_SLOT_CFG0.ENABLE : Fld := ⟨0xa0018, 0, 1⟩
def PSQ_SLOT_CFG0.SAVE_NEEDED : Fld := ⟨0xa0018, 1, 1⟩
def PSQ_SLOT_CFG0.DOWN_AT_SAVE : Fld := ⟨0xa0018, 2, 1⟩
def PSQ_SLOT_CFG0.UP_POS : Fld := ⟨0xa0018, 4, 4⟩
def PSQ_SLOT_CFG0.DOWN_POS : Fld := ⟨0xa0018, 8, 4⟩
def PSQ_SLOT_CFG0.RESPONSE : Fld := ⟨0xa0018, 12, 2⟩
def PSQ_SLOT_CFG0.GROUP : Fld := ⟨0xa0018, 14, 2⟩
def PSQ_SLOT_CFG0.RETRIES : Fld := ⟨0xa0018, 16, 2⟩
def PSQ_SLOT_CFG0.UP_DELAY : Fld := ⟨0xa0018, 24, 8⟩

/-! PSQ_SLOT_CFG1 (R348, 13_power_sequencing.md). -/
def PSQ_SLOT_CFG1.UV : Fld := ⟨0xa001c, 0, 6⟩
def PSQ_SLOT_CFG1.OV : Fld := ⟨0xa001c, 8, 6⟩
def PSQ_SLOT_CFG1.FALL_PCT : Fld := ⟨0xa001c, 16, 6⟩

/-! PSQ_SLOT_CFG2 (R348, 13_power_sequencing.md). -/
def PSQ_SLOT_CFG2.INRUSH : Fld := ⟨0xa0020, 0, 14⟩
def PSQ_SLOT_CFG2.PG_TIMEOUT : Fld := ⟨0xa0020, 16, 9⟩

/-! PSQ_SLOT_CFG3 (R348, 13_power_sequencing.md). -/
def PSQ_SLOT_CFG3.FALL_TIMEOUT : Fld := ⟨0xa0024, 0, 10⟩
def PSQ_SLOT_CFG3.RETRY_OFF : Fld := ⟨0xa0024, 16, 10⟩

/-! PSQ_SLOT_STATUS (R348, 13_power_sequencing.md). -/
def PSQ_SLOT_STATUS.STATE : Fld := ⟨0xa0028, 0, 3⟩
def PSQ_SLOT_STATUS.RETRIES_USED : Fld := ⟨0xa0028, 4, 2⟩
def PSQ_SLOT_STATUS.CAUSE : Fld := ⟨0xa0028, 8, 4⟩
def PSQ_SLOT_STATUS.VS : Fld := ⟨0xa0028, 16, 12⟩

/-! PSQ_SLOT_FAULTS (R348, 13_power_sequencing.md). -/
def PSQ_SLOT_FAULTS.COUNT : Fld := ⟨0xa002c, 0, 16⟩
def PSQ_SLOT_FAULTS.RAMP : Fld := ⟨0xa002c, 16, 16⟩

/-! PSQ_WDI_STATUS (R348, 13_power_sequencing.md). -/
def PSQ_WDI_STATUS.STATE : Fld := ⟨0xa0030, 0, 2⟩
def PSQ_WDI_STATUS.RESTARTS : Fld := ⟨0xa0030, 4, 4⟩
def PSQ_WDI_STATUS.MAX_GAP : Fld := ⟨0xa0030, 16, 16⟩

/-! HEEL_RLOG_STATUS (R349, 13_power_sequencing.md). -/
def HEEL_RLOG_STATUS.LAST_SEQ : Fld := ⟨0xb00a0, 0, 16⟩
def HEEL_RLOG_STATUS.PINNED_VALID : Fld := ⟨0xb00a0, 16, 1⟩
def HEEL_RLOG_STATUS.HOLD_READY : Fld := ⟨0xb00a0, 17, 1⟩
def HEEL_RLOG_STATUS.HOLD_USED : Fld := ⟨0xb00a0, 18, 1⟩
def HEEL_RLOG_STATUS.NEW : Fld := ⟨0xb00a0, 31, 1⟩

/-! HEEL_RLOG_SEL (R349, 13_power_sequencing.md). -/
def HEEL_RLOG_SEL.INDEX : Fld := ⟨0xb00a4, 0, 6⟩

/-! HEEL_RLOG_CLEAR (R349, 13_power_sequencing.md). -/
def HEEL_RLOG_CLEAR.KEY : Fld := ⟨0xb00a8, 0, 16⟩

/-! HEEL_RLOG_DATA (R349, 13_power_sequencing.md). -/
def HEEL_RLOG_DATA.DATA (n : Nat) : Fld := ⟨0xb00b0 + 0x4 * n, 0, 32⟩

/-! PRD_CFG (R381, 14_perud_fabric_and_guest_port.md). -/
def PRD_CFG.SLEEP_EN : Fld := ⟨0xc0000, 0, 1⟩
def PRD_CFG.SLEEP_IDLE : Fld := ⟨0xc0000, 8, 8⟩

/-! PRD_SLEEP (R381, 14_perud_fabric_and_guest_port.md). -/
def PRD_SLEEP.STATE : Fld := ⟨0xc0004, 0, 2⟩
def PRD_SLEEP.SLEEP_ID : Fld := ⟨0xc0004, 8, 8⟩
def PRD_SLEEP.SLEEPS : Fld := ⟨0xc0004, 16, 16⟩

/-! PRD_CANCELS (R381, 14_perud_fabric_and_guest_port.md). -/
def PRD_CANCELS.CANCELS : Fld := ⟨0xc0008, 0, 16⟩
def PRD_CANCELS.HELD_WAKES : Fld := ⟨0xc0008, 16, 16⟩

/-! PRD_LK_STATUS (R381, 14_perud_fabric_and_guest_port.md). -/
def PRD_LK_STATUS.STATE (k : Nat) : Fld := ⟨0xc0040 + 0x10 * k, 0, 3⟩
def PRD_LK_STATUS.M0_UP (k : Nat) : Fld := ⟨0xc0040 + 0x10 * k, 3, 1⟩
def PRD_LK_STATUS.M1_UP (k : Nat) : Fld := ⟨0xc0040 + 0x10 * k, 4, 1⟩
def PRD_LK_STATUS.M0_X8 (k : Nat) : Fld := ⟨0xc0040 + 0x10 * k, 5, 1⟩
def PRD_LK_STATUS.M1_X8 (k : Nat) : Fld := ⟨0xc0040 + 0x10 * k, 6, 1⟩
def PRD_LK_STATUS.RATE (k : Nat) : Fld := ⟨0xc0040 + 0x10 * k, 8, 3⟩
def PRD_LK_STATUS.ERA (k : Nat) : Fld := ⟨0xc0040 + 0x10 * k, 12, 2⟩

/-! PRD_LK_CRC (R381, 14_perud_fabric_and_guest_port.md). -/
def PRD_LK_CRC.CRC_ERR (k : Nat) : Fld := ⟨0xc0044 + 0x10 * k, 0, 16⟩
def PRD_LK_CRC.REPLAYS (k : Nat) : Fld := ⟨0xc0044 + 0x10 * k, 16, 16⟩

/-! PRD_LK_TRAIN (R381, 14_perud_fabric_and_guest_port.md). -/
def PRD_LK_TRAIN.RETRAINS (k : Nat) : Fld := ⟨0xc0048 + 0x10 * k, 0, 8⟩
def PRD_LK_TRAIN.LOSSES (k : Nat) : Fld := ⟨0xc0048 + 0x10 * k, 8, 8⟩
def PRD_LK_TRAIN.PROTO (k : Nat) : Fld := ⟨0xc0048 + 0x10 * k, 16, 16⟩

/-! PRD_LK_LATE (R381, 14_perud_fabric_and_guest_port.md). -/
def PRD_LK_LATE.LATE (k : Nat) : Fld := ⟨0xc004c + 0x10 * k, 0, 16⟩

/-! GST_WIN (R382, 14_perud_fabric_and_guest_port.md). -/
def GST_WIN.BASE : Fld := ⟨0xd0000, 0, 16⟩
def GST_WIN.SIZE : Fld := ⟨0xd0000, 16, 16⟩

/-! GST_BAR (R382, 14_perud_fabric_and_guest_port.md). -/
def GST_BAR.LOG2 : Fld := ⟨0xd0004, 0, 5⟩
def GST_BAR.MMIO_TIMEOUT : Fld := ⟨0xd0004, 8, 8⟩
def GST_BAR.TEMP_PERIOD : Fld := ⟨0xd0004, 16, 8⟩

/-! GST_INT_HOST (R382, 14_perud_fabric_and_guest_port.md). -/
def GST_INT_HOST.MASK : Fld := ⟨0xd0008, 0, 32⟩

/-! GST_INT_SB (R382, 14_perud_fabric_and_guest_port.md). -/
def GST_INT_SB.MASK : Fld := ⟨0xd000c, 0, 32⟩

/-! GST_STATUS (R382, 14_perud_fabric_and_guest_port.md). -/
def GST_STATUS.PORT : Fld := ⟨0xd0010, 0, 3⟩
def GST_STATUS.ERA : Fld := ⟨0xd0010, 3, 2⟩
def GST_STATUS.DEGRADED : Fld := ⟨0xd0010, 5, 1⟩
def GST_STATUS.ASLEEP : Fld := ⟨0xd0010, 6, 1⟩
def GST_STATUS.THROTTLED : Fld := ⟨0xd0010, 7, 1⟩
def GST_STATUS.CONTAIN_CAUSE : Fld := ⟨0xd0010, 8, 4⟩
def GST_STATUS.OUTSTANDING : Fld := ⟨0xd0010, 16, 10⟩

/-! GST_CTRL (R382, 14_perud_fabric_and_guest_port.md). -/
def GST_CTRL.KEY : Fld := ⟨0xd0014, 0, 16⟩

/-! GST_ID (R382, 14_perud_fabric_and_guest_port.md). -/
def GST_ID.GUEST_ID : Fld := ⟨0xd0018, 0, 32⟩

/-! GST_CREDITS (R382, 14_perud_fabric_and_guest_port.md). -/
def GST_CREDITS.MMIO : Fld := ⟨0xd001c, 0, 8⟩
def GST_CREDITS.EVT : Fld := ⟨0xd001c, 8, 8⟩

/-! GST_INT_PEND (R382, 14_perud_fabric_and_guest_port.md). -/
def GST_INT_PEND.PEND : Fld := ⟨0xd0020, 0, 32⟩

/-! GST_TEMP (R382, 14_perud_fabric_and_guest_port.md). -/
def GST_TEMP.TEMP : Fld := ⟨0xd0024, 0, 8⟩
def GST_TEMP.MAX : Fld := ⟨0xd0024, 8, 8⟩
def GST_TEMP.AGE : Fld := ⟨0xd0024, 16, 8⟩

/-! GST_COUNTS (R382, 14_perud_fabric_and_guest_port.md). -/
def GST_COUNTS.CONTAINS : Fld := ⟨0xd0028, 0, 8⟩
def GST_COUNTS.RESETS : Fld := ⟨0xd0028, 8, 8⟩
def GST_COUNTS.MMIO_TIMEOUTS : Fld := ⟨0xd0028, 16, 16⟩

/-! MBX_SESSION (R407, 15_mailbox_and_command_journal.md). -/
def MBX_SESSION.ERA_H0 : Fld := ⟨0xe0000, 0, 4⟩
def MBX_SESSION.OPEN_H0 : Fld := ⟨0xe0000, 4, 1⟩
def MBX_SESSION.ERA_H1 : Fld := ⟨0xe0000, 8, 4⟩
def MBX_SESSION.OPEN_H1 : Fld := ⟨0xe0000, 12, 1⟩

/-! MBX_JRNL_NEWEST (R407, 15_mailbox_and_command_journal.md). -/
def MBX_JRNL_NEWEST.SEQ : Fld := ⟨0xe0004, 0, 64⟩

/-! MBX_JRNL_OLDEST (R407, 15_mailbox_and_command_journal.md). -/
def MBX_JRNL_OLDEST.SEQ : Fld := ⟨0xe000c, 0, 64⟩

/-! MBX_JRNL_STATUS (R407, 15_mailbox_and_command_journal.md). -/
def MBX_JRNL_STATUS.COUNT : Fld := ⟨0xe0014, 0, 13⟩
def MBX_JRNL_STATUS.LOADED : Fld := ⟨0xe0014, 16, 1⟩
def MBX_JRNL_STATUS.LOST : Fld := ⟨0xe0014, 17, 1⟩
def MBX_JRNL_STATUS.OPEN_ENTRIES : Fld := ⟨0xe0014, 18, 1⟩

/-! MBX_ALERT_PEND (R407, 15_mailbox_and_command_journal.md). -/
def MBX_ALERT_PEND.PEND : Fld := ⟨0xe0018, 0, 4⟩

/-! MBX_ALERT_EN (R407, 15_mailbox_and_command_journal.md). -/
def MBX_ALERT_EN.H0 : Fld := ⟨0xe001c, 0, 4⟩
def MBX_ALERT_EN.H1 : Fld := ⟨0xe001c, 8, 4⟩
def MBX_ALERT_EN.WAKE : Fld := ⟨0xe001c, 16, 4⟩

/-! MBX_STAGE (R407, 15_mailbox_and_command_journal.md). -/
def MBX_STAGE.STATE : Fld := ⟨0xe0020, 0, 3⟩
def MBX_STAGE.HEAD : Fld := ⟨0xe0020, 3, 1⟩
def MBX_STAGE.REJECT : Fld := ⟨0xe0020, 8, 4⟩
def MBX_STAGE.IDLE_S : Fld := ⟨0xe0020, 16, 8⟩

/-! MBX_STAGE_OFFSET (R407, 15_mailbox_and_command_journal.md). -/
def MBX_STAGE_OFFSET.BYTES : Fld := ⟨0xe0024, 0, 32⟩

/-! MBX_STAGE_GEN (R407, 15_mailbox_and_command_journal.md). -/
def MBX_STAGE_GEN.GENERATION : Fld := ⟨0xe0028, 0, 32⟩

/-! MBX_FW_STATUS (R407, 15_mailbox_and_command_journal.md). -/
def MBX_FW_STATUS.RUNNING : Fld := ⟨0xe002c, 0, 2⟩
def MBX_FW_STATUS.BOOT : Fld := ⟨0xe002c, 2, 2⟩
def MBX_FW_STATUS.SD_SLOT : Fld := ⟨0xe002c, 4, 2⟩
def MBX_FW_STATUS.PROVISIONAL : Fld := ⟨0xe002c, 6, 1⟩
def MBX_FW_STATUS.ROLLED_BACK : Fld := ⟨0xe002c, 7, 1⟩
def MBX_FW_STATUS.BOOT_FALLBACK : Fld := ⟨0xe002c, 8, 1⟩
def MBX_FW_STATUS.PROV_LEFT : Fld := ⟨0xe002c, 16, 8⟩

/-! MBX_FW_FLOOR (R407, 15_mailbox_and_command_journal.md). -/
def MBX_FW_FLOOR.SVN : Fld := ⟨0xe0030, 0, 32⟩

/-! MBX_FW_LEVELS (R407, 15_mailbox_and_command_journal.md). -/
def MBX_FW_LEVELS.SDI_MIN : Fld := ⟨0xe0034, 0, 8⟩
def MBX_FW_LEVELS.SDI_MAX : Fld := ⟨0xe0034, 8, 8⟩
def MBX_FW_LEVELS.SDI_RUNNING : Fld := ⟨0xe0034, 16, 8⟩
def MBX_FW_LEVELS.FORMAT_MAX : Fld := ⟨0xe0034, 24, 8⟩

/-! HEEL_JRNL_BASE (R408, 15_mailbox_and_command_journal.md). -/
def HEEL_JRNL_BASE.SEQ : Fld := ⟨0xb00d0, 0, 64⟩

/-! SBB_ID (R423, 16_sideband_bus.md). -/
def SBB_ID.PART : Fld := ⟨0xf0000, 0, 16⟩
def SBB_ID.VERSION : Fld := ⟨0xf0000, 16, 8⟩

/-! SBB_STATUS (R423, 16_sideband_bus.md). -/
def SBB_STATUS.IND_ERR : Fld := ⟨0xf0004, 0, 3⟩
def SBB_STATUS.LATCH_VALID : Fld := ⟨0xf0004, 3, 1⟩
def SBB_STATUS.STAGED : Fld := ⟨0xf0004, 4, 1⟩
def SBB_STATUS.STAGED_PTR : Fld := ⟨0xf0004, 8, 8⟩

/-! SBB_IND_ADDR (R423, 16_sideband_bus.md). -/
def SBB_IND_ADDR.WORD : Fld := ⟨0xf0008, 2, 22⟩
def SBB_IND_ADDR.AUTO_INC : Fld := ⟨0xf0008, 31, 1⟩

/-! SBB_IND_DATA (R423, 16_sideband_bus.md). -/
def SBB_IND_DATA.DATA : Fld := ⟨0xf000c, 0, 32⟩

/-! SBB_ALERT_CFG (R423, 16_sideband_bus.md). -/
def SBB_ALERT_CFG.MODE : Fld := ⟨0xf0010, 0, 2⟩
def SBB_ALERT_CFG.COALESCE : Fld := ⟨0xf0010, 8, 8⟩
def SBB_ALERT_CFG.MASK : Fld := ⟨0xf0010, 16, 8⟩

/-! SBB_ALERT_PEND (R423, 16_sideband_bus.md). -/
def SBB_ALERT_PEND.PEND : Fld := ⟨0xf0014, 0, 8⟩

/-! SBB_NOTIFY_STATUS (R423, 16_sideband_bus.md). -/
def SBB_NOTIFY_STATUS.SEQ : Fld := ⟨0xf0018, 0, 4⟩
def SBB_NOTIFY_STATUS.ARB_LOST : Fld := ⟨0xf0018, 8, 8⟩
def SBB_NOTIFY_STATUS.NACKED : Fld := ⟨0xf0018, 16, 8⟩
def SBB_NOTIFY_STATUS.ABANDONED : Fld := ⟨0xf0018, 24, 8⟩

/-! SBB_BUS_COUNTS (R423, 16_sideband_bus.md). -/
def SBB_BUS_COUNTS.TIMEOUTS : Fld := ⟨0xf001c, 0, 8⟩
def SBB_BUS_COUNTS.PEC_ERRORS : Fld := ⟨0xf001c, 8, 8⟩
def SBB_BUS_COUNTS.DISCARDED : Fld := ⟨0xf001c, 16, 8⟩
def SBB_BUS_COUNTS.ARA_WON : Fld := ⟨0xf001c, 24, 8⟩

/-! HEEL_SB_CFG (R424, 16_sideband_bus.md). -/
def HEEL_SB_CFG.ADDR : Fld := ⟨0xb00e0, 0, 7⟩
def HEEL_SB_CFG.I2C : Fld := ⟨0xb00e0, 8, 1⟩
def HEEL_SB_CFG.PEC_EN : Fld := ⟨0xb00e0, 9, 1⟩
def HEEL_SB_CFG.PEC_RD_LEN : Fld := ⟨0xb00e0, 10, 2⟩
def HEEL_SB_CFG.CTRL_SPEED : Fld := ⟨0xb00e0, 12, 2⟩

/-! HEEL_SB_STATUS (R424, 16_sideband_bus.md). -/
def HEEL_SB_STATUS.HUB_SERVING : Fld := ⟨0xb00e4, 0, 1⟩
def HEEL_SB_STATUS.PAGE : Fld := ⟨0xb00e4, 8, 8⟩
def HEEL_SB_STATUS.POINTER : Fld := ⟨0xb00e4, 16, 8⟩
def HEEL_SB_STATUS.ABORTS : Fld := ⟨0xb00e4, 24, 8⟩

/-! EFL_INFO (R441, 17_embedded_flash_and_event_recorder.md). -/
def EFL_INFO.SIZE_KIB : Fld := ⟨0x100000, 0, 16⟩
def EFL_INFO.BANKS : Fld := ⟨0x100000, 16, 4⟩
def EFL_INFO.SECTOR_KIB : Fld := ⟨0x100000, 24, 4⟩

/-! EFL_STATUS (R441, 17_embedded_flash_and_event_recorder.md). -/
def EFL_STATUS.BUSY : Fld := ⟨0x100004, 0, 2⟩
def EFL_STATUS.SUSP : Fld := ⟨0x100004, 2, 2⟩
def EFL_STATUS.WS : Fld := ⟨0x100004, 4, 4⟩
def EFL_STATUS.BAND_L : Fld := ⟨0x100004, 8, 1⟩
def EFL_STATUS.FLUSH : Fld := ⟨0x100004, 9, 1⟩
def EFL_STATUS.STALL_MAX : Fld := ⟨0x100004, 16, 16⟩

/-! EFL_ECC (R441, 17_embedded_flash_and_event_recorder.md). -/
def EFL_ECC.CORRECTED : Fld := ⟨0x100008, 0, 16⟩
def EFL_ECC.UNCORRECTABLE : Fld := ⟨0x100008, 16, 16⟩

/-! EFL_HKEY (R441, 17_embedded_flash_and_event_recorder.md). -/
def EFL_HKEY.KEY : Fld := ⟨0x100010, 0, 16⟩

/-! EFL_HADDR (R441, 17_embedded_flash_and_event_recorder.md). -/
def EFL_HADDR.OFFSET : Fld := ⟨0x100014, 0, 19⟩

/-! EFL_HCMD (R441, 17_embedded_flash_and_event_recorder.md). -/
def EFL_HCMD.CMD : Fld := ⟨0x100018, 0, 4⟩

/-! EFL_HSTATUS (R441, 17_embedded_flash_and_event_recorder.md). -/
def EFL_HSTATUS.BUSY : Fld := ⟨0x10001c, 0, 1⟩
def EFL_HSTATUS.UNLOCKED : Fld := ⟨0x10001c, 1, 1⟩
def EFL_HSTATUS.ERR : Fld := ⟨0x10001c, 2, 4⟩
def EFL_HSTATUS.BUF_BYTES : Fld := ⟨0x10001c, 6, 10⟩
def EFL_HSTATUS.DONE : Fld := ⟨0x10001c, 16, 16⟩

/-! EFL_HBUF (R441, 17_embedded_flash_and_event_recorder.md). -/
def EFL_HBUF.DATA : Fld := ⟨0x100020, 0, 32⟩

/-! EFL_HDATA (R441, 17_embedded_flash_and_event_recorder.md). -/
def EFL_HDATA.DATA (n : Nat) : Fld := ⟨0x100030 + 0x4 * n, 0, 32⟩

/-! EVR_STATUS (R442, 17_embedded_flash_and_event_recorder.md). -/
def EVR_STATUS.COUNT : Fld := ⟨0x110000, 0, 15⟩
def EVR_STATUS.RESERVE_ONLY : Fld := ⟨0x110000, 16, 1⟩
def EVR_STATUS.FULL : Fld := ⟨0x110000, 17, 1⟩
def EVR_STATUS.CLEARING : Fld := ⟨0x110000, 18, 1⟩
def EVR_STATUS.BUFFERED : Fld := ⟨0x110000, 19, 7⟩
def EVR_STATUS.BAD : Fld := ⟨0x110000, 26, 6⟩

/-! EVR_CFG (R442, 17_embedded_flash_and_event_recorder.md). -/
def EVR_CFG.MIN_SEV : Fld := ⟨0x110004, 0, 3⟩
def EVR_CFG.FLUSH_MS : Fld := ⟨0x110004, 8, 8⟩
def EVR_CFG.PER_CODE : Fld := ⟨0x110004, 16, 7⟩

/-! EVR_CTRL (R442, 17_embedded_flash_and_event_recorder.md). -/
def EVR_CTRL.KEY : Fld := ⟨0x110008, 0, 16⟩

/-! EVR_LOST (R442, 17_embedded_flash_and_event_recorder.md). -/
def EVR_LOST.RESET : Fld := ⟨0x11000c, 0, 8⟩
def EVR_LOST.BUFFER : Fld := ⟨0x11000c, 8, 8⟩
def EVR_LOST.RESERVE : Fld := ⟨0x11000c, 16, 8⟩
def EVR_LOST.FULL : Fld := ⟨0x11000c, 24, 8⟩

/-! EVR_SEL (R442, 17_embedded_flash_and_event_recorder.md). -/
def EVR_SEL.INDEX : Fld := ⟨0x110010, 0, 14⟩

/-! EVR_DATA (R442, 17_embedded_flash_and_event_recorder.md). -/
def EVR_DATA.DATA (n : Nat) : Fld := ⟨0x110020 + 0x4 * n, 0, 32⟩

/-! HEEL_DEGRADE (R455, 18_fault_handling_and_degraded_states.md). -/
def HEEL_DEGRADE.DERATE : Fld := ⟨0xb00f0, 0, 4⟩
def HEEL_DEGRADE.KEEP : Fld := ⟨0xb00f0, 8, 4⟩
def HEEL_DEGRADE.RELEASE_PENDING : Fld := ⟨0xb00f0, 12, 1⟩
def HEEL_DEGRADE.KEEP_ENTRIES : Fld := ⟨0xb00f0, 16, 8⟩
def HEEL_DEGRADE.NEW : Fld := ⟨0xb00f0, 31, 1⟩

end Reg

/-- How a register is assembled: from its fields, or as the low or the high half of a wide pair (R456). -/
inductive RegKind where
  | plain | lo | hi
  deriving DecidableEq, Repr

/-- A register's row of the table: kind, and for each field its lowest bit, width and access code. -/
structure RegRow where
  mpa : Nat
  kind : RegKind
  fields : List (Nat × Nat × Acc)
  deriving DecidableEq, Repr

/-- Registers of the block HUB, part 0 (channel, die, link or array index 0). -/
def rowsHUB0 : List RegRow := [
  ⟨0x10000, .plain, [(0, 16, .ro), (16, 8, .ro), (24, 8, .ro)]⟩,
  ⟨0x10004, .plain, [(0, 4, .ro), (4, 4, .ro), (8, 4, .ro)]⟩,
  ⟨0x10008, .plain, [(0, 32, .ro)]⟩,
  ⟨0x1000c, .plain, [(0, 32, .ro)]⟩,
  ⟨0x10010, .plain, [(0, 1, .ro), (1, 1, .ro), (2, 1, .ro), (3, 1, .ro), (4, 1, .ro), (8, 4, .ro), (12, 4, .ro)]⟩,
  ⟨0x10014, .plain, [(0, 32, .ro)]⟩,
  ⟨0x10018, .plain, [(0, 32, .ro)]⟩,
  ⟨0x1001c, .plain, [(0, 1, .rwl)]⟩,
  ⟨0x10020, .plain, [(0, 1, .w1c), (1, 1, .w1c), (2, 1, .w1c), (3, 1, .w1c), (4, 1, .w1c), (5, 1, .w1c), (8, 1, .w1c), (9, 1, .w1c), (10, 1, .w1c), (11, 1, .w1c)]⟩,
  ⟨0x10024, .plain, [(0, 16, .wo)]⟩,
  ⟨0x10028, .plain, [(0, 16, .wo)]⟩,
  ⟨0x1002c, .plain, [(0, 4, .ro), (4, 1, .ro), (5, 1, .ro), (8, 1, .ro), (9, 1, .ro), (10, 1, .ro)]⟩,
  ⟨0x10030, .plain, [(0, 16, .ro), (16, 4, .ro)]⟩]

/-- The register map of HUB. -/
def rowsHUB : List RegRow := rowsHUB0

/-- Registers of the block HEEL, part 0 (channel, die, link or array index 0). -/
def rowsHEEL0 : List RegRow := [
  ⟨0xb0000, .plain, [(0, 4, .ro), (4, 4, .ro)]⟩,
  ⟨0xb0004, .plain, [(0, 16, .wo)]⟩,
  ⟨0xb0008, .plain, [(0, 1, .rwl)]⟩,
  ⟨0xb000c, .plain, [(0, 4, .ro), (4, 4, .ro), (8, 4, .ro), (12, 1, .ro), (16, 8, .ro), (24, 1, .ro), (31, 1, .w1c)]⟩,
  ⟨0xb0010, .plain, [(0, 1, .ro), (1, 1, .ro), (2, 1, .ro), (3, 1, .ro), (8, 8, .ro), (16, 8, .ro), (31, 1, .w1c)]⟩,
  ⟨0xb0020, .plain, [(0, 4, .ro), (4, 4, .ro), (8, 1, .ro), (31, 1, .w1c)]⟩,
  ⟨0xb0024, .plain, [(0, 16, .wo)]⟩,
  ⟨0xb0028, .plain, [(0, 2, .ro), (4, 3, .ro), (8, 8, .ro)]⟩,
  ⟨0xb002c, .plain, [(0, 32, .ro)]⟩,
  ⟨0xb0030, .lo, [(0, 64, .ro)]⟩,
  ⟨0xb0034, .hi, []⟩,
  ⟨0xb0038, .plain, [(0, 1, .ro), (1, 1, .ro), (2, 2, .ro), (4, 1, .ro), (5, 1, .ro), (8, 4, .ro)]⟩,
  ⟨0xb0040, .plain, [(0, 2, .rw), (4, 1, .rw)]⟩,
  ⟨0xb0044, .plain, [(0, 1, .ro), (1, 1, .ro)]⟩,
  ⟨0xb0048, .lo, [(0, 64, .ro)]⟩,
  ⟨0xb004c, .hi, []⟩,
  ⟨0xb0050, .plain, [(0, 1, .ro), (1, 1, .ro), (2, 1, .ro), (31, 1, .w1c)]⟩,
  ⟨0xb0070, .plain, [(0, 16, .ro), (16, 1, .ro), (20, 4, .ro), (24, 8, .ro)]⟩,
  ⟨0xb0074, .lo, [(0, 64, .ro)]⟩,
  ⟨0xb0078, .hi, []⟩]
/-- Registers of the block HEEL, part 1 (channel, die, link or array index 0). -/
def rowsHEEL1 : List RegRow := [
  ⟨0xb007c, .lo, [(0, 64, .ro)]⟩,
  ⟨0xb0080, .hi, []⟩,
  ⟨0xb0084, .lo, [(0, 64, .ro)]⟩,
  ⟨0xb0088, .hi, []⟩,
  ⟨0xb0090, .plain, [(0, 24, .ro), (24, 7, .ro), (31, 1, .ro)]⟩,
  ⟨0xb0094, .plain, [(0, 32, .ro)]⟩,
  ⟨0xb00a0, .plain, [(0, 16, .ro), (16, 1, .ro), (17, 1, .ro), (18, 1, .ro), (31, 1, .w1c)]⟩,
  ⟨0xb00a4, .plain, [(0, 6, .rw)]⟩,
  ⟨0xb00a8, .plain, [(0, 16, .wo)]⟩,
  ⟨0xb00b0, .plain, [(0, 32, .ro)]⟩,
  ⟨0xb00d0, .lo, [(0, 64, .ro)]⟩,
  ⟨0xb00d4, .hi, []⟩,
  ⟨0xb00e0, .plain, [(0, 7, .rwl), (8, 1, .rwl), (9, 1, .rwl), (10, 2, .rwl), (12, 2, .rwl)]⟩,
  ⟨0xb00e4, .plain, [(0, 1, .ro), (8, 8, .ro), (16, 8, .ro), (24, 8, .ro)]⟩,
  ⟨0xb00f0, .plain, [(0, 4, .ro), (8, 4, .ro), (12, 1, .ro), (16, 8, .ro), (31, 1, .w1c)]⟩]

/-- The register map of HEEL. -/
def rowsHEEL : List RegRow := rowsHEEL0 ++ rowsHEEL1

/-- Registers of the block MEM, part 0 (channel, die, link or array index 0). -/
def rowsMEM0 : List RegRow := [
  ⟨0x20000, .plain, [(0, 16, .rwl), (16, 9, .rwl)]⟩,
  ⟨0x20004, .plain, [(0, 1, .rwl), (1, 1, .rwl), (2, 1, .rwl), (3, 1, .rwl), (4, 1, .rwl), (5, 10, .rwl), (16, 11, .rwl)]⟩,
  ⟨0x20008, .plain, [(0, 16, .rwl)]⟩,
  ⟨0x2000c, .plain, [(0, 16, .rwl)]⟩,
  ⟨0x20010, .plain, [(0, 16, .rwl)]⟩,
  ⟨0x20014, .plain, [(0, 16, .rwl)]⟩,
  ⟨0x20018, .plain, [(0, 8, .ro), (8, 8, .ro), (16, 8, .ro), (24, 8, .ro)]⟩,
  ⟨0x2001c, .plain, [(0, 1, .ro), (1, 1, .ro), (2, 1, .ro), (3, 1, .ro), (4, 1, .ro), (5, 1, .ro), (6, 1, .ro), (7, 1, .ro), (8, 1, .ro), (9, 1, .ro), (10, 1, .ro)]⟩,
  ⟨0x20020, .plain, [(0, 3, .ro), (3, 5, .ro), (8, 1, .ro), (9, 1, .ro), (10, 1, .ro), (11, 1, .ro), (16, 3, .ro), (19, 5, .ro), (24, 1, .ro), (25, 1, .ro), (26, 1, .ro), (27, 1, .ro)]⟩,
  ⟨0x20024, .plain, [(0, 32, .ro)]⟩,
  ⟨0x20100, .plain, [(0, 4, .rw), (4, 4, .rw), (8, 4, .rw)]⟩,
  ⟨0x20104, .plain, [(0, 10, .rwl)]⟩,
  ⟨0x20108, .plain, [(0, 2, .ro), (4, 1, .ro), (5, 1, .ro), (6, 1, .ro), (16, 9, .ro)]⟩,
  ⟨0x2010c, .plain, [(0, 32, .ro)]⟩,
  ⟨0x20110, .lo, [(0, 64, .ro)]⟩,
  ⟨0x20114, .hi, []⟩,
  ⟨0x20118, .plain, [(0, 9, .ro), (9, 9, .ro), (18, 9, .ro)]⟩,
  ⟨0x2011c, .plain, [(0, 4, .ro), (4, 4, .ro), (8, 4, .ro)]⟩,
  ⟨0x20120, .plain, [(0, 32, .ro)]⟩,
  ⟨0x20140, .plain, [(0, 16, .ro), (16, 16, .ro)]⟩]
/-- Registers of the block MEM, part 1 (channel, die, link or array index 0). -/
def rowsMEM1 : List RegRow := [
  ⟨0x20144, .plain, [(0, 16, .ro), (16, 16, .ro)]⟩,
  ⟨0x20200, .plain, [(0, 1, .rwl), (1, 3, .rwl), (4, 1, .rwl), (5, 1, .rwl), (6, 1, .rwl)]⟩,
  ⟨0x20204, .plain, [(0, 2, .rwl), (2, 2, .rwl), (4, 2, .rwl), (6, 2, .rwl), (8, 2, .rwl), (10, 2, .rwl), (12, 2, .rwl), (14, 2, .rwl)]⟩,
  ⟨0x20208, .plain, [(0, 2, .rwl), (2, 2, .rwl), (4, 2, .rwl), (6, 2, .rwl), (8, 2, .rwl), (10, 2, .rwl), (12, 2, .rwl), (14, 2, .rwl)]⟩]

/-- The register map of MEM. -/
def rowsMEM : List RegRow := rowsMEM0 ++ rowsMEM1

/-- Registers of the block DRC, part 0 (channel, die, link or array index 0). -/
def rowsDRC0 : List RegRow := [
  ⟨0x30000, .plain, [(0, 1, .rwl), (1, 1, .rwl), (2, 2, .rwl), (4, 1, .rwl), (5, 3, .rwl), (8, 1, .rwl), (9, 1, .rwl)]⟩,
  ⟨0x30004, .plain, [(0, 7, .rwl), (8, 7, .rwl), (16, 4, .rwl)]⟩,
  ⟨0x30008, .plain, [(0, 8, .rwl), (8, 8, .rwl), (16, 8, .rwl)]⟩,
  ⟨0x3000c, .plain, [(0, 3, .ro), (3, 1, .ro), (4, 3, .ro), (7, 1, .ro), (8, 7, .ro), (16, 7, .ro)]⟩,
  ⟨0x30010, .plain, [(0, 32, .ro)]⟩,
  ⟨0x30014, .plain, [(0, 32, .ro)]⟩,
  ⟨0x30018, .plain, [(0, 2, .ro), (2, 1, .ro), (3, 1, .ro), (4, 2, .ro), (8, 4, .ro)]⟩,
  ⟨0x3001c, .lo, [(0, 64, .ro)]⟩,
  ⟨0x30020, .hi, []⟩,
  ⟨0x30024, .plain, [(0, 4, .ro), (7, 1, .ro), (8, 4, .ro), (15, 1, .ro), (16, 4, .ro), (23, 1, .ro), (24, 4, .ro), (31, 1, .ro)]⟩,
  ⟨0x30028, .plain, [(0, 8, .ro), (8, 8, .ro), (16, 8, .ro), (24, 8, .ro)]⟩,
  ⟨0x3002c, .plain, [(0, 8, .rw), (8, 1, .rw)]⟩,
  ⟨0x30030, .plain, [(0, 16, .ro), (16, 7, .ro)]⟩,
  ⟨0x30034, .plain, [(0, 24, .ro), (24, 8, .ro)]⟩]

/-- The register map of DRC. -/
def rowsDRC : List RegRow := rowsDRC0

/-- Registers of the block CAL, part 0 (channel, die, link or array index 0). -/
def rowsCAL0 : List RegRow := [
  ⟨0x40000, .plain, [(0, 5, .rwl), (8, 5, .rwl), (16, 8, .rwl), (24, 8, .rwl)]⟩,
  ⟨0x40004, .plain, [(0, 1, .wo), (1, 1, .wo)]⟩,
  ⟨0x40008, .plain, [(0, 1, .ro), (1, 1, .ro), (2, 3, .ro), (5, 1, .ro), (6, 1, .ro), (7, 1, .ro), (8, 1, .ro)]⟩,
  ⟨0x40010, .plain, [(0, 1, .rw), (1, 6, .rw), (7, 1, .rw), (8, 7, .rw)]⟩,
  ⟨0x40014, .plain, [(0, 9, .ro), (9, 7, .ro), (16, 9, .ro), (25, 7, .ro)]⟩,
  ⟨0x40018, .plain, [(0, 16, .ro)]⟩,
  ⟨0x4001c, .plain, [(0, 32, .ro)]⟩,
  ⟨0x40020, .plain, [(0, 8, .ro), (8, 8, .ro)]⟩,
  ⟨0x40040, .plain, [(0, 8, .ro), (8, 8, .ro), (16, 8, .ro), (24, 8, .ro)]⟩,
  ⟨0x40100, .plain, [(0, 8, .ro), (8, 8, .ro), (16, 8, .ro), (24, 8, .ro)]⟩]

/-- The register map of CAL. -/
def rowsCAL : List RegRow := rowsCAL0

/-- Registers of the block DTK, part 0 (channel, die, link or array index 0). -/
def rowsDTK0 : List RegRow := [
  ⟨0x50000, .plain, [(0, 19, .rwl)]⟩,
  ⟨0x50004, .plain, [(0, 19, .rwl)]⟩,
  ⟨0x50008, .plain, [(0, 19, .rwl)]⟩,
  ⟨0x5000c, .plain, [(0, 10, .rwl)]⟩,
  ⟨0x50010, .plain, [(0, 12, .rwl), (16, 7, .rwl), (24, 8, .rwl)]⟩,
  ⟨0x50014, .plain, [(0, 19, .rw)]⟩,
  ⟨0x50018, .plain, [(0, 19, .ro), (24, 1, .ro), (25, 1, .ro)]⟩,
  ⟨0x5001c, .plain, [(0, 12, .ro), (16, 1, .ro), (24, 8, .ro)]⟩,
  ⟨0x50020, .plain, [(0, 19, .ro), (24, 1, .ro)]⟩,
  ⟨0x50024, .plain, [(0, 22, .ro)]⟩,
  ⟨0x50028, .plain, [(0, 6, .ro), (8, 19, .ro)]⟩,
  ⟨0x5002c, .plain, [(0, 22, .ro)]⟩,
  ⟨0x50030, .plain, [(0, 6, .rw), (8, 6, .rw), (16, 6, .rw), (24, 1, .rw)]⟩,
  ⟨0x50034, .plain, [(0, 6, .ro), (8, 1, .ro), (9, 1, .ro), (10, 1, .ro), (16, 6, .ro)]⟩,
  ⟨0x50038, .plain, [(0, 32, .ro)]⟩,
  ⟨0x5003c, .plain, [(0, 32, .ro)]⟩,
  ⟨0x50040, .lo, [(0, 64, .ro)]⟩,
  ⟨0x50044, .hi, []⟩,
  ⟨0x50048, .plain, [(0, 16, .ro), (16, 1, .ro), (17, 1, .ro), (18, 1, .ro), (24, 7, .ro)]⟩,
  ⟨0x5004c, .plain, [(0, 21, .rw)]⟩]
/-- Registers of the block DTK, part 1 (channel, die, link or array index 0). -/
def rowsDTK1 : List RegRow := [
  ⟨0x50050, .plain, [(0, 4, .ro), (4, 1, .ro), (5, 1, .ro), (8, 18, .ro)]⟩]

/-- The register map of DTK. -/
def rowsDTK : List RegRow := rowsDTK0 ++ rowsDTK1

/-- Registers of the block SAV, part 0 (channel, die, link or array index 0). -/
def rowsSAV0 : List RegRow := [
  ⟨0x60000, .plain, [(0, 19, .rwl), (20, 2, .rwl), (24, 6, .rwl)]⟩,
  ⟨0x60004, .plain, [(0, 16, .rwl)]⟩,
  ⟨0x60008, .plain, [(0, 10, .rwl)]⟩,
  ⟨0x6000c, .plain, [(0, 18, .ro), (24, 1, .ro)]⟩,
  ⟨0x60010, .plain, [(0, 16, .ro), (16, 16, .ro)]⟩,
  ⟨0x60014, .plain, [(0, 32, .ro)]⟩,
  ⟨0x60018, .plain, [(0, 3, .ro), (3, 1, .ro), (4, 1, .ro), (5, 1, .ro)]⟩,
  ⟨0x6001c, .plain, [(0, 19, .ro), (20, 12, .ro)]⟩,
  ⟨0x60020, .lo, [(0, 64, .ro)]⟩,
  ⟨0x60024, .hi, []⟩,
  ⟨0x60028, .plain, [(0, 32, .ro)]⟩,
  ⟨0x6002c, .plain, [(0, 32, .ro)]⟩,
  ⟨0x60030, .plain, [(0, 16, .ro), (16, 1, .ro), (17, 1, .ro)]⟩,
  ⟨0x60040, .plain, [(0, 3, .ro), (3, 1, .ro), (4, 2, .ro), (6, 1, .ro), (7, 1, .ro), (8, 1, .ro), (9, 1, .ro), (10, 1, .ro)]⟩,
  ⟨0x60044, .plain, [(0, 22, .ro)]⟩,
  ⟨0x60048, .plain, [(0, 22, .ro)]⟩,
  ⟨0x6004c, .plain, [(0, 22, .ro)]⟩,
  ⟨0x60050, .plain, [(0, 16, .ro), (16, 16, .ro)]⟩,
  ⟨0x60054, .plain, [(0, 16, .ro), (16, 16, .ro)]⟩,
  ⟨0x60058, .plain, [(0, 16, .ro)]⟩]
/-- Registers of the block SAV, part 1 (channel, die, link or array index 0). -/
def rowsSAV1 : List RegRow := [
  ⟨0x6005c, .lo, [(0, 64, .ro)]⟩,
  ⟨0x60060, .hi, []⟩]

/-- The register map of SAV. -/
def rowsSAV : List RegRow := rowsSAV0 ++ rowsSAV1

/-- Registers of the block SAVSD, part 0 (channel, die, link or array index 0). -/
def rowsSAVSD0 : List RegRow := [
  ⟨0x68000, .plain, [(0, 1, .ro), (1, 1, .ro), (2, 1, .ro), (4, 5, .ro)]⟩,
  ⟨0x68004, .plain, [(0, 32, .ro)]⟩,
  ⟨0x68008, .plain, [(0, 16, .ro), (16, 8, .ro), (24, 8, .ro)]⟩,
  ⟨0x68100, .plain, [(0, 1, .ro), (1, 1, .ro), (2, 1, .ro), (4, 4, .ro), (16, 16, .ro)]⟩,
  ⟨0x68104, .plain, [(0, 8, .ro), (8, 8, .ro), (16, 16, .ro)]⟩,
  ⟨0x68108, .plain, [(0, 16, .ro), (16, 16, .ro)]⟩,
  ⟨0x6810c, .plain, [(0, 1, .ro), (1, 1, .ro), (2, 1, .ro), (8, 8, .ro)]⟩,
  ⟨0x68110, .plain, [(0, 22, .ro), (24, 1, .ro), (25, 1, .ro), (26, 1, .ro)]⟩,
  ⟨0x68114, .plain, [(0, 16, .ro), (16, 16, .ro)]⟩]

/-- The register map of SAVSD. -/
def rowsSAVSD : List RegRow := rowsSAVSD0

/-- Registers of the block FLC, part 0 (channel, die, link or array index 0). -/
def rowsFLC0 : List RegRow := [
  ⟨0x70000, .plain, [(0, 8, .rwl), (8, 1, .rwl), (9, 1, .rwl), (16, 12, .rwl)]⟩,
  ⟨0x70004, .plain, [(0, 3, .ro), (8, 8, .ro), (16, 5, .ro), (24, 1, .ro)]⟩,
  ⟨0x70008, .plain, [(0, 32, .ro)]⟩,
  ⟨0x7000c, .plain, [(0, 8, .ro), (8, 8, .ro), (16, 8, .ro), (24, 8, .ro)]⟩,
  ⟨0x70010, .plain, [(0, 16, .ro), (16, 16, .ro)]⟩,
  ⟨0x70014, .plain, [(0, 16, .ro), (16, 16, .ro)]⟩,
  ⟨0x70018, .plain, [(0, 3, .rw)]⟩,
  ⟨0x7001c, .plain, [(0, 2, .ro), (2, 1, .ro), (3, 1, .ro), (8, 8, .ro), (16, 12, .ro)]⟩,
  ⟨0x70020, .plain, [(0, 16, .ro), (16, 16, .ro)]⟩,
  ⟨0x70024, .plain, [(0, 16, .ro), (16, 8, .ro), (24, 1, .ro)]⟩]

/-- The register map of FLC. -/
def rowsFLC : List RegRow := rowsFLC0

/-- Registers of the block EPG, part 0 (channel, die, link or array index 0). -/
def rowsEPG0 : List RegRow := [
  ⟨0x80000, .plain, [(0, 2, .rwl), (8, 8, .rwl), (16, 14, .rwl)]⟩,
  ⟨0x80004, .plain, [(0, 24, .rwl)]⟩,
  ⟨0x80008, .plain, [(0, 18, .rwl)]⟩,
  ⟨0x8000c, .plain, [(0, 32, .rwl)]⟩,
  ⟨0x80010, .plain, [(0, 2, .ro), (2, 1, .ro), (3, 1, .ro), (4, 1, .ro), (5, 1, .ro), (8, 4, .ro), (16, 7, .ro)]⟩,
  ⟨0x80014, .lo, [(0, 64, .ro)]⟩,
  ⟨0x80018, .hi, []⟩,
  ⟨0x8001c, .lo, [(0, 64, .ro)]⟩,
  ⟨0x80020, .hi, []⟩,
  ⟨0x80024, .lo, [(0, 64, .ro)]⟩,
  ⟨0x80028, .hi, []⟩,
  ⟨0x8002c, .plain, [(0, 2, .ro), (2, 1, .ro), (4, 4, .ro), (8, 8, .ro), (16, 16, .ro)]⟩,
  ⟨0x80030, .plain, [(0, 8, .ro), (8, 8, .ro), (16, 8, .ro), (24, 8, .ro)]⟩,
  ⟨0x80034, .plain, [(0, 16, .ro), (16, 16, .ro)]⟩,
  ⟨0x80038, .plain, [(0, 12, .ro), (12, 12, .ro), (24, 8, .ro)]⟩,
  ⟨0x8003c, .plain, [(0, 32, .ro)]⟩]

/-- The register map of EPG. -/
def rowsEPG : List RegRow := rowsEPG0

/-- Registers of the block CLK, part 0 (channel, die, link or array index 0). -/
def rowsCLK0 : List RegRow := [
  ⟨0x120000, .lo, [(0, 64, .ro)]⟩,
  ⟨0x120004, .hi, []⟩,
  ⟨0x120008, .plain, [(0, 3, .ro), (3, 1, .ro), (4, 2, .ro), (8, 8, .ro)]⟩,
  ⟨0x12000c, .plain, [(0, 32, .ro)]⟩,
  ⟨0x120010, .plain, [(0, 20, .ro)]⟩,
  ⟨0x120014, .plain, [(0, 32, .ro)]⟩,
  ⟨0x120018, .plain, [(0, 32, .ro)]⟩]

/-- The register map of CLK. -/
def rowsCLK : List RegRow := rowsCLK0

/-- Registers of the block NRG, part 0 (channel, die, link or array index 0). -/
def rowsNRG0 : List RegRow := [
  ⟨0x90000, .plain, [(0, 2, .rwl), (2, 3, .rwl), (16, 13, .rwl)]⟩,
  ⟨0x90004, .plain, [(0, 16, .rwl), (16, 16, .rwl)]⟩,
  ⟨0x90008, .plain, [(0, 14, .rwl), (16, 6, .rwl)]⟩,
  ⟨0x9000c, .plain, [(0, 1, .wo), (1, 1, .wo), (16, 14, .rw)]⟩,
  ⟨0x90010, .plain, [(0, 3, .ro), (3, 1, .ro), (4, 1, .ro), (5, 1, .ro), (6, 1, .ro), (7, 1, .ro), (8, 1, .ro), (9, 1, .ro), (10, 1, .ro), (16, 8, .ro), (24, 8, .ro)]⟩,
  ⟨0x90014, .plain, [(0, 32, .ro)]⟩,
  ⟨0x90018, .plain, [(0, 16, .ro), (16, 16, .ro)]⟩,
  ⟨0x9001c, .lo, [(0, 64, .ro)]⟩,
  ⟨0x90020, .hi, []⟩,
  ⟨0x90024, .plain, [(0, 10, .ro), (10, 10, .ro), (20, 10, .ro)]⟩,
  ⟨0x90028, .plain, [(0, 24, .ro), (24, 8, .ro)]⟩,
  ⟨0x9002c, .plain, [(0, 24, .ro), (24, 8, .ro)]⟩,
  ⟨0x90030, .plain, [(0, 24, .ro), (24, 8, .ro)]⟩,
  ⟨0x90034, .plain, [(0, 16, .ro), (16, 5, .ro)]⟩,
  ⟨0x90038, .plain, [(0, 8, .ro), (8, 8, .ro), (16, 3, .ro), (24, 8, .ro)]⟩,
  ⟨0x9003c, .plain, [(0, 24, .ro), (24, 8, .ro)]⟩,
  ⟨0x90040, .plain, [(0, 8, .ro), (8, 8, .ro), (16, 8, .ro), (24, 8, .ro)]⟩]

/-- The register map of NRG. -/
def rowsNRG : List RegRow := rowsNRG0

/-- Registers of the block PSQ, part 0 (channel, die, link or array index 0). -/
def rowsPSQ0 : List RegRow := [
  ⟨0xa0000, .plain, [(0, 12, .rwl), (16, 12, .rwl)]⟩,
  ⟨0xa0004, .plain, [(0, 2, .rwl), (8, 7, .rwl), (16, 16, .rwl)]⟩,
  ⟨0xa0008, .plain, [(0, 3, .ro), (4, 4, .ro), (8, 1, .ro), (9, 1, .ro)]⟩,
  ⟨0xa000c, .plain, [(0, 16, .ro), (16, 16, .ro)]⟩,
  ⟨0xa0010, .plain, [(0, 16, .w1c), (16, 16, .w1c)]⟩,
  ⟨0xa0014, .plain, [(0, 4, .rw)]⟩,
  ⟨0xa0018, .plain, [(0, 1, .rwl), (1, 1, .rwl), (2, 1, .rwl), (4, 4, .rwl), (8, 4, .rwl), (12, 2, .rwl), (14, 2, .rwl), (16, 2, .rwl), (24, 8, .rwl)]⟩,
  ⟨0xa001c, .plain, [(0, 6, .rwl), (8, 6, .rwl), (16, 6, .rwl)]⟩,
  ⟨0xa0020, .plain, [(0, 14, .rwl), (16, 9, .rwl)]⟩,
  ⟨0xa0024, .plain, [(0, 10, .rwl), (16, 10, .rwl)]⟩,
  ⟨0xa0028, .plain, [(0, 3, .ro), (4, 2, .ro), (8, 4, .ro), (16, 12, .ro)]⟩,
  ⟨0xa002c, .plain, [(0, 16, .ro), (16, 16, .ro)]⟩,
  ⟨0xa0030, .plain, [(0, 2, .ro), (4, 4, .ro), (16, 16, .ro)]⟩]

/-- The register map of PSQ. -/
def rowsPSQ : List RegRow := rowsPSQ0

/-- Registers of the block PRD, part 0 (channel, die, link or array index 0). -/
def rowsPRD0 : List RegRow := [
  ⟨0xc0000, .plain, [(0, 1, .rwl), (8, 8, .rwl)]⟩,
  ⟨0xc0004, .plain, [(0, 2, .ro), (8, 8, .ro), (16, 16, .ro)]⟩,
  ⟨0xc0008, .plain, [(0, 16, .ro), (16, 16, .ro)]⟩,
  ⟨0xc0040, .plain, [(0, 3, .ro), (3, 1, .ro), (4, 1, .ro), (5, 1, .ro), (6, 1, .ro), (8, 3, .ro), (12, 2, .ro)]⟩,
  ⟨0xc0044, .plain, [(0, 16, .ro), (16, 16, .ro)]⟩,
  ⟨0xc0048, .plain, [(0, 8, .ro), (8, 8, .ro), (16, 16, .ro)]⟩,
  ⟨0xc004c, .plain, [(0, 16, .ro)]⟩]

/-- The register map of PRD. -/
def rowsPRD : List RegRow := rowsPRD0

/-- Registers of the block GST, part 0 (channel, die, link or array index 0). -/
def rowsGST0 : List RegRow := [
  ⟨0xd0000, .plain, [(0, 16, .rwl), (16, 16, .rwl)]⟩,
  ⟨0xd0004, .plain, [(0, 5, .rwl), (8, 8, .rwl), (16, 8, .rwl)]⟩,
  ⟨0xd0008, .plain, [(0, 32, .rwl)]⟩,
  ⟨0xd000c, .plain, [(0, 32, .rwl)]⟩,
  ⟨0xd0010, .plain, [(0, 3, .ro), (3, 2, .ro), (5, 1, .ro), (6, 1, .ro), (7, 1, .ro), (8, 4, .ro), (16, 10, .ro)]⟩,
  ⟨0xd0014, .plain, [(0, 16, .wo)]⟩,
  ⟨0xd0018, .plain, [(0, 32, .ro)]⟩,
  ⟨0xd001c, .plain, [(0, 8, .ro), (8, 8, .ro)]⟩,
  ⟨0xd0020, .plain, [(0, 32, .w1c)]⟩,
  ⟨0xd0024, .plain, [(0, 8, .ro), (8, 8, .ro), (16, 8, .ro)]⟩,
  ⟨0xd0028, .plain, [(0, 8, .ro), (8, 8, .ro), (16, 16, .ro)]⟩]

/-- The register map of GST. -/
def rowsGST : List RegRow := rowsGST0

/-- Registers of the block MBX, part 0 (channel, die, link or array index 0). -/
def rowsMBX0 : List RegRow := [
  ⟨0xe0000, .plain, [(0, 4, .ro), (4, 1, .ro), (8, 4, .ro), (12, 1, .ro)]⟩,
  ⟨0xe0004, .lo, [(0, 64, .ro)]⟩,
  ⟨0xe0008, .hi, []⟩,
  ⟨0xe000c, .lo, [(0, 64, .ro)]⟩,
  ⟨0xe0010, .hi, []⟩,
  ⟨0xe0014, .plain, [(0, 13, .ro), (16, 1, .ro), (17, 1, .ro), (18, 1, .ro)]⟩,
  ⟨0xe0018, .plain, [(0, 4, .w1c)]⟩,
  ⟨0xe001c, .plain, [(0, 4, .rw), (8, 4, .rw), (16, 4, .rw)]⟩,
  ⟨0xe0020, .plain, [(0, 3, .ro), (3, 1, .ro), (8, 4, .ro), (16, 8, .ro)]⟩,
  ⟨0xe0024, .plain, [(0, 32, .ro)]⟩,
  ⟨0xe0028, .plain, [(0, 32, .ro)]⟩,
  ⟨0xe002c, .plain, [(0, 2, .ro), (2, 2, .ro), (4, 2, .ro), (6, 1, .ro), (7, 1, .ro), (8, 1, .ro), (16, 8, .ro)]⟩,
  ⟨0xe0030, .plain, [(0, 32, .ro)]⟩,
  ⟨0xe0034, .plain, [(0, 8, .ro), (8, 8, .ro), (16, 8, .ro), (24, 8, .ro)]⟩]

/-- The register map of MBX. -/
def rowsMBX : List RegRow := rowsMBX0

/-- Registers of the block SBB, part 0 (channel, die, link or array index 0). -/
def rowsSBB0 : List RegRow := [
  ⟨0xf0000, .plain, [(0, 16, .ro), (16, 8, .ro)]⟩,
  ⟨0xf0004, .plain, [(0, 3, .ro), (3, 1, .ro), (4, 1, .ro), (8, 8, .ro)]⟩,
  ⟨0xf0008, .plain, [(2, 22, .rw), (31, 1, .rw)]⟩,
  ⟨0xf000c, .plain, [(0, 32, .rw)]⟩,
  ⟨0xf0010, .plain, [(0, 2, .rwl), (8, 8, .rwl), (16, 8, .rwl)]⟩,
  ⟨0xf0014, .plain, [(0, 8, .w1c)]⟩,
  ⟨0xf0018, .plain, [(0, 4, .ro), (8, 8, .ro), (16, 8, .ro), (24, 8, .ro)]⟩,
  ⟨0xf001c, .plain, [(0, 8, .ro), (8, 8, .ro), (16, 8, .ro), (24, 8, .ro)]⟩]

/-- The register map of SBB. -/
def rowsSBB : List RegRow := rowsSBB0

/-- Registers of the block EFL, part 0 (channel, die, link or array index 0). -/
def rowsEFL0 : List RegRow := [
  ⟨0x100000, .plain, [(0, 16, .ro), (16, 4, .ro), (24, 4, .ro)]⟩,
  ⟨0x100004, .plain, [(0, 2, .ro), (2, 2, .ro), (4, 4, .ro), (8, 1, .ro), (9, 1, .ro), (16, 16, .ro)]⟩,
  ⟨0x100008, .plain, [(0, 16, .ro), (16, 16, .ro)]⟩,
  ⟨0x100010, .plain, [(0, 16, .wo)]⟩,
  ⟨0x100014, .plain, [(0, 19, .rw)]⟩,
  ⟨0x100018, .plain, [(0, 4, .wo)]⟩,
  ⟨0x10001c, .plain, [(0, 1, .ro), (1, 1, .ro), (2, 4, .ro), (6, 10, .ro), (16, 16, .ro)]⟩,
  ⟨0x100020, .plain, [(0, 32, .wo)]⟩,
  ⟨0x100030, .plain, [(0, 32, .ro)]⟩]

/-- The register map of EFL. -/
def rowsEFL : List RegRow := rowsEFL0

/-- Registers of the block EVR, part 0 (channel, die, link or array index 0). -/
def rowsEVR0 : List RegRow := [
  ⟨0x110000, .plain, [(0, 15, .ro), (16, 1, .ro), (17, 1, .ro), (18, 1, .ro), (19, 7, .ro), (26, 6, .ro)]⟩,
  ⟨0x110004, .plain, [(0, 3, .rw), (8, 8, .rw), (16, 7, .rw)]⟩,
  ⟨0x110008, .plain, [(0, 16, .wo)]⟩,
  ⟨0x11000c, .plain, [(0, 8, .ro), (8, 8, .ro), (16, 8, .ro), (24, 8, .ro)]⟩,
  ⟨0x110010, .plain, [(0, 14, .rw)]⟩,
  ⟨0x110020, .plain, [(0, 32, .ro)]⟩]

/-- The register map of EVR. -/
def rowsEVR : List RegRow := rowsEVR0

/-- The reset values of the register maps (R8) that are not zero, every block, sorted by key. HUB_ID.VARIANT 0x02 (JXP-8640-G) and the three
steppings 1 are the model's choice among the values that R73 gives 'per die' (log entry 3). -/
def resetRegs0 : List (Nat × Nat) := [(4194304, 34368), (4194320, 2), (4194328, 88), (4194560, 1), (4194564, 1), (4194568, 1), (8404992, 4), (8404996, 4), (8405000, 4), (8405248, 16), (12583168, 72), (12583176, 24), (12583184, 2), (12583424, 125), (12583432, 12), (12583440, 20), (12585728, 24), (12585736, 1), (12845312, 72), (12845320, 24), (12845328, 2), (12845568, 125), (12845576, 12), (12845584, 20), (12847872, 24), (12847880, 1), (13107456, 72), (13107464, 24), (13107472, 2), (13107712, 125), (13107720, 12), (13107728, 20), (13110016, 24), (13110024, 1), (13369600, 72), (13369608, 24), (13369616, 2), (13369856, 125), (13369864, 12), (13369872, 20)]
def resetRegs1 : List (Nat × Nat) := [(13372160, 24), (13372168, 1), (13631744, 72), (13631752, 24), (13631760, 2), (13632000, 125), (13632008, 12), (13632016, 20), (13634304, 24), (13634312, 1), (13893888, 72), (13893896, 24), (13893904, 2), (13894144, 125), (13894152, 12), (13894160, 20), (13896448, 24), (13896456, 1), (14156032, 72), (14156040, 24), (14156048, 2), (14156288, 125), (14156296, 12), (14156304, 20), (14158592, 24), (14158600, 1), (14418176, 72), (14418184, 24), (14418192, 2), (14418432, 125), (14418440, 12), (14418448, 20), (14420736, 24), (14420744, 1), (16777216, 8), (16777224, 10), (16777232, 24), (16777240, 16), (20971520, 65536), (20971776, 4096)]
def resetRegs2 : List (Nat × Nat) := [(20972032, 4096), (20972288, 105), (20972544, 900), (20972560, 10), (20972568, 16), (20974592, 8), (20974600, 24), (20974608, 16), (20974616, 1), (25166848, 32768), (41943040, 950), (41943056, 900), (46137344, 1), (46137348, 1), (46137856, 1), (46151680, 90), (46151690, 2), (62914560, 34368), (62914576, 1), (62915584, 1), (62915592, 10), (62915600, 255), (67108864, 8192), (67108880, 2), (67108888, 4), (67109124, 3), (71303424, 1), (71303432, 100), (71303440, 8), (75498752, 4294967295)]
def resetRegs : List (Nat × Nat) := resetRegs0 ++ resetRegs1 ++ resetRegs2

end Sys2Proof.Machine
end

