-- ==== Sys2Proof/Machine/Image.lean ====
section
/-! DEFINITION. Sys2Proof/Machine/Image.lean: the configuration image (R49 to R57): the fields of its sections with their
ranges, the checks of R54 and R55, and the registers that the fields are written to. -/
namespace Sys2Proof.Machine

/-- A field of a section: section type, index within the section, and range of values. -/
structure ImgFld where
  sec : Nat
  idx : Nat
  lo : Nat
  hi : Nat
  deriving DecidableEq, Repr

def ImgFld.key (f : ImgFld) : Nat := f.sec * 1024 + f.idx

/-- The value of a field in an image copy. -/
def imgGet (m : ImageCopy) (f : ImgFld) : Nat := mapGet 0 m.vals f.key

/-- A field lies within its range. -/
def imgIn (m : ImageCopy) (f : ImgFld) : Bool := decide (f.lo ≤ imgGet m f) && decide (imgGet m f ≤ f.hi)

/-- The image holds a section of a type. -/
def imgHas (m : ImageCopy) (t : Nat) : Bool := m.sections.any (fun x => x.type == t)

def Img.KEY_HASH : ImgFld := ⟨1, 0, 0, 39402006196394479212279040100143613805079739270465446667948293404245721771497210611414266254884915640806627990306816⟩
def Img.SERIAL : ImgFld := ⟨1, 1, 0, 18446744073709551615⟩
def Img.ORDERING : ImgFld := ⟨1, 3, 0, 39402006196394479212279040100143613805079739270465446667948293404245721771497210611414266254884915640806627990306815⟩
def Img.GEOMETRY : ImgFld := ⟨1, 4, 0, 39402006196394479212279040100143613805079739270465446667948293404245721771497210611414266254884915640806627990306815⟩
def Img.CAPACITY : ImgFld := ⟨1, 2, 0, 1048576⟩
def Img.VIN_RISE : ImgFld := ⟨2, 0, 0, 1200⟩
def Img.VIN_FALL : ImgFld := ⟨2, 1, 500, 1200⟩
def Img.VIN_DIV : ImgFld := ⟨2, 2, 2000, 20000⟩
def Img.WDI_TIMEOUT : ImgFld := ⟨2, 3, 0, 60000⟩
def Img.WDI_RESPONSE : ImgFld := ⟨2, 4, 1, 2⟩
def Img.WDI_FIRST : ImgFld := ⟨2, 5, 1, 100⟩
def Img.RAIL_ENABLE (n : Nat) : ImgFld := ⟨2, 6 + n, 0, 1⟩
def Img.RAIL_SAVE_NEEDED (n : Nat) : ImgFld := ⟨2, 38 + n, 0, 1⟩
def Img.RAIL_DOWN_AT_SAVE (n : Nat) : ImgFld := ⟨2, 70 + n, 0, 1⟩
def Img.RAIL_UP_POS (n : Nat) : ImgFld := ⟨2, 102 + n, 2, 15⟩
def Img.RAIL_DOWN_POS (n : Nat) : ImgFld := ⟨2, 134 + n, 0, 13⟩
def Img.RAIL_RESPONSE (n : Nat) : ImgFld := ⟨2, 166 + n, 0, 3⟩
def Img.RAIL_GROUP (n : Nat) : ImgFld := ⟨2, 198 + n, 0, 3⟩
def Img.RAIL_RETRIES (n : Nat) : ImgFld := ⟨2, 230 + n, 0, 3⟩
def Img.RAIL_UV (n : Nat) : ImgFld := ⟨2, 262 + n, 2, 40⟩
def Img.RAIL_OV (n : Nat) : ImgFld := ⟨2, 294 + n, 2, 40⟩
def Img.RAIL_FALL_PCT (n : Nat) : ImgFld := ⟨2, 326 + n, 5, 50⟩
def Img.RAIL_UP_DELAY (n : Nat) : ImgFld := ⟨2, 358 + n, 0, 255⟩
def Img.RAIL_INRUSH (n : Nat) : ImgFld := ⟨2, 390 + n, 1, 10000⟩
def Img.RAIL_PG_TIMEOUT (n : Nat) : ImgFld := ⟨2, 422 + n, 1, 500⟩
def Img.RAIL_FALL_TIMEOUT (n : Nat) : ImgFld := ⟨2, 454 + n, 1, 1000⟩
def Img.RAIL_RETRY_OFF (n : Nat) : ImgFld := ⟨2, 486 + n, 1, 1000⟩
def Img.SRIS0 : ImgFld := ⟨3, 0, 0, 1⟩
def Img.SRIS1 : ImgFld := ⟨3, 1, 0, 1⟩
/-- The SPI clock after lock in MHz; the spec gives its section but no layout, so the unit and the lower end of the range are the model's, and R39
gives the upper end, 80 with quad mode (`clockOk`) and 100 with octal mode (log entry 107, DESIGN CHOICE). -/
def Img.SPI_CLK : ImgFld := ⟨3, 2, 0, 100⟩
/-- The frequency of CHG_PWM in kHz (R44; the unit is the model's, log entry 107). -/
def Img.PWM_FREQ : ImgFld := ⟨3, 3, 100, 1000⟩
def Img.CH4 : ImgFld := ⟨4, 0, 0, 1⟩
def Img.GRAIN : ImgFld := ⟨4, 1, 0, 6⟩
def Img.HASH : ImgFld := ⟨4, 2, 0, 1⟩
def Img.MAP_MODE : ImgFld := ⟨4, 3, 0, 1⟩
def Img.BANK_XOR : ImgFld := ⟨4, 4, 0, 1⟩
def Img.RANKS : ImgFld := ⟨4, 5, 0, 1⟩
def Img.STACK : ImgFld := ⟨4, 6, 0, 2⟩
def Img.DENSITY : ImgFld := ⟨4, 7, 0, 1⟩
def Img.SPEED : ImgFld := ⟨4, 8, 0, 3⟩
def Img.REF_SB : ImgFld := ⟨4, 9, 0, 1⟩
def Img.WCRC_EN : ImgFld := ⟨4, 10, 0, 1⟩
def Img.WM_HIGH : ImgFld := ⟨4, 11, 2, 96⟩
def Img.WM_LOW : ImgFld := ⟨4, 12, 0, 95⟩
def Img.WR_AGE : ImgFld := ⟨4, 13, 1, 15⟩
def Img.OPEN_IDLE : ImgFld := ⟨4, 14, 0, 255⟩
def Img.AUTO_IDLE : ImgFld := ⟨4, 15, 0, 255⟩
def Img.REEL_AGE : ImgFld := ⟨4, 16, 0, 255⟩
def Img.DRAM_DT : ImgFld := ⟨4, 17, 2, 20⟩
def Img.FLASH_DT : ImgFld := ⟨4, 18, 2, 20⟩
def Img.MAX_INTERVAL : ImgFld := ⟨4, 19, 1, 255⟩
def Img.EYE_MIN : ImgFld := ⟨4, 20, 9, 64⟩
def Img.HINT0 (n : Nat) : ImgFld := ⟨4, 21 + n, 0, 3⟩
def Img.HINT1 (n : Nat) : ImgFld := ⟨4, 29 + n, 0, 3⟩
/-- The device width: x4 only (R134). -/
def Img.WIDTH : ImgFld := ⟨4, 37, 4, 4⟩
def Img.DIES : ImgFld := ⟨6, 0, 1, 8⟩
def Img.LUNS : ImgFld := ⟨6, 1, 1, 2⟩
def Img.PLANES : ImgFld := ⟨6, 2, 2, 4⟩
def Img.BITS : ImgFld := ⟨6, 3, 3, 4⟩
def Img.BLOCKS : ImgFld := ⟨6, 4, 256, 2048⟩
def Img.WORDLINES : ImgFld := ⟨6, 5, 128, 512⟩
def Img.SPARE : ImgFld := ⟨6, 6, 2048, 4096⟩
def Img.IFACE : ImgFld := ⟨6, 7, 0, 1⟩
def Img.MODE : ImgFld := ⟨6, 8, 0, 255⟩
def Img.RATE : ImgFld := ⟨6, 9, 800, 3600⟩
def Img.T_C : ImgFld := ⟨6, 10, 12000, 65535⟩
def Img.T_NAT : ImgFld := ⟨6, 11, 200, 5000⟩
def Img.T_R_SLC : ImgFld := ⟨6, 12, 0, 35⟩
def Img.T_R_NAT : ImgFld := ⟨6, 13, 0, 35⟩
def Img.T_ERS_SLC : ImgFld := ⟨6, 14, 1000, 20000⟩
def Img.T_ERS_NAT : ImgFld := ⟨6, 15, 1000, 20000⟩
def Img.T_SUSP : ImgFld := ⟨6, 16, 0, 20⟩
def Img.T_RST : ImgFld := ⟨6, 17, 0, 40⟩
def Img.PE_NAT : ImgFld := ⟨6, 18, 500, 10000⟩
def Img.PE_SLC : ImgFld := ⟨6, 19, 5000, 60000⟩
def Img.PSLC_CMD : ImgFld := ⟨6, 20, 0, 255⟩
def Img.RL_FEATURE : ImgFld := ⟨6, 21, 0, 255⟩
def Img.RETRY_STEPS : ImgFld := ⟨6, 22, 0, 15⟩
def Img.SOLE_SPARE : ImgFld := ⟨6, 23, 1, 8⟩
def Img.WEAR_SPREAD : ImgFld := ⟨6, 24, 100, 10000⟩
def Img.SLOTS : ImgFld := ⟨8, 0, 0, 294912⟩
def Img.UNITS_CODE : ImgFld := ⟨8, 1, 0, 1⟩
def Img.SETS : ImgFld := ⟨8, 2, 4, 32⟩
def Img.BUDGET : ImgFld := ⟨9, 0, 4096, 262144⟩
def Img.MIN_SERVICE : ImgFld := ⟨9, 1, 1024, 262144⟩
def Img.FROZEN : ImgFld := ⟨9, 2, 1024, 262144⟩
def Img.WATTS : ImgFld := ⟨9, 3, 20, 1023⟩
def Img.P_SINGLE : ImgFld := ⟨9, 4, 0, 1023⟩
def Img.SERVICE_WAIT : ImgFld := ⟨9, 5, 60, 3600⟩
def Img.COLD_SWEEP : ImgFld := ⟨9, 6, 1, 100⟩
def Img.COMPACT : ImgFld := ⟨9, 7, 1, 64⟩
def Img.TRICKLE : ImgFld := ⟨9, 8, 0, 1023⟩
def Img.BW_BASE : ImgFld := ⟨9, 9, 1, 32⟩
def Img.BW_BAND : ImgFld := ⟨9, 10, 1, 32⟩
def Img.INFLIGHT : ImgFld := ⟨9, 11, 1, 32⟩
def Img.AUTO_WAKE : ImgFld := ⟨9, 12, 0, 1⟩
def Img.SINGLE_DIE_WAKE : ImgFld := ⟨9, 13, 0, 1⟩
def Img.W_H0 : ImgFld := ⟨9, 14, 1, 15⟩
def Img.W_H1 : ImgFld := ⟨9, 15, 1, 15⟩
def Img.W_G : ImgFld := ⟨9, 16, 1, 15⟩
def Img.CHEM : ImgFld := ⟨10, 0, 1, 2⟩
def Img.CELLS : ImgFld := ⟨10, 1, 0, 4⟩
def Img.V_FULL : ImgFld := ⟨10, 2, 4000, 16000⟩
def Img.V_CUT : ImgFld := ⟨10, 3, 2000, 12000⟩
def Img.SHUNT : ImgFld := ⟨10, 4, 500, 5000⟩
def Img.C_NOM : ImgFld := ⟨10, 5, 0, 4294967295⟩
def Img.I_CHG : ImgFld := ⟨10, 6, 100, 10000⟩
def Img.P_IN_MAX : ImgFld := ⟨10, 7, 5, 60⟩
def Img.ETA : ImgFld := ⟨10, 8, 900, 1000⟩
def Img.CHG_EFF : ImgFld := ⟨10, 9, 800, 980⟩
def Img.R_INT_NOM : ImgFld := ⟨10, 10, 1, 10000⟩
def Img.GAIN_ERR : ImgFld := ⟨10, 11, 10, 500⟩
def Img.SELF_DIS : ImgFld := ⟨10, 12, 0, 50000⟩
def Img.VIN_FALL_REF : ImgFld := ⟨10, 13, 0, 65535⟩
def Img.EOL_HEALTH : ImgFld := ⟨10, 14, 50, 90⟩
def Img.LEARN_DAYS : ImgFld := ⟨10, 15, 0, 255⟩
def Img.COLD_PCT : ImgFld := ⟨10, 16, 0, 50⟩
def Img.CHG_TMIN : ImgFld := ⟨10, 17, 0, 255⟩
def Img.CHG_TMAX : ImgFld := ⟨10, 18, 0, 255⟩
def Img.DIS_TMIN : ImgFld := ⟨10, 19, 0, 255⟩
def Img.DIS_TMAX : ImgFld := ⟨10, 20, 0, 255⟩
def Img.NTC_BETA : ImgFld := ⟨10, 21, 3000, 4500⟩
def Img.OCV (n : Nat) : ImgFld := ⟨10, 22 + n, 0, 65535⟩
def Img.UNITS : ImgFld := ⟨11, 0, 768, 16384⟩
def Img.TWO_HEAD : ImgFld := ⟨11, 1, 0, 1⟩
def Img.PTM_HEAD : ImgFld := ⟨11, 2, 0, 1⟩
def Img.GPF_POLICY : ImgFld := ⟨11, 3, 0, 1⟩
def Img.GPF_TIMEOUT : ImgFld := ⟨11, 4, 1, 1000⟩
def Img.ASPM_L1_IDLE : ImgFld := ⟨11, 5, 8, 1024⟩
def Img.H0_BASE : ImgFld := ⟨11, 6, 0, 16384⟩
def Img.H0_SIZE : ImgFld := ⟨11, 7, 0, 16384⟩
def Img.H1_BASE : ImgFld := ⟨11, 8, 0, 16384⟩
def Img.H1_SIZE : ImgFld := ⟨11, 9, 0, 16384⟩
/-- The device serial number and the PCIe identifiers of both heads (R80). -/
def Img.CXL_SERIAL : ImgFld := ⟨11, 10, 0, 18446744073709551615⟩
def Img.VENDOR_ID : ImgFld := ⟨11, 11, 0, 65535⟩
def Img.DEVICE_ID : ImgFld := ⟨11, 12, 0, 65535⟩
def Img.SUBVENDOR_ID : ImgFld := ⟨11, 13, 0, 65535⟩
def Img.SUBSYSTEM_ID : ImgFld := ⟨11, 14, 0, 65535⟩
def Img.ROLE : ImgFld := ⟨12, 0, 0, 2⟩
def Img.LIFETIME : ImgFld := ⟨12, 1, 1, 255⟩
def Img.PERIOD_MS : ImgFld := ⟨12, 2, 0, 10000⟩
def Img.PHASE : ImgFld := ⟨12, 3, 0, 9999999⟩
def Img.MODULE_ID : ImgFld := ⟨12, 4, 0, 262143⟩
def Img.GROUP_ID : ImgFld := ⟨12, 5, 0, 4294967295⟩
def Img.SHADOW_UNITS : ImgFld := ⟨12, 6, 0, 256⟩
def Img.GUEST_ID : ImgFld := ⟨13, 0, 0, 4294967295⟩
def Img.WIN_BASE : ImgFld := ⟨13, 1, 0, 16384⟩
def Img.WIN_SIZE : ImgFld := ⟨13, 2, 1, 16384⟩
def Img.BAR_LOG2 : ImgFld := ⟨13, 3, 0, 30⟩
def Img.MMIO_TIMEOUT : ImgFld := ⟨13, 4, 1, 100⟩
def Img.MAX_RATE : ImgFld := ⟨13, 5, 1, 6⟩
def Img.SLEEP_IDLE : ImgFld := ⟨13, 6, 0, 255⟩
def Img.INT_HOST : ImgFld := ⟨13, 7, 0, 4294967295⟩
def Img.INT_SB : ImgFld := ⟨13, 8, 0, 4294967295⟩
def Img.TEMP_PERIOD : ImgFld := ⟨13, 9, 1, 10⟩
def Img.MMIO_CREDITS_MIN : ImgFld := ⟨13, 10, 8, 64⟩
def Img.ADDR : ImgFld := ⟨14, 0, 16, 119⟩
def Img.I2C : ImgFld := ⟨14, 1, 0, 1⟩
def Img.PEC_EN : ImgFld := ⟨14, 2, 0, 1⟩
def Img.PEC_RD_LEN : ImgFld := ⟨14, 3, 0, 2⟩
def Img.CTRL_SPEED : ImgFld := ⟨14, 4, 0, 2⟩
def Img.ALERT_MODE : ImgFld := ⟨14, 5, 0, 3⟩
def Img.COALESCE : ImgFld := ⟨14, 6, 1, 255⟩
def Img.ALERT_MASK : ImgFld := ⟨14, 7, 0, 255⟩

/-- The fields of section 0x0001 that stand once in it, with their ranges. -/
def imgFields1 : List ImgFld := [Img.KEY_HASH, Img.SERIAL, Img.CAPACITY, Img.ORDERING, Img.GEOMETRY]
/-- The fields of section 0x0002 that stand once in it, with their ranges. -/
def imgFields2 : List ImgFld := [Img.VIN_RISE, Img.VIN_FALL, Img.VIN_DIV, Img.WDI_TIMEOUT, Img.WDI_RESPONSE, Img.WDI_FIRST]
/-- The fields of section 0x0003 that stand once in it, with their ranges. -/
def imgFields3 : List ImgFld := [Img.SRIS0, Img.SRIS1, Img.SPI_CLK, Img.PWM_FREQ]
/-- The fields of section 0x0004 that stand once in it, with their ranges. -/
def imgFields4 : List ImgFld := [Img.CH4, Img.GRAIN, Img.HASH, Img.MAP_MODE, Img.BANK_XOR, Img.RANKS, Img.STACK, Img.DENSITY, Img.SPEED, Img.REF_SB, Img.WCRC_EN, Img.WM_HIGH, Img.WM_LOW, Img.WR_AGE, Img.OPEN_IDLE, Img.AUTO_IDLE, Img.REEL_AGE, Img.DRAM_DT, Img.FLASH_DT, Img.MAX_INTERVAL, Img.EYE_MIN, Img.WIDTH]
  ++ (List.range 8).map Img.HINT0 ++ (List.range 8).map Img.HINT1
/-- The fields of section 0x0006 that stand once in it, with their ranges. -/
def imgFields6 : List ImgFld := [Img.DIES, Img.LUNS, Img.PLANES, Img.BITS, Img.BLOCKS, Img.WORDLINES, Img.SPARE, Img.IFACE, Img.MODE, Img.RATE, Img.T_C, Img.T_NAT, Img.T_R_SLC, Img.T_R_NAT, Img.T_ERS_SLC, Img.T_ERS_NAT, Img.T_SUSP, Img.T_RST, Img.PE_NAT, Img.PE_SLC, Img.PSLC_CMD, Img.RL_FEATURE, Img.RETRY_STEPS, Img.SOLE_SPARE, Img.WEAR_SPREAD]
/-- The fields of section 0x0008 that stand once in it, with their ranges. -/
def imgFields8 : List ImgFld := [Img.SLOTS, Img.UNITS_CODE, Img.SETS]
/-- The fields of section 0x0009 that stand once in it, with their ranges. -/
def imgFields9 : List ImgFld := [Img.BUDGET, Img.MIN_SERVICE, Img.FROZEN, Img.WATTS, Img.P_SINGLE, Img.SERVICE_WAIT, Img.COLD_SWEEP, Img.COMPACT, Img.TRICKLE, Img.BW_BASE, Img.BW_BAND, Img.INFLIGHT, Img.AUTO_WAKE, Img.SINGLE_DIE_WAKE, Img.W_H0, Img.W_H1, Img.W_G]
/-- The fields of section 0x000a that stand once in it, with their ranges. -/
def imgFields10 : List ImgFld := [Img.CHEM, Img.CELLS, Img.V_FULL, Img.V_CUT, Img.SHUNT, Img.C_NOM, Img.I_CHG, Img.P_IN_MAX, Img.ETA, Img.CHG_EFF, Img.R_INT_NOM, Img.GAIN_ERR, Img.SELF_DIS, Img.VIN_FALL_REF, Img.EOL_HEALTH, Img.LEARN_DAYS, Img.COLD_PCT, Img.CHG_TMIN, Img.CHG_TMAX, Img.DIS_TMIN, Img.DIS_TMAX, Img.NTC_BETA]
/-- The fields of section 0x000b that stand once in it, with their ranges. -/
def imgFields11 : List ImgFld := [Img.UNITS, Img.TWO_HEAD, Img.PTM_HEAD, Img.GPF_POLICY, Img.GPF_TIMEOUT, Img.ASPM_L1_IDLE, Img.H0_BASE, Img.H0_SIZE, Img.H1_BASE, Img.H1_SIZE, Img.CXL_SERIAL, Img.VENDOR_ID, Img.DEVICE_ID, Img.SUBVENDOR_ID, Img.SUBSYSTEM_ID]
/-- The fields of section 0x000c that stand once in it, with their ranges. -/
def imgFields12 : List ImgFld := [Img.ROLE, Img.LIFETIME, Img.PERIOD_MS, Img.PHASE, Img.MODULE_ID, Img.GROUP_ID, Img.SHADOW_UNITS]
/-- The fields of section 0x000d that stand once in it, with their ranges. -/
def imgFields13 : List ImgFld := [Img.GUEST_ID, Img.WIN_BASE, Img.WIN_SIZE, Img.BAR_LOG2, Img.MMIO_TIMEOUT, Img.MAX_RATE, Img.SLEEP_IDLE, Img.INT_HOST, Img.INT_SB, Img.TEMP_PERIOD, Img.MMIO_CREDITS_MIN]
/-- The fields of section 0x000e that stand once in it, with their ranges. -/
def imgFields14 : List ImgFld := [Img.ADDR, Img.I2C, Img.PEC_EN, Img.PEC_RD_LEN, Img.CTRL_SPEED, Img.ALERT_MODE, Img.COALESCE, Img.ALERT_MASK]
/-- The fields of a section type (R54). -/
def imgFields : Nat → List ImgFld
  | 1 => imgFields1
  | 2 => imgFields2
  | 3 => imgFields3
  | 4 => imgFields4
  | 6 => imgFields6
  | 8 => imgFields8
  | 9 => imgFields9
  | 10 => imgFields10
  | 11 => imgFields11
  | 12 => imgFields12
  | 13 => imgFields13
  | 14 => imgFields14
  | _ => []
/-- The fields of a rail slot entry (R332). -/
def railFields (n : Nat) : List ImgFld := [Img.RAIL_ENABLE n, Img.RAIL_SAVE_NEEDED n, Img.RAIL_DOWN_AT_SAVE n, Img.RAIL_UP_POS n, Img.RAIL_DOWN_POS n, Img.RAIL_RESPONSE n, Img.RAIL_GROUP n, Img.RAIL_RETRIES n, Img.RAIL_UV n, Img.RAIL_OV n, Img.RAIL_FALL_PCT n, Img.RAIL_UP_DELAY n, Img.RAIL_INRUSH n, Img.RAIL_PG_TIMEOUT n, Img.RAIL_FALL_TIMEOUT n, Img.RAIL_RETRY_OFF n]
/-! The RWL registers that M0 writes from the active copy: at the configuration read (R57), and at the lock (R65). -/
def readTargets0 : List (ImgFld × Fld) := [(Img.SRIS0, Reg.MEM_PORT_CFG.SRIS0), (Img.SRIS1, Reg.MEM_PORT_CFG.SRIS1), (Img.CH4, Reg.MEM_ILV_CFG.CH4), (Img.GRAIN, Reg.MEM_ILV_CFG.GRAIN), (Img.HASH, Reg.MEM_ILV_CFG.HASH), (Img.MAP_MODE, Reg.MEM_ILV_CFG.MAP_MODE), (Img.BANK_XOR, Reg.MEM_ILV_CFG.BANK_XOR), (Img.DRAM_DT, Reg.CAL_CFG.DRAM_DT), (Img.FLASH_DT, Reg.CAL_CFG.FLASH_DT), (Img.MAX_INTERVAL, Reg.CAL_CFG.MAX_INTERVAL), (Img.EYE_MIN, Reg.CAL_CFG.EYE_MIN), (Img.T_C, Reg.SAV_TIMING.T_C), (Img.SLOTS, Reg.SAV_LAST_CFG.SLOTS), (Img.UNITS_CODE, Reg.SAV_LAST_CFG.UNITS), (Img.SETS, Reg.SAV_LAST_CFG.SETS), (Img.BUDGET, Reg.DTK_BUDGET_CFG.VALUE), (Img.MIN_SERVICE, Reg.DTK_BUDGET_MIN.VALUE), (Img.FROZEN, Reg.DTK_BUDGET_FROZEN.VALUE), (Img.WATTS, Reg.DTK_SAVE_POWER.WATTS), (Img.P_SINGLE, Reg.SAV_POWER.P_SINGLE)]
def readTargets1 : List (ImgFld × Fld) := [(Img.SERVICE_WAIT, Reg.DTK_POLICY.SERVICE_WAIT), (Img.COLD_SWEEP, Reg.DTK_POLICY.COLD_SWEEP), (Img.COMPACT, Reg.DTK_POLICY.COMPACT), (Img.TRICKLE, Reg.MEM_THROTTLE_CFG.TRICKLE), (Img.W_H0, Reg.MEM_PIPE_QOS.W_H0), (Img.W_H1, Reg.MEM_PIPE_QOS.W_H1), (Img.W_G, Reg.MEM_PIPE_QOS.W_G), (Img.BW_BASE, Reg.DTK_REEL_CFG.BW_BASE), (Img.BW_BAND, Reg.DTK_REEL_CFG.BW_BAND), (Img.INFLIGHT, Reg.DTK_REEL_CFG.INFLIGHT), (Img.CHEM, Reg.NRG_CFG.CHEM), (Img.CELLS, Reg.NRG_CFG.CELLS), (Img.V_FULL, Reg.NRG_LIMITS.V_FULL), (Img.V_CUT, Reg.NRG_LIMITS.V_CUT), (Img.SHUNT, Reg.NRG_CFG.SHUNT), (Img.I_CHG, Reg.NRG_CHG_CFG.I_CHG), (Img.P_IN_MAX, Reg.NRG_CHG_CFG.P_IN_MAX), (Img.UNITS, Reg.MEM_CAPACITY.UNITS), (Img.TWO_HEAD, Reg.MEM_PORT_CFG.TWO_HEAD), (Img.PTM_HEAD, Reg.MEM_PORT_CFG.PTM_HEAD), (Img.GPF_POLICY, Reg.MEM_PORT_CFG.GPF_POLICY), (Img.GPF_TIMEOUT, Reg.MEM_PORT_CFG.GPF_TIMEOUT), (Img.ASPM_L1_IDLE, Reg.MEM_PORT_CFG.ASPM_L1_IDLE)]
def readTargets2 : List (ImgFld × Fld) := [(Img.H0_BASE, Reg.MEM_H0_WIN_BASE.VALUE), (Img.H0_SIZE, Reg.MEM_H0_WIN_SIZE.VALUE), (Img.H1_BASE, Reg.MEM_H1_WIN_BASE.VALUE), (Img.H1_SIZE, Reg.MEM_H1_WIN_SIZE.VALUE), (Img.ROLE, Reg.EPG_CFG.ROLE), (Img.LIFETIME, Reg.EPG_CFG.LIFETIME), (Img.PERIOD_MS, Reg.EPG_CFG.PERIOD_MS), (Img.PHASE, Reg.EPG_PHASE.PHASE), (Img.MODULE_ID, Reg.EPG_IDS.MODULE_ID), (Img.GROUP_ID, Reg.EPG_GROUP_ID.GROUP_ID), (Img.SHADOW_UNITS, Reg.MEM_CAPACITY.SHADOW_UNITS), (Img.WIN_BASE, Reg.GST_WIN.BASE), (Img.WIN_SIZE, Reg.GST_WIN.SIZE), (Img.BAR_LOG2, Reg.GST_BAR.LOG2), (Img.MMIO_TIMEOUT, Reg.GST_BAR.MMIO_TIMEOUT), (Img.SLEEP_IDLE, Reg.PRD_CFG.SLEEP_IDLE), (Img.INT_HOST, Reg.GST_INT_HOST.MASK), (Img.INT_SB, Reg.GST_INT_SB.MASK), (Img.TEMP_PERIOD, Reg.GST_BAR.TEMP_PERIOD)]
def readTargets : List (ImgFld × Fld) := readTargets0 ++ readTargets1 ++ readTargets2
def lockTargets0 : List (ImgFld × Fld) := [(Img.VIN_RISE, Reg.PSQ_VIN_CFG.RISE_MV), (Img.VIN_FALL, Reg.PSQ_VIN_CFG.FALL_MV), (Img.AUTO_WAKE, Reg.HEEL_WAKE_CFG.AUTO_WAKE), (Img.ADDR, Reg.HEEL_SB_CFG.ADDR), (Img.I2C, Reg.HEEL_SB_CFG.I2C), (Img.PEC_EN, Reg.HEEL_SB_CFG.PEC_EN), (Img.PEC_RD_LEN, Reg.HEEL_SB_CFG.PEC_RD_LEN), (Img.CTRL_SPEED, Reg.HEEL_SB_CFG.CTRL_SPEED), (Img.ALERT_MODE, Reg.SBB_ALERT_CFG.MODE), (Img.COALESCE, Reg.SBB_ALERT_CFG.COALESCE), (Img.ALERT_MASK, Reg.SBB_ALERT_CFG.MASK)]
def lockTargets : List (ImgFld × Fld) := lockTargets0
def channelTargets0 (ch : Nat) : List (ImgFld × Fld) := [(Img.RANKS, Reg.DRC_TOPO.RANKS ch), (Img.STACK, Reg.DRC_TOPO.STACK ch), (Img.DENSITY, Reg.DRC_TOPO.DENSITY ch), (Img.SPEED, Reg.DRC_TOPO.SPEED ch), (Img.REF_SB, Reg.DRC_TOPO.REF_SB ch), (Img.WCRC_EN, Reg.DRC_TOPO.WCRC_EN ch), (Img.WM_HIGH, Reg.DRC_QUEUE_CFG.WM_HIGH ch), (Img.WM_LOW, Reg.DRC_QUEUE_CFG.WM_LOW ch), (Img.WR_AGE, Reg.DRC_QUEUE_CFG.WR_AGE ch), (Img.OPEN_IDLE, Reg.DRC_PAGE_CFG.OPEN_IDLE ch), (Img.AUTO_IDLE, Reg.DRC_PAGE_CFG.AUTO_IDLE ch), (Img.REEL_AGE, Reg.DRC_PAGE_CFG.REEL_AGE ch)]
def channelTargets (ch : Nat) : List (ImgFld × Fld) := channelTargets0 ch

/-- The rail slots that the image configures (R332). -/
def railSlots : List Nat := [2, 3, 4, 5, 6, 7, 8, 9, 10, 11, 12, 13, 14, 15]

/-- No value occurs twice. -/
def noDup : List Nat → Bool
  | [] => true
  | x :: xs => !xs.contains x && noDup xs

/-- The signed value of a one-byte temperature field (R309). -/
def imgTemp (m : ImageCopy) (f : ImgFld) : Int := signedOf 8 (imgGet m f)

/-- The known section types (R54). -/
def knownSection (t : Nat) : Bool := decide (1 ≤ t) && decide (t ≤ 15)

/-- The required section types (R54). -/
def requiredSections : List Nat := [1, 2, 4, 6, 8, 9, 10, 11]

/-- The sections parse, no critical type is unknown, none is missing and none is doubled (R54): otherwise REJECT 0x9. -/
def sectionsOk (m : ImageCopy) : Bool :=
  m.parses && decide (1 ≤ m.sections.length) && decide (m.sections.length ≤ 64)
  && m.sections.all (fun x => knownSection x.type || !x.critical)
  && requiredSections.all (fun t => imgHas m t)
  && noDup ((m.sections.filter (fun x => x.type != 15)).map (·.type))

/-- P_save ÷ (ETA × V_CUT) in mA (R310, R322). -/
def saveCurrent (watts eta vcut : Nat) : Nat := watts * 1000000000 / (eta * vcut)

/-- The relations of R332 and R333 on section 0x0002. -/
def railsOk (variantS : Bool) (m : ImageCopy) : Bool :=
  let en := railSlots.filter (fun n => imgGet m (Img.RAIL_ENABLE n) == 1)
  railSlots.all (fun n => (railFields n).all (imgIn m)
    && decide (imgGet m (Img.RAIL_INRUSH n) < imgGet m (Img.RAIL_PG_TIMEOUT n) * 10)
    && !(imgGet m (Img.RAIL_SAVE_NEEDED n) == 1
        && (imgGet m (Img.RAIL_RESPONSE n) ≤ 1 || imgGet m (Img.RAIL_DOWN_AT_SAVE n) == 1))
    && !(imgGet m (Img.RAIL_RESPONSE n) == 2 && imgGet m (Img.RAIL_GROUP n) == 0)
    && !(imgGet m (Img.RAIL_GROUP n) == 3 && (variantS || (imgGet m (Img.RAIL_ENABLE n) == 1 && !imgHas m 13))))
  && noDup (en.map (fun n => imgGet m (Img.RAIL_UP_POS n)))
  && noDup (en.map (fun n => imgGet m (Img.RAIL_DOWN_POS n)))
  && decide ((en.map (fun n => imgGet m (Img.RAIL_UP_DELAY n) + imgGet m (Img.RAIL_PG_TIMEOUT n))).sum ≤ 4900)
  && decide (imgGet m Img.VIN_FALL + 20 ≤ imgGet m Img.VIN_RISE)
  && (imgGet m Img.WDI_TIMEOUT == 0 || decide (10 ≤ imgGet m Img.WDI_TIMEOUT))

/-- Installed DRAM in units of 256 MiB (R135): channels × ranks × stack × 16 data devices × density. -/
def installedUnits (m : ImageCopy) : Nat :=
  (if imgGet m Img.CH4 = 1 then 4 else 8) * (imgGet m Img.RANKS + 1) * 2 ^ imgGet m Img.STACK * 16
    * (if imgGet m Img.DENSITY = 1 then 16 else 8)

/-- The relations of R134 and R135 on section 0x0004, and of R83 and R106 on the capacity. -/
def dramOk (m : ImageCopy) : Bool :=
  decide (1024 ≤ installedUnits m) && decide (installedUnits m ≤ 16384)
  && (imgGet m Img.SPEED != 3 || (imgGet m Img.RANKS == 0 && decide (imgGet m Img.STACK ≤ 1)))
  && decide (imgGet m Img.WM_LOW < imgGet m Img.WM_HIGH)
  && imgGet m Img.UNITS + imgGet m Img.SHADOW_UNITS == installedUnits m

/-- The relations on the port section 0x000B (R84, R94, R106). -/
def portOk (m : ImageCopy) : Bool :=
  decide (imgGet m Img.H0_BASE + imgGet m Img.H0_SIZE ≤ imgGet m Img.UNITS)
  && decide (imgGet m Img.H1_BASE + imgGet m Img.H1_SIZE ≤ imgGet m Img.UNITS)
  && (if imgGet m Img.TWO_HEAD == 1 then imgGet m Img.GPF_POLICY == 0
      else (imgGet m Img.H0_BASE == 0 && imgGet m Img.H0_SIZE == imgGet m Img.UNITS && imgGet m Img.H1_BASE == 0
          && imgGet m Img.H1_SIZE == 0 && imgGet m Img.PTM_HEAD == 0))

/-- The relations on the flash sections 0x0006 to 0x0008 and the budget section 0x0009 (R173, R179, R196, R211, R249, R250). -/
def flashOk (m : ImageCopy) : Bool :=
  decide (imgGet m Img.DIES % imgGet m Img.LUNS = 0) && decide (imgGet m Img.DIES / imgGet m Img.LUNS ≤ 4)
  && imgGet m Img.PLANES != 3 && imgGet m Img.SETS == 4 * imgGet m Img.DIES
  && imgGet m Img.UNITS_CODE == (if imgGet m Img.PLANES = 4 then 0 else 1)
  && imgGet m Img.SLOTS == imgGet m Img.BUDGET + imgGet m Img.SHADOW_UNITS * 128
  && decide (imgGet m Img.MIN_SERVICE ≤ imgGet m Img.BUDGET)
  && decide (imgGet m Img.FROZEN ≤ imgGet m Img.MIN_SERVICE)
  && decide (4 * imgGet m Img.P_SINGLE ≤ 3 * imgGet m Img.WATTS)
  && decide (imgGet m Img.BW_BASE ≤ imgGet m Img.BW_BAND)
  && m.badBlocks.all (fun b => decide (b.channel < 64) && decide (b.way < imgGet m Img.DIES)
      && decide (b.block < imgGet m Img.BLOCKS) && decide (b.plane < imgGet m Img.PLANES))

/-- The entries of the OCV table rise strictly (R309). -/
def ocvRising (m : ImageCopy) : Nat → Bool
  | 0 => true
  | n + 1 => decide (imgGet m (Img.OCV n) < imgGet m (Img.OCV (n + 1))) && ocvRising m n

/-- The relations on the store section 0x000A (R308, R309, R310). -/
def storeOk (m : ImageCopy) : Bool :=
  let chem := imgGet m Img.CHEM; let n := imgGet m Img.CELLS; let vf := imgGet m Img.V_FULL; let vc := imgGet m Img.V_CUT
  let cap := imgGet m Img.C_NOM
  (if chem = 1 then
      decide (2 ≤ n) && decide (n ≤ 4) && decide (3450 * n ≤ vf) && decide (vf ≤ 3650 * n) && decide (2500 * n ≤ vc)
      && decide (vc ≤ 3000 * n) && decide (18000 ≤ cap) && decide (cap ≤ 720000) && ocvRising m 20
    else
      (List.range 21).all (fun i => imgGet m (Img.OCV i) == 0) && n == 0 && decide (4000 ≤ vf) && decide (vf ≤ 16000) && decide (2000 ≤ vc) && decide (2 * vc ≤ vf)
      && decide (200 ≤ cap) && decide (cap ≤ 20000))
  && decide (imgGet m Img.I_CHG * 36 ≤ cap)
  && decide (imgTemp m Img.CHG_TMIN < imgTemp m Img.CHG_TMAX) && decide (imgTemp m Img.DIS_TMIN < imgTemp m Img.DIS_TMAX)
  && decide (imgGet m Img.WATTS * 1000000000 * imgGet m Img.SHUNT ≤ 60000000 * (imgGet m Img.ETA * vc))
  && decide (imgGet m Img.I_CHG * imgGet m Img.SHUNT ≤ 60000000)
  && decide (vf * 103 ≤ 2000000)
  && decide (imgGet m Img.VIN_FALL_REF * 100000 ≤ imgGet m Img.VIN_FALL * imgGet m Img.VIN_DIV * 101)
  && decide (imgGet m Img.VIN_FALL * imgGet m Img.VIN_DIV * 99 ≤ imgGet m Img.VIN_FALL_REF * 100000)

/-- The relations on the group section 0x000C (R283, R305). -/
def groupOk (m : ImageCopy) : Bool :=
  !imgHas m 12 || ((imgGet m Img.ROLE == 0 || decide (1 ≤ imgGet m Img.PERIOD_MS))
    && (imgGet m Img.PHASE == 0 || decide (imgGet m Img.PHASE < imgGet m Img.PERIOD_MS * 1000)))

/-- The relations on the guest section 0x000D (R380). -/
def guestOk (variantS : Bool) (m : ImageCopy) : Bool :=
  !imgHas m 13 || (!variantS && decide (imgGet m Img.WIN_BASE + imgGet m Img.WIN_SIZE ≤ imgGet m Img.UNITS)
    && (imgGet m Img.BAR_LOG2 == 0 || decide (16 ≤ imgGet m Img.BAR_LOG2)))

/-- The relations on the sideband section 0x000E (R410). -/
def sidebandOk (m : ImageCopy) : Bool :=
  !imgHas m 14 || (imgGet m Img.ADDR != 0x61
    && !(imgGet m Img.I2C == 1 && (imgGet m Img.PEC_EN == 1 || decide (2 ≤ imgGet m Img.ALERT_MODE))))

/-- The SPI clock of section 0x0003 is at most the limit of R39 for the mode in use. -/
def clockOk (quad : Bool) (m : ImageCopy) : Bool := !imgHas m 3 || decide (imgGet m Img.SPI_CLK ≤ if quad then 80 else 100)

/-- The training seeds of section 0x0005 name lanes that there are, with delays and Vref codes in the widths that a calibration record gives them (R138,
R163, log entry 145). -/
def seedsOk (m : ImageCopy) : Bool :=
  m.seeds.all (fun x => decide (x.channel < 8) && decide (x.rank < 2) && decide (x.lane < 80) && decide (x.rdDly < 512) && decide (x.wrDly < 512)
    && decide (x.rdVref < 128) && decide (x.wrVref < 128))

/-- Every field of every known section is within its limits, and every relation holds (R54): otherwise REJECT 0xA. -/
def limitsOk (variantS quad : Bool) (m : ImageCopy) : Bool :=
  m.sections.all (fun x => (imgFields x.type).all (imgIn m)) && clockOk quad m
  && railsOk variantS m && dramOk m && portOk m && flashOk m && storeOk m && groupOk m && guestOk variantS m && sidebandOk m && seedsOk m

/-! The checks of R55. Each gives its REJECT code, 0 when it passes. -/

/-- Two regions share a byte. -/
def overlaps (a n b k : Nat) : Bool := decide (a < b + k) && decide (b < a + n)

/-- The offset and reserved size of a copy in the directory: copy A is `false`. -/
def dirRegion (d : Directory) (b : Bool) : Nat × Nat := if b then (d.bOffset, d.bSize) else (d.aOffset, d.aSize)

/-- Check 1 of R55: the region of the copy meets R50. -/
def regionOk (n : Nor) (d : Directory) (b : Bool) : Bool :=
  let r := dirRegion d b; let o := dirRegion d (!b)
  r.1 != 0 && r.2 != 0 && r.1 % 65536 == 0 && decide (r.2 ≤ 16777216) && decide (r.1 + r.2 ≤ n.capacity)
  && !overlaps r.1 r.2 0 8192 && !(o.2 != 0 && overlaps r.1 r.2 o.1 o.2)
  && !(d.intOffset != 0 && d.intSize != 0 && overlaps r.1 r.2 d.intOffset d.intSize)

/-- The copy in one of the two regions. -/
def norCopy (n : Nor) (b : Bool) : ImageCopy := if b then n.copyB else n.copyA

/-- The header stage of R55 (checks 1 and 2): REJECT code. -/
def headerReject (n : Nor) (d : Directory) (b : Bool) : Nat :=
  let m := norCopy n b
  if !regionOk n d b then 1
  else if m.readFails = some 0 then 0xB
  else if m.magic ≠ 0x49435058 then 2
  else if m.formatVersion ≠ 1 ∨ m.headerSize ≠ 0x100 ∨ m.sigAlg ≠ 1 ∨ (dirRegion d b).2 < m.imageSize then 3
  else 0

/-- A fuse key slot (R56): the hash programmed in it, and the revocation bit. -/
structure KeySlot where
  hash : Option Nat
  revoked : Bool
  deriving DecidableEq, Repr

/-- The full stage of R55 (checks 3 to 7): REJECT code. A copy without section 0x0001 carries no SIGN_KEY, so that its signature does not
verify (R56, log entry 108). `quad` is the directory's mode. -/
def fullReject (variantS quad : Bool) (hubStep dieStep floor : Nat) (keys : List KeySlot) (m : ImageCopy) : Nat :=
  if m.part ≠ 0x8640 ∨ (variantS && !m.validS) ∨ (!variantS && !m.validG) ∨ hubStep < m.hubStepping ∨ dieStep < m.dieStepping then 4
  else if m.generation < floor then 5
  else match (keys[m.keySlot]?).bind (fun k => if k.revoked then none else k.hash) with
    | none => 6
    | some h =>
      if m.readFails.isSome then 0xB
      else if !imgHas m 1 ∨ h ≠ imgGet m Img.KEY_HASH ∨ !m.signatureGood then 7
      else if !m.digestGood then 8
      else if !sectionsOk m then 9
      else if m.generation = 0 ∨ 0xFFFFFFFE < m.generation ∨ !limitsOk variantS quad m then 0xA
      else 0

/-! Directories (R51). -/

/-- Bytes 0x000 to 0x03B of a directory. -/
def dirBytes (d : Directory) : List Byte :=
  leBytes d.magic 4 ++ leBytes d.version 2 ++ leBytes d.flags 2 ++ leBytes d.aOffset 4 ++ leBytes d.aSize 4
  ++ leBytes d.bOffset 4 ++ leBytes d.bSize 4 ++ leBytes d.spiMode 1 ++ leBytes d.spiClk 1 ++ leBytes 0 2
  ++ leBytes d.intOffset 4 ++ leBytes d.intSize 4 ++ leBytes 0 24

/-- The read floor of a directory in MHz (R51). -/
def readFloor (d : Directory) : Nat :=
  let b := d.aSize + d.bSize
  max 20 (if d.spiMode = 0 then (b * 2 + 799999) / 800000 else (b + 1599999) / 1600000)

/-- The directory passes the checks of R51. -/
def dirOk (d : Directory) : Bool :=
  d.magic == 0x44435058 && d.version == 1 && d.crc == crc32 (dirBytes d) && decide (d.spiMode ≤ 1)
  && decide (readFloor d ≤ d.spiClk) && decide (d.spiClk ≤ if d.spiMode = 0 then 80 else 100)

/-- What the configuration read of R55 found: the active copy (`true` B), the REJECT codes and the duplicate mark. -/
structure CfgRead where
  active : Option Bool
  rejectA : Nat
  rejectB : Nat
  fallback : Bool
  dirDup : Bool
  deriving DecidableEq, Repr

/-- Select the active copy (R55). With both directories failing the read fails and no copy is examined: both REJECT codes stay 0x0 (log entry
109). -/
def selectCopy (variantS : Bool) (hubStep dieStep floor : Nat) (keys : List KeySlot) (n : Nor) : CfgRead :=
  match (if dirOk n.primary then some (n.primary, false) else if dirOk n.duplicate then some (n.duplicate, true) else none) with
  | none => ⟨none, 0, 0, false, false⟩
  | some (d, dup) =>
    let full := fun b => fullReject variantS (d.spiMode == 0) hubStep dieStep floor keys (norCopy n b)
    let ha := headerReject n d false; let hb := headerReject n d true
    let bFirst := decide (n.copyA.generation < n.copyB.generation)
    let order := (if bFirst then [true, false] else [false, true]).filter (fun b => (if b then hb else ha) == 0)
    match order with
    | [] => ⟨none, ha, hb, false, dup⟩
    | c :: rest =>
      let r := full c
      if r = 0 then
        let oh := if c then ha else hb
        ⟨some c, if c then ha else 0, if c then 0 else hb, decide (1 < oh), dup⟩
      else match rest with
        | [] => ⟨none, if c then ha else r, if c then r else hb, false, dup⟩
        | e :: _ =>
          let q := full e
          if q = 0 then ⟨some e, if c then 0 else r, if c then r else 0, true, dup⟩
          else ⟨none, if c then q else r, if c then r else q, false, dup⟩

end Sys2Proof.Machine
end

