-- ==== Sys2Proof/Machine/State.lean ====
section
/-! DEFINITION. Sys2Proof/Machine/State.lean: the state of the block as plain data, and its value after reset. -/
namespace Sys2Proof.Machine

/-- The operating states of R2 and R13. -/
inductive OpState where
  | off | dormant | waking | restoring | serving | derated | keep | saving | saved
  deriving DecidableEq, Repr

/-- No command of this block stops with a fault: what the hardware calls a fault is a change of its state (R443). -/
inductive Fault where
  deriving DecidableEq, Repr

/-- Why a command is refused. -/
inductive Refusal where
  /-- Raised by an arm of `exec` whose command has no meaning yet. Safe: nothing can be proved of it. -/
  | notModelled (mnemonic : String)
  deriving DecidableEq, Repr

/-! ### What the block sends -/

/-- Where a message leaves the block. -/
inductive Port where
  | head (h : HeadId) | link (k : Nat) | sideband | groupHead | pins | path (p : Path)
  deriving DecidableEq, Repr

/-- The messages the block sends; the argument order of each is said where it is sent. -/
inductive MsgKind where
  | memData | cmp | protocolError | mailbox | msix | pmeToAck | gpfDone | ptmReq | linkIdle
  | saveStart | fill | sfetch | sfetchData | confirm | sealReq | sealAck | leaseRenew | leaseClaim | leaseAck | leaseRefuse
  | service | fwLoad | key | copyData | copyDone | jpage | readyMap | rstrReq | rstrData | touchReq | touchData
  | hello | helloAck | credit | portReset | portResetAck | evt | cmpGuest | dataGuest | derrGuest
  | mmrd | mmwr | bar4Data | nak | creditReturn | slpPrep | slpAck | slpNak | slpGo | slpCancel | slpWake
  | groupReply | sbByte | sbAlert | hostNotify | epochPulse | wakeN | l1Refused | retrain | regData | spiReset
  deriving DecidableEq, Repr

/-- A message the block has put on a port: its kind, its fields in order, and its data bytes. -/
structure Msg where
  port : Port
  kind : MsgKind
  args : List Nat
  data : List Byte
  deriving DecidableEq, Repr

/-! ### Contents -/

/-- The content of a save frame or of a flash unit that holds one: its bytes that are not zero, and its poisoned lines (R125). -/
structure Content where
  cells : List Host.Cell
  poison : List Nat
  deriving DecidableEq, Repr

/-! ### Request pipeline (05_memory_pipeline.md) -/

/-- What a request does at Commit and below (R111, R364). -/
inductive ReqOp where
  | rd | wr | wrPtl | inv | specRd
  deriving DecidableEq, Repr

/-- A decoded request in a source queue (R112). -/
structure Req where
  op : ReqOp
  tag : Nat
  dpa : Nat
  data : List Byte
  mask : Nat
  poison : Bool
  hint : Nat
  /-- It has been held with reason 5 or 6 (its grant counts in MEM_THROTTLE_HOLDS). -/
  held : Bool
  deriving DecidableEq, Repr

/-- An entry of the in-flight table (R117): a granted request whose DRAM access is not done. -/
structure Flight where
  id : Nat
  src : Source
  tag : Nat
  line : Nat
  isRead : Bool
  deriving DecidableEq, Repr

/-- A request parked in the touch buffer (R127). -/
structure Parked where
  id : Nat
  frame : Nat
  src : Source
  req : Req
  deriving DecidableEq, Repr

/-- What internal engines read through the DRAM channels (R117, R141, R143): a Reel copy, the units of the save fetch, a page for the shadow
pool, the range of a media scan. -/
inductive FetchKind where
  | reel | save | capture | scan
  deriving DecidableEq, Repr

/-- A run of lines that an internal engine reads: `total` lines from line `first`, in order. `next` of them have been asked for, and `done` have
come back into `got`, whose lines count from `first`. A save fetch belongs to the unit `key` of save die `die`. -/
structure Fetch where
  id : Nat
  kind : FetchKind
  die : Nat
  key : Nat
  first : Nat
  total : Nat
  next : Nat
  done : Nat
  got : Content
  deriving DecidableEq, Repr

/-- The request pipeline. -/
structure Pipe where
  q0 : List Req
  q1 : List Req
  qg : List Req
  flights : List Flight
  nextId : Nat
  ctr0 : Nat
  ctr1 : Nat
  ctrG : Nat
  last : Source
  parked : List Parked
  /-- The save cut has frozen intake and Commit (R123). -/
  frozen : Bool
  /-- Hold time of each channel in ns (MEM_CH_HOLn). -/
  chHold : AMap Nat
  /-- Undecoded requests of each head not yet put in an event record, and the uptime of the last record of each head (R126). -/
  undecNew : AMap Nat
  undecAt : AMap Nat
  /-- The line reads of the internal engines, in the order in which they take free entries (R117). -/
  fetches : List Fetch
  /-- Throttle tokens of the running millisecond that have been added, and the uptime at which it began (R130). -/
  trickled : Nat
  trickleAt : Nat
  deriving DecidableEq, Repr

/-! ### DRAM channels and calibration (06_dram_and_calibration.md) -/

/-- Who waits for a read (R143). -/
inductive Reader where
  | source (s : Source) (tag : Nat) | merge | scrub | fetch (k : FetchKind) (id i : Nat)
  deriving DecidableEq, Repr

/-- A read of a channel: queued, issued and on its way back, or waiting for the merge of a partial write to its line (R122). A waiting
read keeps the bytes that the writes ahead of it put over the line. -/
structure REntry where
  id : Nat
  line : Nat
  hint : Nat
  who : Reader
  passed : Nat
  since : Nat
  overData : List Byte
  overMask : Nat
  overPoison : Bool
  deriving DecidableEq, Repr

/-- A write of a channel's write queue (R122, R145). -/
structure WEntry where
  id : Nat
  line : Nat
  data : List Byte
  mask : Nat
  poison : Bool
  hint : Nat
  own : Option Source
  merged : Bool
  deriving DecidableEq, Repr

/-- A bank of a subchannel: its open row and its 2-bit hit counter (R142). -/
structure BankRow where
  row : Option Nat
  ctr : Nat
  hint : Nat
  deriving DecidableEq, Repr

/-- A DRAM channel. -/
structure Chan where
  rq : List REntry
  issued : List REntry
  waiting : List REntry
  wq : List WEntry
  banks : AMap BankRow
  /-- The oldest write has waited WR_AGE: the batch ends when it has issued (R144). -/
  agedId : Option Nat
  /-- Write CRC failures in a row of a line (R157). -/
  wcrc : AMap Nat
  scrubLine : Nat
  /-- Lines found uncorrectable within 1 ms: line and time in ns (R156). -/
  ueTimes : List (Nat × Nat)
  /-- Corrected lines of a device within 10 minutes: times in ns, by (rank × 2 + subchannel) × 10 + device (R154). -/
  ceTimes : AMap (List Nat)
  /-- Rows that have had a correction write-back, and rows that have had a soft repair (R155). -/
  corrRows : List Nat
  softRows : List Nat
  /-- Corrected lines that wait for a write-queue entry (R152). -/
  backs : List (Nat × List Byte)
  /-- Refresh intervals postponed, by rank (R147). -/
  postponed : AMap Nat
  /-- Lane adjustments still to be applied at refresh boundaries (R160): lane key and centres. -/
  applying : List LaneMeas
  calDue : Bool
  lastRetrain : Option Nat
  deriving DecidableEq, Repr

def Chan.init : Chan := ⟨[], [], [], [], [], none, [], 0, [], [], [], [], [], [], [], false, none⟩

/-- The values of one calibrated lane (R163). -/
structure LaneVal where
  rdDly : Nat
  wrDly : Nat
  rdVref : Nat
  wrVref : Nat
  adj : Nat
  time : Nat
  rdEye : Nat
  wrEye : Nat
  deriving DecidableEq, Repr

def LaneVal.init : LaneVal := ⟨0, 0, 0, 0, 0, 0, 0, 0⟩

/-- A calibration record (R163): KIND 0 DRAM or 1 NAND, UNIT, SEQUENCE, RATE in MT/s, TEMP in °C, TIME in ns of module time, and the lanes by key. -/
structure CalRec where
  kind : Nat
  unit : Nat
  seq : Nat
  rate : Nat
  temp : Int
  time : Nat
  lanes : AMap LaneVal
  deriving DecidableEq, Repr

/-- Calibration state: lane values by key, due flash channels, channels marked by R162, lane adjustments of flash channels still to be
applied at operation gaps (R161) by channel, the results that wait for their storage (R164), and the DRAM channel whose pause was in progress
at a firmware reset (R164). -/
structure Cal where
  lanes : AMap LaneVal
  flashDue : List Nat
  flashMarked : List Nat
  applying : AMap (List LaneMeas)
  store : List CalRec
  inPause : Option Nat
  deriving DecidableEq, Repr

/-- One slot of the calibration region (R163): the records of its units, each with SEQUENCE of its last write, and whether their CRC-32 is
good. -/
structure CalSlot where
  crcGood : Bool
  recs : List CalRec
  deriving DecidableEq, Repr

/-! ### Dirty tracking, Reel cleaner, Welt journal (07_dirty_tracking_and_reel.md) -/

/-- The BASE values of R169. -/
inductive Base where
  | clean | dirty | cleaning | shadowed
  deriving DecidableEq, Repr

/-- The tracking record of a frame: its 4-bit state (R169), its touch bit and its slot (R172). -/
structure FrameRec where
  base : Base
  redirty : Bool
  epochPend : Bool
  touch : Bool
  slot : Option Nat
  deriving DecidableEq, Repr

def FrameRec.init : FrameRec := ⟨.clean, false, false, false, none⟩

/-- The dirty tracker (R172), the restored bitmap (R235) and the budget inputs of R177. -/
structure Dtk where
  frames : AMap FrameRec
  /-- Ready bits of the slots of the Last in use (R173, R262). -/
  ready : Nat
  /-- Restored bit of each frame, meaningful while `restoreActive` (R235). -/
  restored : Nat
  /-- M2 has written DTK_BUDGET_FW in this Waking (R177), at this uptime. -/
  fwAt : Option Nat
  /-- The lowest of the results that have all exceeded VALUE (R177). -/
  raiseMin : Option Nat
  deriving DecidableEq, Repr

/-- A Reel or carry copy in progress (R183, R233). -/
structure Copy where
  frame : Nat
  /-- Stripe group: die × 4 + group within the die (R185 LOC). -/
  group : Nat
  unit : Nat
  content : Option Content
  /-- JSEQ of its entry once confirmed. -/
  confirmed : Option Nat
  closed : Bool
  carry : Bool
  epoch : Nat
  deriving DecidableEq, Repr

/-- The Reel cleaner (R181-R184). -/
structure Reel where
  copies : List Copy
  cold : List Nat
  sweepPos : Nat
  nextGroup : Nat
  /-- Uptime at which a frame last returned to Clean (R447 STALL). -/
  cleanedAt : Option Nat
  /-- Bytes in the token bucket of the read cap, and the uptime to which it has been filled (R181). -/
  bucket : Nat
  bucketAt : Nat
  deriving DecidableEq, Repr

/-- The entry types of R185. -/
inductive JType where
  | copy | zero | epochSeal | baseDone
  deriving DecidableEq, Repr

/-- A Welt journal entry (R185). -/
structure JEntry where
  jseq : Nat
  frame : Nat
  type : JType
  poison : Bool
  keep : Bool
  closed : Bool
  epoch : Nat
  loc : Nat
  aux : Nat
  deriving DecidableEq, Repr

/-- A journal page being programmed (R186). -/
structure JPage where
  entries : List JEntry
  baseGen : Nat
  /-- Received by, and programmed and verified on, S0 and S1. -/
  got0 : Bool
  got1 : Bool
  done0 : Bool
  done1 : Bool
  deriving DecidableEq, Repr

/-- A frame entry of a base map (R187): CUR and ALT, each a KIND (0 zero, 1 copy), LOC, epoch and flags; `none` is KIND 0xF. `jseq` is the model's own: the JSEQ of the entry folded in, its position by R227 (log entry 27). -/
structure BaseLoc where
  kind : Nat
  loc : Nat
  epoch : Nat
  flags : Nat
  jseq : Nat
  deriving DecidableEq, Repr

structure BaseEntry where
  cur : BaseLoc
  alt : Option BaseLoc
  deriving DecidableEq, Repr

/-- A frame that no entry names reads as zero. -/
def BaseEntry.init : BaseEntry := ⟨⟨0, 0, 0, 0, 0⟩, none⟩

/-- A base map (R187). -/
structure BaseMap where
  gen : Nat
  covered : Nat
  committedEpoch : Nat
  sealedEpoch : Nat
  entries : AMap BaseEntry
  deriving DecidableEq, Repr

def BaseMap.init : BaseMap := ⟨0, 0, 0, 0, []⟩

/-- A journal page in the ring (R186): its entries, and the generation of the base map in force when it was opened. -/
structure RingPage where
  entries : List JEntry
  baseGen : Nat
  deriving DecidableEq, Repr

/-- The journal region of a save die, kept without power: its two base slots and the pages of its ring, oldest first (R186, R187). -/
structure WeltDie where
  slot0 : Option BaseMap
  slot1 : Option BaseMap
  pages : List RingPage
  deriving DecidableEq, Repr

def WeltDie.init : WeltDie := ⟨none, none, []⟩

/-- The Welt journal as the save dies hold it, and as M2 has loaded it. -/
structure WeltNv where
  die0 : WeltDie
  die1 : WeltDie
  /-- The Welt state that M2 has loaded from the dies in service (R189): the base map in force, its slot, the durable entries that can be read, and
  the JSEQ of the last entry of each page of the ring, oldest first. -/
  base : BaseMap
  slot : Nat
  entries : List JEntry
  ring : List Nat
  /-- Of each frame whose newest entry at or below the last sealed epoch a compaction has folded away: that entry (R190, log entry 129). -/
  older : AMap BaseLoc
  deriving DecidableEq, Repr

/-- The journal writer and the compaction in progress (R186, R188). -/
structure Welt where
  nextJseq : Nat
  openPage : List JEntry
  /-- Generation of the base map in force when the open page was opened (R186). -/
  openGen : Nat
  pages : List JPage
  compact : Option BaseMap
  compactJseq : Option Nat
  deriving DecidableEq, Repr

/-! ### Embedded flash and event recorder (17_embedded_flash_and_event_recorder.md) -/

/-- An event record (R436). -/
structure EvRec where
  rseq : Nat
  time : Nat
  code : Nat
  severity : Nat
  source : Nat
  state : Nat
  flags : Nat
  repeats : Nat
  data : Nat
  deriving DecidableEq, Repr

/-- An open fold window of a key (R439). -/
structure Fold where
  code : Nat
  source : Nat
  severity : Nat
  count : Nat
  folded : Nat
  first : Nat
  deriving DecidableEq, Repr

/-- The event recorder's volatile part. -/
structure Evr where
  buffer : List EvRec
  folds : List Fold
  /-- Next record sequence number, in the sticky hub domain (R66, R437). -/
  rseq : Nat
  deriving DecidableEq, Repr

/-- A program or an erase of the embedded flash: host or core port, offset, data of a program. -/
structure EflOp where
  erase : Bool
  host : Bool
  addr : Nat
  data : List Byte
  suspends : Nat
  deriving DecidableEq, Repr

/-- A bank of the embedded flash: the running operation and the suspended ones, last first (R433). -/
structure EflBank where
  running : Option EflOp
  susp : List EflOp
  deriving DecidableEq, Repr

def EflBank.init : EflBank := ⟨none, []⟩

/-- The embedded-flash controller (R427-R433). -/
structure Efl where
  bank0 : EflBank
  bank1 : EflBank
  keyStep : Bool
  hbuf : List Byte
  /-- A host-port program or erase waits for its bank. -/
  waiting : Option EflOp
  deriving DecidableEq, Repr

/-! ### Save (08_save.md) -/

/-- A slot table entry (R218) of a filled slot. -/
structure SlotEntry where
  frame : Nat
  fallback : Bool
  confirmedLost : Bool
  shadow : Bool
  deriving DecidableEq, Repr

/-- A command journal entry (R395). -/
structure JnlEntry where
  seq : Nat
  opcode : Nat
  tag : Nat
  era : Nat
  head : HeadId
  applied : Bool
  st : Nat
  status : Nat
  rc : Nat
  time : Nat
  inCrc : Nat
  out : Nat
  deriving DecidableEq, Repr

/-- Where a unit stands on flash: way, block and page, and the erase count of the block when it was programmed (R196, R220). -/
structure Place where
  way : Nat
  block : Nat
  page : Nat
  erases : Nat
  deriving DecidableEq, Repr

/-- A data unit of a save (R201, R202): its content, the frame or shadow slot it holds, the DETOUR and REWRITE bits, and its place once it has been
programmed. -/
structure UnitRec where
  content : Content
  frame : Nat
  shadow : Bool
  detour : Bool
  rewrite : Bool
  place : Option Place
  deriving DecidableEq, Repr

def UnitRec.init : UnitRec := ⟨⟨[], []⟩, 0, false, false, false, none⟩

/-- A save image in the Sole area with its seal record and slot table (R218): its data units by slot × 64 + unit, the places of its parity units and
the missing members by unit key (set, row, position; 2^40 more in the fallback region), and the detours by set. -/
structure SaveImage where
  saveId : Nat
  cause : Nat
  leaseGen : Nat
  csnCut : Nat
  jseqDurable : Nat
  openEpoch : Nat
  keyGen : Nat
  moduleTime : Nat
  slotTotal : Nat
  shadow : Nat
  duration : Nat
  singleDie : Bool
  fallback : Bool
  lostDie : Nat
  keepEntry : Bool
  thermal : Bool
  /-- The shutdown state sealed with the image is Dirty (R245). -/
  shutdownDirty : Bool
  /-- The Sole block set that holds it: false A, true B (R234). -/
  setB : Bool
  table : AMap SlotEntry
  units : AMap UnitRec
  parity : AMap Place
  missing : List Nat
  detours : AMap (Nat × Nat)
  /-- The command journal pages written with it (R396). -/
  jrnl : List JnlEntry
  /-- The sessions in force: era and open, of heads 0 and 1 (R385, log entry 26). -/
  sess0 : Nat × Bool
  sess1 : Nat × Bool
  /-- The slot table and seal record have been written (R214). -/
  recorded : Bool
  deriving DecidableEq, Repr

def SaveImage.init : SaveImage :=
  ⟨0, 0, 0, 0, 0, 0, 0, 0, 0, 0, 0, false, false, 0, false, false, false, false, [], [], [], [], [], [], (0, false), (0, false), false⟩

/-- A save die's part in a save (R201, R203, R205, R206): the fill half it received, the units it has fetched and
programmed (unit keys), the rewrites of a unit with the block of its last spare die-slot, slow-unit runs and dropped dies by way, the spare die-slots
used, and the detours in force on its sets. -/
structure DieSave where
  started : Bool
  fill : Option Nat
  requested : List Nat
  fetched : List Nat
  programmed : List Nat
  tries : AMap (Nat × Nat)
  slow : AMap Nat
  dropped : List Nat
  /-- Spare die-slots used by rewrites: (set × 16 + position) × 2^20 + block of rows. -/
  spares : List Nat
  detours : AMap (Nat × Nat)
  deriving DecidableEq, Repr

def DieSave.init : DieSave := ⟨false, none, [], [], [], [], [], [], [], []⟩

/-- The save logic of the hub (R192-R217). -/
structure Save where
  /-- Fill bitmap snapshotted at the cut (R194). -/
  snap : Nat
  confirm : Nat
  die0 : DieSave
  die1 : DieSave
  image : SaveImage
  /-- A trigger 1..7 arrived during a Keep-entry save: it ends in Saved (R193). -/
  endsInSaved : Bool
  /-- Frames named in the save-start message whose fetch runs to its end (R238). -/
  complete : List Nat
  /-- The Last in use lies in Sole set B (R234). -/
  lastB : Bool
  deriving DecidableEq, Repr

/-- A seal in the Heel NV bank (R67, R214), with the ring position of the seal record on each die (R218). -/
structure Seal where
  saveId : Nat
  leaseGen : Nat
  owner : Nat
  cause : Nat
  isProtected : Bool
  singleDie : Bool
  ring0 : Nat
  ring1 : Nat
  deriving DecidableEq, Repr

/-- The two images the flash can hold (R227). -/
structure Images where
  newest : Option SaveImage
  carried : Option SaveImage
  deriving DecidableEq, Repr

/-! ### Restore (09_restore_and_recovery.md) -/

/-- A restore map entry (R228). -/
structure RMap where
  kind : Nat
  loc : Nat
  carriedImage : Bool
  deriving DecidableEq, Repr

def RMap.init : RMap := ⟨0, 0, false⟩

/-- The restore (R229-R243). -/
structure Restore where
  /-- The last step of R229 that has completed, counted from 1 to 7; 0 when none. -/
  step : Nat
  /-- Step 0 has still to run: a Sanitize (1) or a Secure Erase (2) is pending (R231). -/
  resume : Nat
  limit : Option Nat
  target : Nat
  map : AMap RMap
  /-- Frames of which a background fetch is in flight, by die (at most 31 each). -/
  bg0 : List Nat
  bg1 : List Nat
  touch0 : Option Nat
  touch1 : Option Nat
  /-- Frames restored from an image that still await a durable carry entry or a write (R233), newest and carried image. -/
  carryN : List Nat
  carryC : List Nat
  /-- Shadow slots of the newest image still to be restored (R232). -/
  shadowLeft : List Nat
  lostPosition : Bool
  /-- The base map of a group-epoch target still to become durable (R240). -/
  epochMap : Option BaseMap
  /-- Uptime at the reference of R229. -/
  since : Nat
  /-- The shutdown state sealed with the newest image was Dirty (R245). -/
  wasDirty : Bool
  /-- The die has received the request of its touch slot (R235). -/
  touchGot0 : Bool
  touchGot1 : Bool
  /-- What steps 2 and 3 could not read (R243): frames of image positions, the first JSEQ of each journal page, all frames whose candidate
  precedes the newest or the carried image, and every base slot. -/
  lostFrames : List Nat
  lostPages : List Nat
  lostAllN : Bool
  lostAllC : Bool
  noBase : Bool
  /-- The last sealed epoch that the Welt state of step 3 shows (R295). -/
  sealedWas : Nat
  /-- TARGET and ONCE as they stood at Restoring entry (R239). -/
  want : Nat
  once : Bool
  /-- The pages of each restored frame that were lost (R242, R243): a carry copy of the frame has them lost too. -/
  lostIn : AMap (List Nat)
  deriving DecidableEq, Repr

def Restore.init : Restore := ⟨0, 0, none, 0, [], [], [], none, none, [], [], [], false, none, 0, false, false, false, [], [], false, false, false, 0, 0, false, []⟩

/-! ### NAND channels and Awl engines (10_flash_subsystem.md) -/

/-- A descriptor of an Awl engine (R255): operation, class, tag, place, buffer slots it holds, and whether the table log
page that must be programmed before it issues is still to come (R220, R254). -/
structure Desc where
  op : AwlOp
  cls : Nat
  tag : Nat
  block : Nat
  page : Nat
  pslc : Bool
  step : Nat
  count : Nat
  slots : Nat
  needLog : Bool
  /-- The frame a restore read serves (R238). -/
  frame : Option Nat
  deriving DecidableEq, Repr

/-- A die (way) of a channel: its queue, the operation in progress and the suspended one (R258), its state (0 absent,
1 in use, 2 failed), its lagging mark and the counts of R279. -/
structure Way where
  queue : List Desc
  running : Option Desc
  suspended : Option Desc
  state : Nat
  lag : Bool
  /-- The operation in progress has timed out once (R260). -/
  timedOut : Bool
  median : Nat
  lagged : Nat
  passed : Bool
  /-- Tags of failed unit programs whose data its buffer still holds for a rewrite (R255). -/
  held : List Nat
  deriving DecidableEq, Repr

def Way.init : Way := ⟨[], none, none, 0, false, false, 0, 0, false, []⟩

/-- A block table entry (R275). -/
structure BlockRec where
  erases : Nat
  pool : Nat
  pslc : Bool
  erased : Bool
  suspect : Bool
  cause : Nat
  /-- Module time of the suspect mark, in s (R274). -/
  suspectAt : Nat
  /-- It has failed an erase check and is to be erased once more (R263, R274). -/
  failedCheck : Bool
  /-- The pages programmed since its last erase, a bit each (R220). -/
  pages : Nat
  deriving DecidableEq, Repr

def BlockRec.init : BlockRec := ⟨0, 0, false, false, false, 0, 0, false, 0⟩

/-- The Sole block list of a die and a set: entries in position order, and erased spares (R261). -/
structure SoleList where
  entries : List Nat
  spares : List Nat
  deriving DecidableEq, Repr

def SoleList.init : SoleList := ⟨[], []⟩

/-- An allocated logical copy unit (R268): its frame, epoch and content, the superblock it lies in, whether its rows have
passed, whether its map record is programmed, and the JSEQ before which it was allocated (R270). -/
structure CopyUnit where
  frame : Nat
  epoch : Nat
  content : Content
  sb : Nat
  index : Nat
  programmed : Bool
  logged : Bool
  since : Nat
  /-- The place of a relocation whose map record is not yet programmed (R271): superblock and index. -/
  dest : Option (Nat × Nat)
  deriving DecidableEq, Repr

/-- A superblock of a stripe group (R265): its way, its blocks on the 16 dies, the data pages placed, the member programs that have passed (bit row × 16 + member), whether it is closed, and
whether it takes relocations (R266). -/
structure Superblock where
  group : Nat
  way : Nat
  blocks : List Nat
  pages : Nat
  rowsDone : Nat
  closed : Bool
  reloc : Bool
  deriving DecidableEq, Repr

/-- The flash of both save dies: the volatile queues, and the tables and contents that flash keeps. -/
structure Flash where
  ways : AMap Way
  bufUsed : AMap Nat
  blocks : AMap BlockRec
  sole : AMap SoleList
  units : AMap CopyUnit
  sbs : AMap Superblock
  nextSb : Nat
  /-- Superblocks being reclaimed (R271). -/
  reclaiming : List Nat
  /-- Table log entries appended and not yet programmed, by die (R254). -/
  log0 : Nat
  log1 : Nat
  /-- Failed trainings of a marked channel (R278). -/
  trainFails : AMap Nat
  /-- A checkpoint of the tables is valid (R254), by die. -/
  ckpt0 : Bool
  ckpt1 : Bool
  /-- The media key in the crypto key register of each save die, empty for none (R219). -/
  key0 : List Byte
  key1 : List Byte
  /-- The next position of the seal-area ring on the die that takes the seal records, by save die (R218, log entry 136). -/
  ring0 : Nat
  ring1 : Nat
  deriving DecidableEq, Repr

/-! ### Energy store (12_energy_store.md) -/

/-- A rested rest point kept for learning (R318): the charge of the rest voltage and of the ends of the rest interval, the
charge counter then, and the uptime then. Charges are in 10 µA·s. -/
structure RestPt where
  q : Nat
  lo : Nat
  hi : Nat
  count : Int
  at_ : Nat
  deriving DecidableEq, Repr

/-- The store estimation and the charger (R312-R327). Charges are in 10 µA·s, currents in µA. -/
structure Nrg where
  q : Int
  qLo : Int
  qHi : Int
  /-- The 40-bit charge counter and the remainder it carries (R312). -/
  count : Int
  rem : Int
  /-- The remainder of the widening of R314. -/
  wRem : Nat
  /-- The offset of the converter in use, the last current sample and store voltage (mV), and a millisecond left out. -/
  offset : Int
  prevCode : Int
  prevMv : Nat
  gap : Bool
  /-- The learned capacity C (R318). -/
  cap : Nat
  rested : Option RestPt
  /-- The last 16 resistance measurements in 0.1 mΩ, newest first (R320). -/
  rints : List Nat
  target : Nat
  iH : Nat
  /-- The charger waits for a rest point after a learn cycle (R319), and the counter at the start of the cycle. -/
  held : Bool
  learnFrom : Int
  restFrom : Option Nat
  holdWarn : Option Nat
  eolSent : Bool
  tempOut : Bool
  /-- Energy of the save in progress, in 10⁻⁹ J (R328). -/
  saveE : Nat
  lastLearn : Nat
  deriving DecidableEq, Repr

def Nrg.init : Nrg := ⟨0, 0, 0, 0, 0, 0, 0, 0, 0, false, 0, none, [], 0, 0, false, 0, none, none, false, false, 0, 0⟩

/-! ### Rail sequencing (13_power_sequencing.md) -/

/-- The configuration of a rail slot (R332, R334). -/
structure RailCfg where
  enable : Bool
  saveNeeded : Bool
  downAtSave : Bool
  upPos : Nat
  downPos : Nat
  response : Nat
  group : Nat
  retries : Nat
  uv : Nat
  ov : Nat
  fallPct : Nat
  upDelay : Nat
  inrush : Nat
  pgTimeout : Nat
  fallTimeout : Nat
  retryOff : Nat
  deriving DecidableEq, Repr

def RailCfg.init : RailCfg := ⟨false, false, false, 0, 0, 0, 0, 0, 0, 0, 0, 0, 0, 0, 0, 0⟩

/-- The boot slots (R334). -/
def RailCfg.boot : RailCfg := ⟨true, true, false, 0, 0, 3, 0, 0, 10, 10, 10, 0, 100, 50, 20, 0⟩

/-- The supervision states of R336. -/
inductive RailSt where
  | off | inrush | ramp | ready | falling | fault | held
  deriving DecidableEq, Repr

/-- A rail slot: its state, its RAIL_EN pin, and the retry of R340: waiting for RETRY_OFF, for the fall, or both. -/
structure Rail where
  st : RailSt
  en : Bool
  cause : Nat
  retriesUsed : Nat
  vs : Nat
  count : Nat
  ramp : Nat
  retrying : Bool
  offElapsed : Bool
  fallen : Bool
  /-- Aborted in the up order (R341): re-enabled once fallen. -/
  aborted : Bool
  deriving DecidableEq, Repr

def Rail.init : Rail := ⟨.off, false, 0, 0, 0, 0, 0, false, false, true, false⟩

/-- A rail-log record (R346). TYPE 0 stands for a record left unfinished. -/
structure RailRec where
  seq : Nat
  type : Nat
  cause : Nat
  slot : Option Nat
  state : Nat
  vs : Nat
  step : Nat
  time : Nat
  en : Nat
  ready : Nat
  inrush : Nat
  second : Option Nat
  delay : Nat
  response : Nat
  group : Nat
  retries : Nat
  falls : Nat
  hold : Bool
  deriving DecidableEq, Repr

/-- Why a down order runs (R342). -/
inductive DownWhy where
  | saved | waking | group (g : Nat) | atSave
  deriving DecidableEq, Repr

/-- A down order in progress: slots still to go down, in order; fall timeouts and the first slot with one. -/
structure DownOrder where
  why : DownWhy
  left : List Nat
  falls : Nat
  firstFall : Option Nat
  deriving DecidableEq, Repr

/-- The power sequencer (R332-R347). -/
structure Psq where
  cfgs : AMap RailCfg
  rails : AMap Rail
  up : List Nat
  downs : List DownOrder
  /-- A WDI edge has been missed and none seen since (R345). -/
  wdiMissed : Bool
  pinned : Option RailRec
  /-- The ring of 63 records, newest first. -/
  ring : List RailRec
  vheelLow : Bool
  /-- Slots that qualified within 1 ms of another and whose response waits until the running one has finished (R341). -/
  deferred : List Nat
  deriving DecidableEq, Repr

def Psq.init : Psq := ⟨[(0, RailCfg.boot), (1, RailCfg.boot)], [], [], [], false, none, [], false, []⟩

/-! ### Perud links and guest port (14_perud_fabric_and_guest_port.md) -/

/-- A flit that is held until it is acknowledged (R351, R353, R356): its number, whether it goes on the upper module, the message that rides it, and
its 256 bytes. -/
structure Flit where
  seq : Nat
  upper : Bool
  msg : Msg
  bytes : List Byte
  deriving DecidableEq, Repr

/-- One end of a Perud link (R352, R354, R356): sequence numbers, the flits held until acknowledged (the model gives every
message a flit of its own), replays without progress, and what the bring-up has seen. -/
structure Link where
  txSeq : Nat
  rxSeq : Nat
  unacked : List Flit
  replays : Nat
  dropping : Bool
  helloAcked : Bool
  /-- What the partner knows of sleep: 0 active, 1 acknowledged, 2 told to sleep (R375). -/
  partner : Nat
  deriving DecidableEq, Repr

def Link.init : Link := ⟨0, 0, [], 0, false, false, 0⟩

/-- A piece of a host access to BAR 4 that waits for an MMIO credit (R366). -/
structure MmioPiece where
  read : Option Nat
  offset : Nat
  be : Nat
  data : List Byte
  deriving DecidableEq, Repr

/-- An MMRD in flight: its TID, the host read it serves and the index of its piece. -/
structure Mmrd where
  tid : Nat
  read : Nat
  offset : Nat
  deriving DecidableEq, Repr

/-- A host read of BAR 4: head and tag, pieces still to come, worst status, and the data by offset. -/
structure BarRead where
  id : Nat
  head : HeadId
  tag : Nat
  left : Nat
  status : Nat
  data : AMap (List Byte)
  deriving DecidableEq, Repr

/-- The guest port (R360-R371). -/
structure Guest where
  /-- READY has completed W10. -/
  ready : Bool
  opened : Bool
  /-- The era has advanced since intake was last open. -/
  eraFresh : Bool
  resetting : Option Nat
  /-- The exchange of a port reset that waits until the next era is free (R369 step 2): started by the hub or by the guest, and its CAUSE. -/
  owes : Option (Bool × Nat)
  /-- W10 has started: GS_RESET_N has been released and GS_REFCLK runs (R378). -/
  resetN : Bool
  mreq : Nat
  mwr : Nat
  mmioCr : Nat
  evtCr : Nat
  /-- Guest TIDs outstanding, as tid + 1024 × era. -/
  tids : List Nat
  mmioQ : List MmioPiece
  mmrds : List Mmrd
  reads : List BarRead
  nextRead : Nat
  quarantine : List Nat
  evtWait : List (Nat × Nat)
  /-- Messages on their way to the guest. -/
  toGuest : List Msg
  /-- Interrupts that wait for the guest writes ahead of them (R362): vector and writes left. -/
  ints : List (Nat × Nat)
  tempAt : Option Nat
  warnAt : Option Nat
  barDiscards : Nat
  deriving DecidableEq, Repr

def Guest.init : Guest :=
  ⟨false, false, false, none, none, false, 0, 0, 0, 0, [], [], [], [], 0, [], [], [], [], none, none, 0⟩

/-- The sleep agreement of R375 and R376, and the SD credits of the save-die links (R377). -/
structure Prd where
  links : AMap Link
  sdCredits : AMap Nat
  acks : List Nat
  heldWake : Bool
  entered : Bool
  deriving DecidableEq, Repr

def Prd.init : Prd := ⟨[], [], [], false, false⟩

/-! ### Mailbox, journal, staging and firmware (15_mailbox_and_command_journal.md) -/

/-- A mailbox command in progress: it answers when its operation ends (R90, R387, R452). -/
structure OpenCmd where
  head : HeadId
  opcode : Nat
  tag : Nat
  era : Nat
  seq : Nat
  deriving DecidableEq, Repr

/-- Staging of a configuration image (R389): MBX_STAGE.STATE, owner, last REJECT code, bytes received, the header, and the
uptime of the last Stage command. -/
structure Stage where
  st : Nat
  head : HeadId
  reject : Nat
  bytes : Nat
  hdr : ImageCopy
  last : Nat
  deriving DecidableEq, Repr

def Stage.init : Stage := ⟨0, 0, 0, 0, ImageCopy.erased, 0⟩

/-- A firmware transfer in progress (R402): slot, owner, and the offset expected next. -/
structure FwXfer where
  slot : Nat
  head : HeadId
  offset : Nat
  deriving DecidableEq, Repr

/-- The sticky state of sessions, journal and staging (R385, R394-R396), and the firmware domain's part. -/
structure Mbx where
  era0 : Nat
  era1 : Nat
  open0 : Bool
  open1 : Bool
  /-- Journal entries, newest first, at most 4,096. -/
  jrnl : List JnlEntry
  nextSeq : Nat
  loaded : Bool
  lost : Bool
  stage : Stage
  /-- Doorbells of commands that wait for the firmware (R387), by head. -/
  doorbell : Nat
  running : List OpenCmd
  xfer : Option FwXfer
  /-- Slots of the running hub firmware and of the running save-die image; 0 before W4 and W9. -/
  fwSlot : Nat
  sdSlot : Nat
  rolledBack : Bool
  bootFallback : Bool
  /-- End of the provisional period, by uptime (R404). -/
  provEnd : Option Nat
  deriving DecidableEq, Repr

def Mbx.init : Mbx := ⟨0, 0, false, false, [], 1, false, false, Stage.init, 0, [], none, 0, 0, false, false, none⟩

/-- What the embedded flash holds in its regions (R424, R434), as the values that the spec names. -/
structure Eflash where
  fw1 : Option FwPackage
  fw2 : Option FwPackage
  bootSlot : Nat
  provisional : Bool
  prevSlot : Nat
  genFloor : Nat
  fwFloor : Nat
  capacity : Option Nat
  learnCount : Nat
  lastLearn : Nat
  /-- The two slots of the DRAM values and of the flash values (R163). -/
  calDram : List CalSlot
  calFlash : List CalSlot
  /-- Rows on the hard-repair list, by channel × 2^32 + row key (R155). -/
  repairs : List Nat
  /-- Marked devices of the repair region, by channel × 4 + rank × 2 + subchannel (R154). -/
  marks : AMap Nat
  dsc : Nat
  shutdownDirty : Bool
  /-- The user and the master passphrase (R87, R89), each as the digest kept of it. -/
  passphrase : Option Nat
  master : Option Nat
  lsa : List Host.Cell
  /-- The poison list: ranges of 64-byte lines (first line, number of lines), and the injected lines (R89, R125). -/
  poisonList : List (Nat × Nat)
  poisonOverflow : Bool
  injected : List Nat
  /-- A Sanitize (1) or a Secure Erase (2) is pending (R90, R231). -/
  pendingErase : Nat
  /-- Media key generation, and the media key that the wrapped key stands for (R219, log entry 135). -/
  keyGen : Nat
  mediaKey : List Byte
  /-- Event records in flash: position 0 is the oldest of the ring (R437). -/
  records : List EvRec
  alertCfg : List Nat
  /-- The array behind the host port (R427-R429): bytes that are not erased. -/
  cells : List Host.Cell
  /-- A clear of the recorder runs or has to be completed: the sectors erased so far; and the RSEQ kept when it began (R440). -/
  clearing : Option Nat
  rseqKept : Nat
  /-- What stood in the recorder when the clear began: its sectors that are not erased yet (R440). -/
  stale : List EvRec
  deriving DecidableEq, Repr

def Eflash.init : Eflash :=
  ⟨none, none, 1, false, 1, 0, 0, none, 0, 0, [], [], [], [], 0, false, none, none, [], [], false, [], 0, 0, List.replicate 32 0, [], [], [], none, 0, []⟩

/-! ### Sideband bus (16_sideband_bus.md) -/

/-- The word that the staged write bytes belong to (page × 256 + pointer of byte 0), the bytes, which of the four are staged,
and which of these the transfer in progress staged (R414). -/
structure Staged where
  word : Nat
  bytes : Nat
  mask : Nat
  mine : Nat
  deriving DecidableEq, Repr

/-- The sideband bus logic of Heel and of the hub controller. The page byte and the pointer stand in HEEL_SB_STATUS. -/
structure Sbb where
  /-- The target address in force (R410). -/
  addr : Nat
  /-- The read latch: word (page × 256 + pointer of byte 0) and value (R414). -/
  latch : Option (Nat × Nat)
  staged : Option Staged
  /-- SB_ALERT_N is low. -/
  alertLow : Bool
  /-- An alert waits for the end of COALESCE (R419). -/
  alertWait : Bool
  released : Option Nat
  /-- Host Notify (R420, R421): 0 none, 1 to be sent, 2 NACKed and to be tried again, 3 lost in arbitration and to be sent again; the NACKs so
  far; when the last notify went out. -/
  notify : Nat
  tries : Nat
  notified : Option Nat
  deriving DecidableEq, Repr

def Sbb.init : Sbb := ⟨0x5A, none, none, false, false, none, 0, 0, none⟩

/-! ### CXL port (04_cxl_port.md) -/

/-- A committed HDM decoder (R85): HPA base and size, interleave ways, granularity in bytes, target position, and the DPA at which
its range starts: the end of the decoder before it, or the window's base, plus its DPA skip (log entry 15). -/
structure Hdm where
  base : Nat
  size : Nat
  ways : Nat
  gran : Nat
  target : Nat
  dpa : Nat
  deriving DecidableEq, Repr

/-- A CXL head. The decoders, `hdmErr`, the link and the interrupt policy are its CXL reset domain (R98). -/
structure Head where
  decs : AMap Hdm
  hdmErr : Nat
  /-- Configuration requests are answered: the link is up (R79). -/
  linkUp : Bool
  perstLow : Bool
  /-- A reset has closed intake, until the link is up and a decoder is committed (R99). -/
  resetting : Bool
  /-- The link is in L2/L3 Ready: PME_TO_Ack has been sent (R102). -/
  l23 : Bool
  pmeWait : Bool
  /-- Requests that entered before a GPF phase 2 message and are still in the queue (R93). -/
  gpfWait : Option Nat
  /-- Event logs with their interrupt enabled: bit 0 informational to bit 3 fatal. -/
  policy : Nat
  /-- The policy in force at PME_Turn_Off (R103). -/
  pmePolicy : Nat
  /-- What the host has set in configuration space (R98). -/
  host : HostCfg
  /-- The CXL RAS capability: the M2S opcodes reported as protocol errors, newest first (R111). -/
  ras : List Nat
  /-- The AER log: the tags of BAR 4 reads that found no completion, newest first (R366). -/
  aer : List Nat
  deriving DecidableEq, Repr

def Head.init : Head := ⟨[], 0, false, false, false, false, false, none, 0, 0, HostCfg.init, [], []⟩

/-- A background operation (R90): its CXL opcode, the DPA range of a scan, and the head that asked for it; an erase that a Waking resumes has
none. -/
structure Bg where
  opcode : Nat
  start : Nat
  len : Nat
  head : Option HeadId
  deriving DecidableEq, Repr

/-- The CXL command state that both heads share (R89). -/
structure Cxl where
  h0 : Head
  h1 : Head
  /-- The CXL event logs, oldest record first, and the records each has lost when full. -/
  info : List EvRec
  warn : List EvRec
  fail : List EvRec
  fatal : List EvRec
  overflow : AMap Nat
  bg : Option Bg
  /-- Opcode and return code of the last background operation. -/
  lastBg : Nat × Nat
  /-- Failed Unlock attempts and failed master attempts since Waking (R87). -/
  tries : Nat
  masterTries : Nat
  /-- The head whose GPF may raise a save trigger (R94). -/
  gpf : Option HeadId
  /-- Lines the last scan found. -/
  scan : List Nat
  /-- The results and the poison records that a 64 KiB payload has left for the next request (R82): how many have gone out, and the range asked
  for. -/
  scanSent : Nat
  poisonSent : Option (Nat × Nat × Nat)
  deriving DecidableEq, Repr

def Cxl.init : Cxl := ⟨Head.init, Head.init, [], [], [], [], [], none, (0, 0), 0, 0, none, [], 0, none⟩

/-! ### Persistence groups and module time (11_persistence_groups.md) -/

/-- A group report (R293). -/
structure Report where
  kind : Nat
  reason : Nat
  inc : Nat
  lmin : Nat
  lmax : Nat
  level : Nat
  format : Nat
  epoch : Nat
  time : Nat
  deriving DecidableEq, Repr

/-- The epoch engine and the pulse receiver. Membership, S, counts and the receiver state stand in the EPG registers. -/
structure Epg where
  reports : List Report
  /-- Reports held in Keep (R295). -/
  held : List Report
  /-- The closed epoch that awaits its seal, and the module time of its close. -/
  closed : Option Nat
  closedAt : Nat
  /-- Its EPOCH_SEAL entry has been written to a journal page. -/
  sealWritten : Bool
  /-- EPOCH of the last JOIN accepted. -/
  joinEpoch : Nat
  /-- The last recovery used TARGET 0 (R288). -/
  target0 : Bool
  /-- Consecutive faults of the pulse, and the instant of the last good edge. -/
  faults : Nat
  lastGood : Option Nat
  /-- Timestamps of the last edges, newest first (R299). -/
  edges : List Nat
  /-- Shadow directory (R292): the shadow frame of each frame in the pool, and the mask of its captured pages. -/
  shadow : AMap (Nat × Nat)
  /-- Closed-epoch copies of the closed epoch that are recorded (R185 AUX of EPOCH_SEAL). -/
  closedCopies : Nat
  /-- The number of the last expected instant that was judged: it had an on-time edge, or counts as a fault once (R297). -/
  judged : Option Nat
  deriving DecidableEq, Repr

def Epg.init : Epg := ⟨[], [], none, 0, false, 0, false, 0, none, [], [], 0, none⟩

/-- Module time (R300-R302): the count in ns, the fraction carried and the slew still to apply in 10⁻¹⁸ s, the rate of a small
slew in 10⁻⁹, the consecutive offsets within 1 µs, the last 64 offsets, and the error bound. -/
structure Clk where
  time : Nat
  frac : Int
  slew : Int
  rate : Nat
  good : Nat
  offsets : List Int
  errNs : Nat
  /-- Uptime since when the bound grows by 20 ppm. -/
  errAt : Option Nat
  /-- Uptime of Dormant entry: Heel counts from `time` on. -/
  dormantAt : Option Nat
  /-- Heel time of the last newer JOIN (R287). -/
  joinAt : Option Nat
  deriving DecidableEq, Repr

def Clk.init : Clk := ⟨0, 0, 0, 0, 0, [], 0, none, none, none⟩

/-! ### Heel, Waking and the whole -/

/-- Heel, its inputs and its pins (R14, R28, R47, R62). -/
structure Heel where
  /-- The 12 V input is above its rise threshold; input wake is armed (R14). -/
  inputUp : Bool
  armed : Bool
  /-- FAULT_N is driven low (R62). BACKUP_EN (R195) is NRG_STATUS.BACKUP. -/
  faultLow : Bool
  /-- A thermal trip occurred before or during the save (R218 FLAGS.THERMAL). -/
  thermal : Bool
  /-- Highest readings of the hub, S0 and S1 in °C (R47). -/
  temps : List Int
  /-- SB_SCL and SB_SDA aside, the level of TRST_N: the TAP is held in reset while it is low. -/
  trstLow : Bool
  /-- Uptime at which the lead lease was last granted or renewed (R212). -/
  leaseAt : Nat
  deriving DecidableEq, Repr

def Heel.init : Heel := ⟨false, true, false, false, [], false, 0⟩

/-- What the state bank of the Heel NV bank holds beside the HEEL registers that mirror it (R67): the SAVE_ID counter, the next
Welt JSEQ, and the seals of the newest and the carried image. -/
structure Nv where
  saveId : Nat
  welt : Nat
  sealed : Option Seal
  carried : Option Seal
  /-- The epoch closed and not yet sealed by an entry that a save keeps: it is reported lost after the recovery (R295, log entry 28). -/
  unsealed : Option Nat
  /-- Module time at the last Dormant entry (R67, R302). -/
  dormantTime : Nat
  deriving DecidableEq, Repr

def Nv.init : Nv := ⟨0, 1, none, none, none, 0⟩

/-- A Waking in progress (R61-R64): completed steps (bit n for Wn), save dies missing at W9 (bit d), the failure of W10, a thermal
trip that holds the step, a Waking that has failed and waits for its down order, a W5 that found no valid copy (R62), and the save dies
that have received their image (bit d, W9). -/
structure Waking where
  done : Nat
  missing : Nat
  guestFailed : Bool
  thermalHold : Bool
  failed : Bool
  cfgBad : Bool
  fw : Nat
  deriving DecidableEq, Repr

def Waking.init : Waking := ⟨0, 0, false, false, false, false, 0⟩

/-- Everything but the DRAM arrays and the queue. -/
structure Ctl where
  /-- The register fields by `Fld.key`; an unlisted field is 0. -/
  rf : AMap Nat
  /-- HI halves latched by reads of LO registers, by access path and register (R456). -/
  latches : AMap Nat
  op : OpState
  prev : OpState
  /-- ns since Heel power-on (log entry 4), and the counter of free values (log entry 2). -/
  uptime : Nat
  fresh : Nat
  /-- Messages the block has sent, newest first. -/
  sent : List Msg
  /-- The active configuration copy (R55). -/
  cfg : Option ImageCopy
  nor : Nor
  fuses : List KeySlot
  ef : Eflash
  heel : Heel
  nv : Nv
  waking : Waking
  pipe : Pipe
  chans : AMap Chan
  cal : Cal
  dtk : Dtk
  reel : Reel
  welt : Welt
  weltNv : WeltNv
  save : Save
  images : Images
  restore : Restore
  flash : Flash
  nrg : Nrg
  psq : Psq
  prd : Prd
  guest : Guest
  mbx : Mbx
  sbb : Sbb
  cxl : Cxl
  epg : Epg
  clk : Clk
  evr : Evr
  efl : Efl
  deriving DecidableEq, Repr

/-- The state of the block: its control state, the bytes of DRAM by DPA (an unlisted byte reads 0, log entry 8), the poisoned
64-byte lines by line number, and the commands that wait. -/
structure State where
  ctl : Ctl
  dram : List Host.Cell
  poison : List Nat
  pending : List Instr
  deriving DecidableEq, Repr

/-- The pipeline with nothing in it. No grant has been made: the model's arbiter visits head 0 first then, a choice that R118 leaves open (log entry 116). -/
def Pipe.init : Pipe := ⟨[], [], [], [], 0, 0, 0, 0, .guest, [], false, [], [], [], [], 0, 0⟩
def Cal.init : Cal := ⟨[], [], [], [], [], none⟩
def Dtk.init : Dtk := ⟨[], 0, 0, none, none⟩
/-- The token bucket of R181 starts full (log entry 117). -/
def Reel.init : Reel := ⟨[], [], 0, 0, none, 4194304, 0⟩
def Welt.init : Welt := ⟨1, [], 0, [], none, none⟩
def WeltNv.init : WeltNv := ⟨WeltDie.init, WeltDie.init, BaseMap.init, 0, [], [], []⟩
def Save.init : Save := ⟨0, 0, DieSave.init, DieSave.init, SaveImage.init, false, [], false⟩
def Images.init : Images := ⟨none, none⟩
def Flash.init : Flash := ⟨[], [], [], [], [], [], 0, [], 0, 0, [], false, false, [], [], 0, 0⟩
def Evr.init : Evr := ⟨[], [], 0⟩
def Efl.init : Efl := ⟨EflBank.init, EflBank.init, false, [], none⟩
def Ctl.init : Ctl :=
  { rf := resetRegs, latches := [], op := .dormant, prev := .dormant, uptime := 0, fresh := 0, sent := [], cfg := none
    nor := Nor.erased, fuses := [⟨some 0, false⟩, ⟨none, false⟩, ⟨none, false⟩, ⟨none, false⟩], ef := Eflash.init
    heel := Heel.init, nv := Nv.init, waking := Waking.init, pipe := Pipe.init, chans := [], cal := Cal.init, dtk := Dtk.init
    reel := Reel.init, welt := Welt.init, weltNv := WeltNv.init, save := Save.init, images := Images.init, restore := Restore.init
    flash := Flash.init, nrg := Nrg.init, psq := Psq.init, prd := Prd.init, guest := Guest.init, mbx := Mbx.init, sbb := Sbb.init
    cxl := Cxl.init, epg := Epg.init, clk := { Clk.init with dormantAt := some 0 }, evr := Evr.init, efl := Efl.init }

/-- The block right after reset: Heel power-on has brought it to Dormant with input wake armed (R13), every register at its reset
value, empty non-volatile stores (log entries 5 and 6) and nothing in DRAM. -/
def State.reset : State := { ctl := Ctl.init, dram := [], poison := [], pending := [] }

end Sys2Proof.Machine
end

