-- ==== Sys2Proof/Machine/Ops.lean ====
section
/-! DEFINITION. Sys2Proof/Machine/Ops.lean: the operations that every family shares: register fields, free values, messages, heads and
WAKE_N, alerts, the event recorder, and the operating state. Operations act on the control state `Ctl`; a meaning lifts one to the
whole state with `onCtl`. -/
namespace Sys2Proof.Machine

/-- An operation on the control state, as an operation on the state. -/
def onCtl (f : Ctl → Ctl) (s : State) : State := { s with ctl := f s.ctl }

/-! Register fields. -/

/-- The value of a register field. -/
def getF (f : Fld) (c : Ctl) : Nat := mapGet 0 c.rf f.key

/-- Write a register field: the value is taken modulo the field's width. -/
def setF (f : Fld) (v : Nat) (c : Ctl) : Ctl := { c with rf := mapSet 0 c.rf f.key (v % 2 ^ f.width) }

/-- Count one more in a saturating field. -/
def addF (f : Fld) (c : Ctl) : Ctl := setF f (satInc f.width (getF f c)) c

/-- The registers of a range of management addresses go back to their reset values (R8), and HI reads 0 on every path until LO is read again
(R456): a latch key is its register's address × 8 + the path. -/
def resetRange (lo hi : Nat) (c : Ctl) : Ctl :=
  let inside := fun (e : Nat × Nat) => decide (lo ≤ e.1 / 64) && decide (e.1 / 64 < hi)
  { c with
    rf := (resetRegs.filter inside).foldl (fun m e => mapSet 0 m e.1 e.2) (c.rf.filter (fun e => !inside e))
    latches := c.latches.filter (fun e => !(decide (lo ≤ e.1 / 8) && decide (e.1 / 8 < hi))) }

/-! Free values (log entry 2): each draw moves the counter on. -/

def drawN (c : Ctl) : Nat × Ctl := (Config.freeValue c.fresh, { c with fresh := c.fresh + 1 })
def drawBit (c : Ctl) : Bool × Ctl := (Config.freeBit c.fresh, { c with fresh := c.fresh + 1 })
def drawBytes : Nat → Ctl → List Byte × Ctl
  | 0, c => ([], c)
  | n + 1, c =>
    let r := drawBytes n { c with fresh := c.fresh + 1 }
    (Config.freeByte c.fresh :: r.1, r.2)

/-- The block sends a message. -/
def send (m : Msg) (c : Ctl) : Ctl := { c with sent := m :: c.sent }

/-! What other operations ask. -/

/-- The code of HEEL_STATE (R74); Off has none and reads 0 nowhere. -/
def opCode : OpState → Nat
  | .off => 0 | .dormant => 1 | .waking => 2 | .restoring => 3 | .serving => 4 | .derated => 5 | .keep => 6 | .saving => 7 | .saved => 8

/-- The hub's supplies are up (R13: from Waking to Saved). -/
def hubPowered (c : Ctl) : Bool := c.op != .off && c.op != .dormant

/-- M0 to M3 run their firmware. -/
def fwRunning (c : Ctl) : Bool := getF Reg.HUB_DOMAIN_STATUS.CORE_RUN c == 15

/-- Save die `d` takes part in saves. -/
def dieInService (c : Ctl) (d : Nat) : Bool :=
  (if d = 0 then getF Reg.HUB_DOMAIN_STATUS.S0_IN_SERVICE c else getF Reg.HUB_DOMAIN_STATUS.S1_IN_SERVICE c) == 1

def setInService (d : Nat) (b : Bool) (c : Ctl) : Ctl :=
  if d = 0 then setF Reg.HUB_DOMAIN_STATUS.S0_IN_SERVICE (b2n b) c else setF Reg.HUB_DOMAIN_STATUS.S1_IN_SERVICE (b2n b) c

/-- A field of the active configuration copy; 0 with none. -/
def cfgF (c : Ctl) (f : ImgFld) : Nat := match c.cfg with | some m => imgGet m f | none => 0

/-- S_shadow: the shadow slots of the configured pool (R198). -/
def sShadow (c : Ctl) : Nat := getF Reg.MEM_CAPACITY.SHADOW_UNITS c * 128

/-- Time that Heel has counted in Dormant on the RTC, in steps of 1/32,768 s (R302); otherwise module time. -/
def heelTime (c : Ctl) : Nat :=
  match c.clk.dormantAt with
  | none => c.clk.time
  | some t => c.clk.time + (c.uptime - t) * 32768 / 1000000000 * 1000000000 / 32768

/-- Module time, ns. -/
def nowNs (c : Ctl) : Nat := heelTime c

def clkValid (c : Ctl) : Bool := getF Reg.CLK_STATUS.VALID c == 1

/-- Wake step Wn has completed in this Waking. -/
def wakeDone (c : Ctl) (n : Nat) : Bool := c.waking.done.testBit n

/-- The first wake step that has not completed. -/
def wakeStepNow (c : Ctl) : Nat := (firstFrom (fun n => !wakeDone c n) 1 12).getD 0

/-- The package of a firmware slot, and the package of the running hub firmware. -/
def fwSlotOf (c : Ctl) (n : Nat) : Option FwPackage := if n = 1 then c.ef.fw1 else if n = 2 then c.ef.fw2 else none
def runningFw (c : Ctl) : Option FwPackage := fwSlotOf c c.mbx.fwSlot

/-! Heads, MSI-X and WAKE_N (R82, R102-R104). -/

def headOf (c : Ctl) (h : HeadId) : Head := if h = 0 then c.cxl.h0 else c.cxl.h1

def updHead (h : HeadId) (f : Head → Head) (c : Ctl) : Ctl :=
  if h = 0 then { c with cxl := { c.cxl with h0 := f c.cxl.h0 } } else { c with cxl := { c.cxl with h1 := f c.cxl.h1 } }

def bothHeads : List HeadId := [0, 1]

/-- The head exists in the port configuration (R77). -/
def headPresent (c : Ctl) (h : HeadId) : Bool := h == 0 || getF Reg.MEM_PORT_CFG.TWO_HEAD c == 1

/-- Traffic on a head takes its link out of L1 (R101). -/
def leaveL1 (h : HeadId) (c : Ctl) : Ctl := setF (if h = 0 then Reg.MEM_LINK_STATUS.H0_L1 else Reg.MEM_LINK_STATUS.H1_L1) 0 c

/-- MSI-X vector `v` of a head whose link is up and whose host has enabled the vector. -/
def msix (h : HeadId) (v : Nat) (c : Ctl) : Ctl :=
  if (headOf c h).linkUp && !(headOf c h).l23 && (headOf c h).host.msix.testBit v then send ⟨.head h, .msix, [v], []⟩ (leaveL1 h c) else c

/-- A head is in held L2 (R102). -/
def heldL2 (c : Ctl) (h : HeadId) : Bool :=
  (headOf c h).l23 && (headOf c h).perstLow
  && (match c.op with | .restoring => true | .serving => true | .derated => true | .keep => true | _ => false)

def wakePendFld (h : HeadId) : Fld := if h = 0 then Reg.HEEL_CXL_WAKE.PEND0 else Reg.HEEL_CXL_WAKE.PEND1
def wakeDrivenFld (h : HeadId) : Fld := if h = 0 then Reg.HEEL_CXL_WAKE.DRIVEN0 else Reg.HEEL_CXL_WAKE.DRIVEN1
def wakeCountFld (h : HeadId) : Fld := if h = 0 then Reg.HEEL_CXL_WAKE.COUNT0 else Reg.HEEL_CXL_WAKE.COUNT1

/-- Heel evaluates WAKEn_N of a head: low while its wake-pending bit is set and it is in held L2 (R103). -/
def wakeEval (h : HeadId) (c : Ctl) : Ctl :=
  let drive := getF (wakePendFld h) c == 1 && heldL2 c h
  let was := getF (wakeDrivenFld h) c == 1
  if drive && !was then
    send ⟨.pins, .wakeN, [h.val, 0], []⟩
      (setF Reg.HEEL_CXL_WAKE.NEW 1 (addF (wakeCountFld h) (setF (wakeDrivenFld h) 1 c)))
  else if !drive && was then send ⟨.pins, .wakeN, [h.val, 1], []⟩ (setF (wakeDrivenFld h) 0 c)
  else c

/-- A wake event while the head is in L2/L3 Ready or held L2 sets its wake-pending bit (R103). -/
def wakePend (h : HeadId) (c : Ctl) : Ctl :=
  if (headOf c h).l23 then wakeEval h (setF (wakePendFld h) 1 c) else c

/-- The wake-pending bits are cleared at Saving entry and at Heel reset (R103). -/
def wakeClear (c : Ctl) : Ctl :=
  bothHeads.foldl (fun c h => wakeEval h (setF (wakePendFld h) 0 c)) c

/-- Jarica vendor alert `i`: 0 GROUP, 1 GUEST, 2 FW, 3 STAGE (R393): MSI-X vector 3 of each head that enables it, or a wake. -/
def vendorAlert (i : Nat) (c : Ctl) : Ctl :=
  let c := setF Reg.MBX_ALERT_PEND.PEND (bitSet (getF Reg.MBX_ALERT_PEND.PEND c) i) c
  bothHeads.foldl (fun c h =>
    let en := if h = 0 then getF Reg.MBX_ALERT_EN.H0 c else getF Reg.MBX_ALERT_EN.H1 c
    let c := if en.testBit i then msix h 3 c else c
    if (getF Reg.MBX_ALERT_EN.WAKE c).testBit i then wakePend h c else c) c

/-! Sideband alerts (R418-R420). -/

/-- COALESCE has passed since SB_ALERT_N was last released. -/
def sbCoalesced (c : Ctl) : Bool :=
  match c.sbb.released with
  | none => true
  | some t => decide (t + getF Reg.SBB_ALERT_CFG.COALESCE c * 1000000 ≤ c.uptime)

/-- ALERT_MODE drives SB_ALERT_N; ALERT_MODE uses Host Notify. -/
def alertPin (c : Ctl) : Bool := getF Reg.SBB_ALERT_CFG.MODE c == 1 || getF Reg.SBB_ALERT_CFG.MODE c == 3
def alertNotify (c : Ctl) : Bool := getF Reg.SBB_ALERT_CFG.MODE c == 2 || getF Reg.SBB_ALERT_CFG.MODE c == 3

/-- SB_ALERT_N goes low. -/
def sbAssert (c : Ctl) : Ctl :=
  send ⟨.sideband, .sbAlert, [0], []⟩ { c with sbb := { c.sbb with alertLow := true, alertWait := false } }

/-- SB_ALERT_N is released. -/
def sbRelease (c : Ctl) : Ctl :=
  if c.sbb.alertLow then
    send ⟨.sideband, .sbAlert, [1], []⟩ { c with sbb := { c.sbb with alertLow := false, released := some c.uptime } }
  else c

/-- A masked source has newly set its bit (R419, R420). -/
def sbRaise (c : Ctl) : Ctl :=
  let c := if alertPin c && !c.sbb.alertLow then
      (if sbCoalesced c then sbAssert c else { c with sbb := { c.sbb with alertWait := true } }) else c
  if alertNotify c && getF Reg.HEEL_SB_STATUS.HUB_SERVING c == 1 && c.sbb.notify == 0 then
    { c with sbb := { c.sbb with notify := 1, tries := 0 } } else c

/-- Alert source `i` sets its bit in SBB_ALERT_PEND (R418), while the sticky hub domain is powered. -/
def sbAlertSource (i : Nat) (c : Ctl) : Ctl :=
  if hubPowered c then
    let p := getF Reg.SBB_ALERT_PEND.PEND c
    if p.testBit i then c
    else
      let c := setF Reg.SBB_ALERT_PEND.PEND (bitSet p i) c
      if (getF Reg.SBB_ALERT_CFG.MASK c).testBit i then sbRaise c else c
  else c

/-- A write of ones clears bits of SBB_ALERT_PEND; with no masked bit left SB_ALERT_N is released (R419). -/
def sbPendClear (v : Nat) (c : Ctl) : Ctl :=
  let p := getF Reg.SBB_ALERT_PEND.PEND c
  let c := setF Reg.SBB_ALERT_PEND.PEND (p - (p &&& v)) c
  if getF Reg.SBB_ALERT_PEND.PEND c &&& getF Reg.SBB_ALERT_CFG.MASK c = 0 then
    sbRelease { c with sbb := { c.sbb with alertWait := false } }
  else c

/-- The answer on the sideband bus passes to the hub (true) or to Heel (false): latch and staged bytes are cleared; a transfer cut
off by a passage to Heel counts in ABORTS (R411). -/
def sbHandoffTo (hub cut : Bool) (c : Ctl) : Ctl :=
  let c := setF Reg.HEEL_SB_STATUS.HUB_SERVING (b2n hub) { c with sbb := { c.sbb with latch := none, staged := none } }
  if cut && !hub then addF Reg.HEEL_SB_STATUS.ABORTS c else c

/-! The event recorder (R435-R439). -/

/-- The number of the CXL event log of a severity: 0 informational, 1 warning, 2 failure, 3 fatal. -/
def logOf (c : Ctl) (n : Nat) : List EvRec :=
  match n with
  | 0 => c.cxl.info
  | 1 => c.cxl.warn
  | 2 => c.cxl.fail
  | _ => c.cxl.fatal

def setLog (n : Nat) (l : List EvRec) (c : Ctl) : Ctl :=
  match n with
  | 0 => { c with cxl := { c.cxl with info := l } }
  | 1 => { c with cxl := { c.cxl with warn := l } }
  | 2 => { c with cxl := { c.cxl with fail := l } }
  | _ => { c with cxl := { c.cxl with fatal := l } }

/-- The interrupt of a log on a head: vector 1 or 2 while the link is up (R82), a wake event in L2 (R103). -/
def logInterrupt (n : Nat) (c : Ctl) : Ctl :=
  bothHeads.foldl (fun c h =>
    let c := if (headOf c h).policy.testBit n then msix h (if n ≤ 1 then 1 else 2) c else c
    if (headOf c h).pmePolicy.testBit n then wakePend h c else c) c

/-- The copy of a record in the CXL log of its severity (R435); a log of 64 records that is full counts the loss. -/
def cxlLog (r : EvRec) (c : Ctl) : Ctl :=
  if r.severity = 0 then c
  else
    let n := min (r.severity - 1) 3
    let c := if (logOf c n).length < 64 then setLog n (logOf c n ++ [r]) c
      else { c with cxl := { c.cxl with overflow := mapUpd 0 c.cxl.overflow n (· + 1) } }
    logInterrupt n c

/-- The newest buffered record of the lowest severity below `sev`, by position. -/
def evrVictim (sev : Nat) (b : List EvRec) : Option Nat :=
  let low := b.foldl (fun m r => min m r.severity) sev
  if low < sev then (b.zipIdx.filter (fun e => e.1.severity == low)).getLast?.map (·.2) else none

/-- A record enters the volatile buffer; a full buffer drops it or displaces a lesser one (R439). -/
def evrBuffer (r : EvRec) (c : Ctl) : Ctl :=
  let b := c.evr.buffer
  if b.length < 64 then { c with evr := { c.evr with buffer := b ++ [r] } }
  else
    let c := addF Reg.EVR_LOST.BUFFER c
    match (if 3 ≤ r.severity then evrVictim r.severity b else none) with
    | some i => { c with evr := { c.evr with buffer := b.eraseIdx i ++ [r] } }
    | none => c

/-- An event becomes a record: it takes the next RSEQ, is copied into its CXL log, raises the WARN or FAIL alert and enters the
buffer (R435, R436). -/
def evrTake (code src sev flags repeats data : Nat) (c : Ctl) : Ctl :=
  let r : EvRec := { rseq := c.evr.rseq, time := nowNs c, code := code % 65536, severity := sev, source := src % 256, state := opCode c.op
                     flags := flags + b2n (decide (1 ≤ sev)) + (if clkValid c then 0 else 8), repeats := repeats, data := data % 2 ^ 64 }
  let c := { c with evr := { c.evr with rseq := (c.evr.rseq + 1) % 2 ^ 32 } }
  let c := cxlLog r c
  let c := if sev = 2 then sbAlertSource 1 c else if 3 ≤ sev then sbAlertSource 2 c else c
  evrBuffer r c

/-- The positions that can be programmed: those of the sectors erased so far while a clear runs (R440). -/
def evrLimit (c : Ctl) : Nat := match c.ef.clearing with | some k => k * 128 | none => 16384

/-- Program buffered records into the next empty positions, in order (R437, R438). -/
def evrProgram (save : Bool) : List EvRec → Ctl → Ctl
  | [], c => { c with evr := { c.evr with buffer := [] } }
  | r :: rs, c =>
    let n := c.ef.records.length
    if 16384 ≤ n then evrProgram save rs (addF Reg.EVR_LOST.FULL c)
    else if 15360 ≤ n ∧ r.severity < 3 then evrProgram save rs (addF Reg.EVR_LOST.RESERVE c)
    else if evrLimit c ≤ n then { c with evr := { c.evr with buffer := r :: rs } }
    else
      let r := if save then { r with flags := r.flags ||| 2 } else r
      evrProgram save rs { c with ef := { c.ef with records := c.ef.records ++ [r] } }

/-- A program or an erase of the embedded flash may start (R431, R434). -/
def mayProgram (c : Ctl) : Bool :=
  getF Reg.EFL_STATUS.BAND_L c == 0 && (match c.heel.temps with | t :: _ => decide (t ≤ 105) | [] => true)
  && c.op != .saving && c.op != .saved

/-- The flush engine programs the buffer while a program may start; the flush of the save trigger itself always runs (R434, R437, log entry 144).
Reaching the reserve and the end makes an event of its own (R444). -/
def evrFlush (save : Bool) (c : Ctl) : Ctl :=
  if !save && !mayProgram c then c else
  let before := c.ef.records.length
  let c := evrProgram save c.evr.buffer c
  let after := c.ef.records.length
  let c := if before < 15360 ∧ 15360 ≤ after then evrTake 0x1101 17 2 0 0 0 c else c
  if before < 16384 ∧ 16384 ≤ after then evrTake 0x1102 17 3 0 0 0 c else c

/-- A record is made, and the buffer flushed when it holds 16 records or at a Failure or Fatal record (R437). -/
def evrRecord (code src sev flags repeats data : Nat) (c : Ctl) : Ctl :=
  let c := evrTake code src sev flags repeats data c
  if 16 ≤ c.evr.buffer.length ∨ 3 ≤ sev then evrFlush false c else c

def foldOf (c : Ctl) (code src : Nat) : Option Fold := c.evr.folds.find? (fun f => f.code == code && f.source == src)

def setFold (f : Fold) (c : Ctl) : Ctl :=
  { c with evr := { c.evr with folds := f :: c.evr.folds.filter (fun x => !(x.code == f.code && x.source == f.source)) } }

/-- A device event (R435, R439): severity 0 debug, 1 informational, 2 warning, 3 failure, 4 fatal. Events below MIN_SEV are discarded;
beyond PER_CODE in its window a lesser event is folded. While the firmware does not run no record is made (log entry 16). -/
def logEvent (code src sev data : Nat) (c : Ctl) : Ctl :=
  if !fwRunning c ∨ sev < getF Reg.EVR_CFG.MIN_SEV c then c
  else if 3 ≤ sev then evrRecord code src sev 0 0 data c
  else
    match foldOf c code src with
    | none => evrRecord code src sev 0 0 data (setFold ⟨code, src, sev, 1, 0, c.evr.rseq⟩ c)
    | some f =>
      if f.count < getF Reg.EVR_CFG.PER_CODE c then evrRecord code src sev 0 0 data (setFold { f with count := f.count + 1 } c)
      else setFold { f with folded := f.folded + 1 } c

/-- The charger goes OFF; FAULT is kept through every off condition (R325). -/
def chargerOff (c : Ctl) : Ctl := if getF Reg.NRG_STATUS.CHG_STATE c = 7 then c else setF Reg.NRG_STATUS.CHG_STATE 0 c

/-- A learn cycle ends (R319): BACKUP_EN falls unless a save holds it, and the charger waits for a rest point. -/
def learnEnd (c : Ctl) : Ctl :=
  if getF Reg.NRG_STATUS.LEARNING c = 1 then
    let c := setF Reg.NRG_STATUS.LEARNING 0 c
    if c.op = .saving then c else setF Reg.NRG_STATUS.BACKUP 0 c
  else c

/-- A learn cycle that a save or a firmware reset ends (R329): its swing is discarded, and with no pair to wait for the charger is not held
(log entry 140). -/
def learnDiscard (c : Ctl) : Ctl :=
  if getF Reg.NRG_STATUS.LEARNING c = 1 then learnEnd { c with nrg := { c.nrg with rested := none, held := false } } else c

/-! The operating state (R13). -/

/-- Derated and Keep are entered and left with an event and HEEL_DEGRADE.NEW (R96, R454, R455). -/
def degradedState (o : OpState) : Bool := o == .derated || o == .keep

/-- The block passes to another operating state: HEEL_STATE, the STATE alert, and WAKE_N evaluated again. A learn cycle ends with Serving (R319). -/
def setState (o : OpState) (c : Ctl) : Ctl :=
  let was := c.op
  let c := if o = .serving then c else if o = .saving then learnDiscard c else learnEnd c
  let c := sbAlertSource 0 { c with prev := was, op := o }
  let c := bothHeads.foldl (fun c h => wakeEval h c) c
  if degradedState o ∨ degradedState was then
    logEvent 0x0B01 11 2 (opCode o + opCode was * 256 + getF Reg.HEEL_DEGRADE.DERATE c * 65536 + getF Reg.HEEL_DEGRADE.KEEP c * 2 ^ 24)
      (setF Reg.HEEL_DEGRADE.NEW 1 c)
  else c

end Sys2Proof.Machine
end

