-- ==== Sys2Proof/Machine/GroupOps.lean ====
section
/-! DEFINITION. Sys2Proof/Machine/GroupOps.lean: the operations on module time and on the epoch engine that several commands share
(11_persistence_groups.md). -/
namespace Sys2Proof.Machine

/-! Module time (R300-R302). -/

/-- Module time moves on by `ns`, with the frequency correction and the slew: 200 ppm while more than 1 µs is left, then the rest
over one second. -/
def clkElapse (ns : Nat) (c : Ctl) : Ctl :=
  let k := c.clk
  let big := decide (1000000000000 < k.slew.natAbs)
  let mv := min k.slew.natAbs (ns * (if big then 200000 else k.rate))
  let move : Int := if 0 ≤ k.slew then mv else -mv
  let rest := k.slew - move
  let total : Int := k.frac + ns * 1000000000 + ns * signedOf 20 (getF Reg.CLK_FREQ.PPB c) + move
  { c with clk := { k with time := k.time + (total / 1000000000).toNat, frac := total % 1000000000, slew := rest
                           rate := if big && !decide (1000000000000 < rest.natAbs) then 1000 else k.rate } }

/-- Correct module time by an offset in ns (R301): a forward step above 1 s, a slew otherwise. -/
def clkCorrect (off : Int) (c : Ctl) : Ctl :=
  let c := setF Reg.CLK_OFFSET.NS (fieldOf 32 (max (-2147483648) (min 2147483647 off))) c
  if 1000000000 < off then
    logEvent 0x1201 18 1 off.toNat (addF Reg.CLK_STATUS.STEPS { c with clk := { c.clk with time := c.clk.time + off.toNat, slew := 0 } })
  else { c with clk := { c.clk with slew := off * 1000000000, rate := min off.natAbs 1000 } }

/-- The frequency correction estimated from the last 64 offsets: the spec gives the bound and no formula, so within the bound it is a
free value (log entry 12). -/
def clkFreq (off : Int) (c : Ctl) : Ctl :=
  let p := drawN c
  let c := setF Reg.CLK_FREQ.PPB (fieldOf 20 ((p.1 % 1000001 : Nat) - 500000 : Int)) p.2
  { c with clk := { c.clk with offsets := (off :: c.clk.offsets).take 64 } }

/-- The error bound takes a value, from which it grows in holdover only. -/
def clkErr (ns : Nat) (c : Ctl) : Ctl := { c with clk := { c.clk with errNs := ns, errAt := none } }

/-- The error bound now, in ns. -/
def clkErrNow (c : Ctl) : Nat :=
  match c.clk.errAt with
  | none => c.clk.errNs
  | some t => c.clk.errNs + (c.uptime - t) * 20 / 1000000

def clkSource (c : Ctl) : Nat := getF Reg.CLK_STATUS.SOURCE c

/-- The time base holds over on XO_IN: the bound grows from its value now (R300, R302). -/
def clkHoldover (c : Ctl) : Ctl :=
  setF Reg.CLK_STATUS.SOURCE 4 { c with clk := { c.clk with good := 0, errNs := clkErrNow c, errAt := some c.uptime } }

/-- Dormant entry: module time passes to Heel, and the state bank takes its value (R67, R302). -/
def clkToHeel (c : Ctl) : Ctl :=
  { c with nv := { c.nv with dormantTime := nowNs c }
           clk := { c.clk with errNs := clkErrNow c, errAt := none, dormantAt := some c.uptime, slew := 0, frac := 0, offsets := [], good := 0 } }

/-- Waking: module time returns from Heel; the bound has grown by 50 ppm and 31 µs (R302). -/
def clkFromHeel (c : Ctl) : Ctl :=
  let grown := match c.clk.dormantAt with
    | none => c.clk.errNs
    | some t => c.clk.errNs + (c.uptime - t) * 50 / 1000000 + 31000
  { c with clk := { c.clk with time := heelTime c, errNs := grown, errAt := none, dormantAt := none } }

/-! Identifiers and reports. -/

/-- Section 0x000C is present: a group module. -/
def grpPresent (c : Ctl) : Bool := match c.cfg with | some m => imgHas m 12 | none => false

def epochHigh (c : Ctl) : Nat := getF Reg.HEEL_EPOCH_HIGH.VALUE c
def sealedEpoch (c : Ctl) : Nat := getF Reg.EPG_SEALED.VALUE c
def committedEpoch (c : Ctl) : Nat := getF Reg.HEEL_COMMITTED.VALUE c
/-- The number under which the open epoch is recorded (R284); 0 on a module without section 0x000C. -/
def openEpoch (c : Ctl) : Nat := if grpPresent c then epochHigh c + 1 else 0
def member (c : Ctl) : Nat := getF Reg.EPG_STATE.MEMBER c
def unresolved (c : Ctl) : Bool := getF Reg.EPG_STATE.UNRESOLVED c == 1

/-- Some frame has EPOCH_PEND. -/
def framesPending (c : Ctl) : Bool := c.dtk.frames.any (fun e => e.2.epochPend)

/-- The report queue takes a report and the alerts are raised; a full queue drops it (R293). -/
def queueReport (r : Report) (c : Ctl) : Ctl :=
  if c.epg.reports.length < 64 then
    sbAlertSource 3 (vendorAlert 0 { c with epg := { c.epg with reports := c.epg.reports ++ [r] } })
  else addF Reg.EPG_COUNTS.DROPPED c

/-- A report made now. -/
def mkReport (kind reason epoch : Nat) (c : Ctl) : Report :=
  let lv := match runningFw c with | some p => (p.grpMin, p.grpMax) | none => (0, 0)
  ⟨kind, reason, getF Reg.HEEL_GRP.INCARNATION c, lv.1, lv.2, getF Reg.HEEL_GRP.LEVEL c, getF Reg.HEEL_GRP.FORMAT c, epoch, nowNs c⟩

def report (kind reason epoch : Nat) (c : Ctl) : Ctl := queueReport (mkReport kind reason epoch c) c

/-- The first condition of R289 that a close at `n` fails: of several the one with the lowest reason (log entry 139). -/
def closeReason (n : Nat) (c : Ctl) : Option Nat :=
  if member c ≠ 2 then some 1
  else if c.op ≠ .serving ∧ c.op ≠ .derated then some 2
  else if c.epg.closed.isSome ∨ framesPending c then some 3
  else if unresolved c then some 4
  else if sShadow c < getF Reg.DTK_DIRTY.D c then some 5
  else if n ≤ epochHigh c then some 6
  else none

/-- A close is missed (R289, R293). A CLOSE refused by checks 1 to 4 and a pulse fault count as missed closes too; the former with reason 0
(log entry 139). -/
def closeMissed (reason n : Nat) (c : Ctl) : Ctl :=
  report 2 reason n (setF Reg.EPG_STATE.LAST_MISS reason (addF Reg.EPG_COUNTS.MISSED c))

/-- The closed epoch is sealed: its EPOCH_SEAL entry is durable (R293). In Keep the report is held (R295). -/
def epochSealed (c : Ctl) : Ctl :=
  match c.epg.closed with
  | none => c
  | some n =>
    let c := setF Reg.EPG_SEAL_MS.MS ((nowNs c - c.epg.closedAt) / 1000000) (setF Reg.EPG_SEALED.VALUE n c)
    let c := setF Reg.EPG_STATE.UNRESOLVED 1 (setF Reg.EPG_STATE.ABORTED 0 c)
    let c := { c with epg := { c.epg with closed := none, sealWritten := false, shadow := [] } }
    if c.op = .keep then { c with epg := { c.epg with held := c.epg.held ++ [mkReport 1 0 n c] } }
    else report 1 0 n { c with nv := { c.nv with unsealed := none } }

/-- Keep is left with the protected image released: held reports go out (R295). -/
def releaseReports (c : Ctl) : Ctl :=
  c.epg.held.foldl (fun c r => queueReport r c) { c with epg := { c.epg with held := [] }, nv := { c.nv with unsealed := if c.epg.held.isEmpty then c.nv.unsealed else none } }

end Sys2Proof.Machine
end

