-- ==== Sys2Proof/Machine/Flit.lean ====
section
/-! DEFINITION. Sys2Proof/Machine/Flit.lean: the 256 bytes of a Perud flit: header, slots and CRC-64, and the slots of each message
(14_perud_fabric_and_guest_port.md R353-R355, R357-R359, R377). -/
namespace Sys2Proof.Machine

/-- One bit of the CRC-64 of R355: polynomial 0x42F0_E1EB_A9EA_3693, most significant bit first. -/
def crc64Bit (s : Nat) : Nat := if s.testBit 63 then (s * 2 % 2 ^ 64) ^^^ 0x42F0E1EBA9EA3693 else s * 2

def crc64Byte (s : Nat) (b : Byte) : Nat :=
  crc64Bit (crc64Bit (crc64Bit (crc64Bit (crc64Bit (crc64Bit (crc64Bit (crc64Bit (s ^^^ (b.toNat * 2 ^ 56)))))))))

/-- The CRC-64 of R355: initial value 0, no reflection, no final XOR. -/
def crc64 (bs : List Byte) : Nat := bs.foldl crc64Byte 0

/-- A word with a value at each bit position given. -/
def bitWord (fields : List (Nat × Nat)) : Nat := (fields.map (fun e => e.2 * 2 ^ e.1)).sum

/-- The opcode of a message (R357, R377); 0 for what is no message of a slot. -/
def msgOpcode : MsgKind → Nat
  | .hello => 0x01 | .helloAck => 0x02 | .credit => 0x03 | .portReset => 0x05 | .portResetAck => 0x06
  | .slpPrep => 0x08 | .slpAck => 0x09 | .slpNak => 0x0A | .slpGo => 0x0B | .slpCancel => 0x0C | .slpWake => 0x0D
  | .cmpGuest => 0x18 | .dataGuest => 0x19 | .derrGuest => 0x1A | .mmrd => 0x20 | .mmwr => 0x21 | .evt => 0x30
  | .fwLoad => 0x40 | .key => 0x41 | .saveStart => 0x44 | .fill => 0x45 | .sfetch => 0x46 | .sfetchData => 0x47 | .confirm => 0x48
  | .leaseRenew => 0x4C | .leaseClaim => 0x4D | .leaseAck => 0x4E | .leaseRefuse => 0x4F | .sealReq => 0x50 | .sealAck => 0x51
  | .copyData => 0x54 | .copyDone => 0x55 | .jpage => 0x56 | .readyMap => 0x58
  | .rstrReq => 0x5C | .rstrData => 0x5D | .touchReq => 0x5E | .touchData => 0x5F | .service => 0x60
  | _ => 0

/-- The bits [127:8] of the header slot of a message whose layout R358, R359 or R377 gives, from its fields in order. -/
def msgHeader (m : Msg) : Option Nat :=
  let a := fun i => m.args.getD i 0
  match m.kind with
  | .hello => some (bitWord [(20, a 0), (28, a 1), (32, a 2)])
  | .helloAck => some (bitWord [(20, a 0), (28, a 1), (32, a 2)])
  | .credit => some (bitWord [(20, a 0), (24, a 1)])
  | .portReset => some (bitWord [(20, a 0)])
  | .portResetAck => some (bitWord [(20, a 0)])
  | .slpPrep => some (bitWord [(20, a 0)])
  | .slpGo => some (bitWord [(20, a 0)])
  | .slpCancel => some (bitWord [(20, a 0)])
  | .cmpGuest => some (bitWord [(8, a 0), (18, a 1), (20, a 2), (25, a 4)])
  | .dataGuest => some (bitWord [(8, a 0), (18, a 1), (20, a 2), (24, a 3), (25, a 4)])
  | .derrGuest => some (bitWord [(8, a 0), (18, a 1), (20, a 2), (25, a 4)])
  | .mmrd => some (bitWord [(8, a 0), (18, a 1), (24, a 3), (32, a 2)])
  | .mmwr => some (bitWord [(8, a 0), (18, a 1), (24, a 3), (32, a 2), (64, leNat m.data)])
  | .evt => some (bitWord [(8, a 0), (18, a 1), (20, a 2), (24, a 3)])
  | .key => some (bitWord [(20, a 0)])
  | _ => none

/-- The bytes that follow the header slot (R358, R377). -/
def msgBody (m : Msg) : List Byte :=
  match m.kind with
  | .dataGuest => m.data
  | .key => m.data
  | _ => []

/-- The slots of a message. Of the other save-die messages the spec gives the opcode only: what follows it is a free value (log entry 141). An idle
flit has none. -/
def msgSlots (m : Msg) : List Byte :=
  match msgHeader m with
  | some h => leBytes (msgOpcode m.kind + h) 16 ++ msgBody m
  | none => if msgOpcode m.kind = 0 then [] else leBytes (msgOpcode m.kind) 3 ++ Config.sdFields (msgOpcode m.kind) m.args m.data

/-- The flit header of R354: FSEQ, ACKSEQ, NAK and one class of returned credits. -/
def flitHeader (fseq ackSeq nak cls count : Nat) : Nat := bitWord [(0, fseq), (12, ackSeq), (24, nak), (28, cls), (32, count)]

/-- A flit: header, 15 slots and CRC (R353). -/
def flitBytes (header : Nat) (slots : List Byte) : List Byte :=
  let body := leBytes header 8 ++ (slots ++ List.replicate 240 0).take 240
  body ++ leBytes (crc64 body) 8

/-- The CRC of 256 bytes received is good (R355). -/
def flitGood (b : List Byte) : Bool := b.length == 256 && leNat (b.drop 248) == crc64 (b.take 248)

end Sys2Proof.Machine
end

