-- ==== Sys2Proof/Machine/RailOps.lean ====
section
/-! DEFINITION. Sys2Proof/Machine/RailOps.lean: the operations on the rail slots that several commands share (13_power_sequencing.md):
the rail log, enabling a slot, down orders, and the windows of the PSQ slot registers. -/
namespace Sys2Proof.Machine

def railOf (c : Ctl) (n : Nat) : Rail := mapGet Rail.init c.psq.rails n
def railCfg (c : Ctl) (n : Nat) : RailCfg := mapGet RailCfg.init c.psq.cfgs n

def updRail (n : Nat) (f : Rail → Rail) (c : Ctl) : Ctl :=
  { c with psq := { c.psq with rails := mapUpd Rail.init c.psq.rails n f } }

/-- The 16 slots. -/
def allSlots : List Nat := [0, 1, 2, 3, 4, 5, 6, 7, 8, 9, 10, 11, 12, 13, 14, 15]

/-- A bitmap of the slots for which a test holds. -/
def slotMap (p : Nat → Bool) : Nat := allSlots.foldl (fun m n => if p n then bitSet m n else m) 0

def slotUp (c : Ctl) (n : Nat) : Bool := (railOf c n).st != .off
def slotRising (c : Ctl) (n : Nat) : Bool := (railOf c n).st == .inrush || (railOf c n).st == .ramp

/-- VS lies below, or above, the window of a slot (R335). -/
def vsBelow (k : RailCfg) (vs : Nat) : Bool := decide (vs < 1000 - 5 * k.uv)
def vsAbove (k : RailCfg) (vs : Nat) : Bool := decide (1000 + 5 * k.ov < vs)

/-- The reading of VS shows the condition of a cause (R335): 2 under-voltage, 3 short, 5 over-voltage; the others do not rest on VS. -/
def vsShows (k : RailCfg) (cause vs : Nat) : Bool :=
  match cause with
  | 2 => vsBelow k vs
  | 3 => decide (vs < 500)
  | 5 => vsAbove k vs
  | _ => true

/-! Rail log (R346). -/

/-- The sequence number after that of the newest record: 0xFFFF is followed by 1. -/
def nextSeq (c : Ctl) : Nat :=
  match c.psq.ring with
  | [] => (match c.psq.pinned with | none => 1 | some r => if r.seq = 0xFFFF then 1 else r.seq + 1)
  | r :: _ => if r.seq = 0xFFFF then 1 else r.seq + 1

/-- Write a record: into the ring, and into position 0 when it is the first TYPE 1 or 2 record while that was empty. No record
is written while VHEEL is lost (R347). -/
def railLogPut (r : RailRec) (c : Ctl) : Ctl :=
  if c.psq.vheelLow then c else
    let pin := match c.psq.pinned with
      | some p => some p
      | none => if r.type = 1 ∨ r.type = 2 then some r else none
    let c := { c with psq := { c.psq with ring := (r :: c.psq.ring).take 63, pinned := pin } }
    if r.type = 1 ∨ r.type = 2 then sbAlertSource 5 (setF Reg.HEEL_RLOG_STATUS.NEW 1 c) else c

/-- The record that the state of the machine fills in at qualification (R346). -/
def railRec (type cause : Nat) (slot : Option Nat) (c : Ctl) : RailRec :=
  { seq := nextSeq c, type := type, cause := cause, slot := slot, state := opCode c.op
    vs := match slot with | some n => (railOf c n).vs | none => 0
    step := if c.op = .waking then wakeStepNow c else 0
    time := nowNs c, en := slotMap (fun n => (railOf c n).en), ready := slotMap (fun n => (railOf c n).st == .ready)
    inrush := slotMap (slotRising c), second := none, delay := 0
    response := match slot with | some n => (railCfg c n).response | none => 0
    group := match slot with | some n => (railCfg c n).group | none => 0
    retries := match slot with | some n => (railOf c n).retriesUsed | none => 0
    falls := 0, hold := false }

def railLog (type cause : Nat) (slot : Option Nat) (c : Ctl) : Ctl := railLogPut (railRec type cause slot c) c

/-! Up and down. -/

/-- Enable a slot: RAIL_EN high, INRUSH (R336). -/
def railEnable (n : Nat) (c : Ctl) : Ctl :=
  updRail n (fun r => { r with st := .inrush, en := true, retrying := false, offElapsed := false, fallen := false, aborted := false }) c

/-- Take a slot down: RAIL_EN low, FALLING (R336). -/
def railFall (n : Nat) (c : Ctl) : Ctl :=
  updRail n (fun r => { r with st := .falling, en := false, retrying := false, aborted := false }) c

/-- Insert a slot by its position in an order. -/
def insertBy (key : Nat → Nat) (x : Nat) : List Nat → List Nat
  | [] => [x]
  | y :: ys => if key x < key y then x :: y :: ys else y :: insertBy key x ys

def sortBy (key : Nat → Nat) (xs : List Nat) : List Nat := xs.foldr (insertBy key) []

/-- The up order: the enabled slots 2 to 15 by UP_POS (R338). -/
def upOrder (c : Ctl) : List Nat :=
  sortBy (fun n => (railCfg c n).upPos) ([2, 3, 4, 5, 6, 7, 8, 9, 10, 11, 12, 13, 14, 15].filter (fun n => (railCfg c n).enable))

/-- The down order of a set of slots: 2 to 15 by DOWN_POS, then slot 1, then slot 0 (R342). -/
def downSort (c : Ctl) (slots : List Nat) : List Nat :=
  sortBy (fun n => (railCfg c n).downPos) (slots.filter (fun n => decide (2 ≤ n))) ++ (if slots.contains 1 then [1] else [])
    ++ (if slots.contains 0 then [0] else [])

/-- Take the first slot of an order that is still up to FALLING; slots already off are passed over. -/
def downHead (c : Ctl) : List Nat → List Nat × Ctl
  | [] => ([], c)
  | n :: rest =>
    if slotUp c n then (n :: rest, if (railOf c n).st = .falling then c else railFall n c)
    else downHead c rest

/-- A down order that has ended: a GROUP response writes its TYPE 3 record (R342), and the up order may go on. -/
def downEnded (o : DownOrder) (c : Ctl) : Ctl :=
  match o.why with
  | .group _ =>
    setF Reg.PSQ_STATUS.ORDER_HELD 0 (railLogPut { railRec 3 (if o.falls = 0 then 0 else 6) o.firstFall c with falls := o.falls } c)
  | _ => c

/-- Start a down order (R342, R343). -/
def startDown (why : DownWhy) (slots : List Nat) (c : Ctl) : Ctl :=
  let p := downHead c (downSort c (slots.filter (slotUp c)))
  let o : DownOrder := ⟨why, p.1, 0, none⟩
  if p.1 = [] ∧ (match why with | .group _ => true | .atSave => true | _ => false) = true then downEnded o p.2
  else { p.2 with psq := { p.2.psq with downs := o :: p.2.psq.downs, up := if why = .waking then [] else p.2.psq.up, deferred := (match why with | .group _ => p.2.psq.deferred | .atSave => p.2.psq.deferred | _ => []) } }

/-- The down orders after slot `n` has reached OFF, by its fall or by its timeout. -/
def downStep (n : Nat) (timeout : Bool) : List DownOrder → Ctl → List DownOrder × Ctl
  | [], c => ([], c)
  | o :: os, c =>
    let rest := downStep n timeout os c
    let c := rest.2
    if o.left.head? = some n then
      let o := if timeout then { o with falls := o.falls + 1, firstFall := o.firstFall.or (some n) } else o
      let p := downHead c (o.left.drop 1)
      let o := { o with left := p.1 }
      match o.why with
      | .group _ => if o.left = [] then (rest.1, downEnded o p.2) else (o :: rest.1, p.2)
      | .atSave => if o.left = [] then (rest.1, p.2) else (o :: rest.1, p.2)
      | _ => (o :: rest.1, p.2)
    else (o :: rest.1, c)

/-- A falling slot reaches OFF (R336). -/
def slotOff (n : Nat) (timeout : Bool) (c : Ctl) : Ctl :=
  let c := updRail n (fun r => { r with st := .off, en := false, fallen := true }) c
  let p := downStep n timeout c.psq.downs c
  { p.2 with psq := { p.2.psq with downs := p.1 } }

/-- The down order of the whole module, when it has ended: no slot is left in it. -/
def wholeDown (c : Ctl) : Option DownOrder :=
  c.psq.downs.find? (fun o => o.why == .saved || o.why == .waking)

/-- The slots of a fault-response group. -/
def groupSlots (c : Ctl) (g : Nat) : List Nat := allSlots.filter (fun n => (railCfg c n).enable && (railCfg c n).group == g)

/-- PSQ_STATUS.PHASE. -/
def psqPhase (c : Ctl) : Nat :=
  if (wholeDown c).isSome then 4
  else if getF Reg.PSQ_STATUS.ORDER_HELD c = 1 ∨ c.psq.downs ≠ [] then 5
  else match c.op with
    | .off => 0
    | .dormant => 0
    | .waking => if wakeDone c 6 then 3 else if wakeDone c 5 then 2 else 1
    | _ => 3

/-- The slot configuration that section 0x0002 gives (R332). -/
def railCfgOf (m : ImageCopy) (n : Nat) : RailCfg :=
  let g := fun (f : Nat → ImgFld) => imgGet m (f n)
  ⟨g Img.RAIL_ENABLE == 1, g Img.RAIL_SAVE_NEEDED == 1, g Img.RAIL_DOWN_AT_SAVE == 1, g Img.RAIL_UP_POS, g Img.RAIL_DOWN_POS,
   g Img.RAIL_RESPONSE, g Img.RAIL_GROUP, g Img.RAIL_RETRIES, g Img.RAIL_UV, g Img.RAIL_OV, g Img.RAIL_FALL_PCT,
   g Img.RAIL_UP_DELAY, g Img.RAIL_INRUSH, g Img.RAIL_PG_TIMEOUT, g Img.RAIL_FALL_TIMEOUT, g Img.RAIL_RETRY_OFF⟩

/-- M0 writes the slot registers from section 0x0002 (R348). -/
def loadRails (m : ImageCopy) (c : Ctl) : Ctl :=
  { c with psq := { c.psq with cfgs := railSlots.foldl (fun t n => mapSet RailCfg.init t n (railCfgOf m n)) c.psq.cfgs } }

/-! The watchdog input (R345). -/

/-- Monitoring ends at save start and at Dormant entry. -/
def wdiStop (c : Ctl) : Ctl :=
  setF Reg.PSQ_WDI_STATUS.STATE 0 { c with psq := { c.psq with wdiMissed := false } }

/-- Monitoring starts when W6 completes; it is limited from the start after three restarts in a row. -/
def wdiStart (c : Ctl) : Ctl :=
  let c := setF Reg.PSQ_WDI_STATUS.MAX_GAP 0 c
  if getF Reg.PSQ_WDI_CFG.TIMEOUT c = 0 then wdiStop c
  else
    let limited := getF Reg.PSQ_WDI_CFG.RESPONSE c == 2 && decide (3 ≤ getF Reg.PSQ_WDI_STATUS.RESTARTS c)
    setF Reg.PSQ_WDI_STATUS.STATE (if limited then 3 else 1) { c with psq := { c.psq with wdiMissed := false } }

end Sys2Proof.Machine
end

