-- ==== Sys2Proof/Machine/PerudOps.lean ====
section
/-! DEFINITION. Sys2Proof/Machine/PerudOps.lean: the operations on the Perud links and the guest port that several commands share
(14_perud_fabric_and_guest_port.md). Link 0 joins S0, link 1 S1 and link 2 the guest. -/
namespace Sys2Proof.Machine

def linkOf (c : Ctl) (k : Nat) : Link := mapGet Link.init c.prd.links k
def linkSt (c : Ctl) (k : Nat) : Nat := getF (Reg.PRD_LK_STATUS.STATE k) c
def setLinkSt (k n : Nat) (c : Ctl) : Ctl := setF (Reg.PRD_LK_STATUS.STATE k) n c

def updLink (k : Nat) (f : Link → Link) (c : Ctl) : Ctl :=
  { c with prd := { c.prd with links := mapUpd Link.init c.prd.links k f } }

def updGuest (f : Guest → Guest) (c : Ctl) : Ctl := { c with guest := f c.guest }

def gstPort (c : Ctl) : Nat := getF Reg.GST_STATUS.PORT c
def gstEra (c : Ctl) : Nat := getF Reg.GST_STATUS.ERA c

/-- The device has a guest port that section 0x000D configures. -/
def guestPresent (c : Ctl) : Bool :=
  getF Reg.HUB_ID.VARIANT c == 2 && (match c.cfg with | some m => imgHas m 13 | none => false)

/-- Messages that travel to the guest and that the guest takes with a command of its own. -/
def guestTakes (k : MsgKind) : Bool :=
  match k with
  | .cmpGuest => true | .dataGuest => true | .derrGuest => true | .evt => true | .mmrd => true | .mmwr => true
  | _ => false

/-- Flits with odd numbers go on the upper module, or all on the one that is left (R351). -/
def flitUpper (c : Ctl) (k seq : Nat) : Bool :=
  getF (Reg.PRD_LK_STATUS.M1_UP k) c == 1 && (getF (Reg.PRD_LK_STATUS.M0_UP k) c == 0 || seq % 2 == 1)

/-- The flit in which a message leaves: the header acknowledges the last flit received in order; an idle flit carries a NAK or a credit return
instead of a message (R353-R355). -/
def flitOf (c : Ctl) (k : Nat) (m : Msg) : Flit :=
  let l := linkOf c k
  let cr := if m.kind = .creditReturn then (m.args.getD 0 0, m.args.getD 1 0) else (0, 0)
  ⟨l.txSeq, flitUpper c k l.txSeq, m,
    flitBytes (flitHeader l.txSeq ((l.rxSeq + 4095) % 4096) (b2n (m.kind == .nak)) cr.1 cr.2) (msgSlots m)⟩

/-- Put a message on link `k`: it rides a flit of its own, which is held until it is acknowledged (R354, R356). -/
def sendLink (k : Nat) (kind : MsgKind) (args : List Nat) (data : List Byte) (c : Ctl) : Ctl :=
  let m : Msg := ⟨.link k, kind, args, data⟩
  let f := flitOf c k m
  let c := updLink k (fun l => { l with txSeq := (l.txSeq + 1) % 4096, unacked := l.unacked ++ [f] }) (send m c)
  if k = 2 ∧ guestTakes kind then updGuest (fun g => { g with toGuest := g.toGuest ++ [m] }) c else c

/-- The link carries messages: ACTIVE or asleep. -/
def linkLive (c : Ctl) (k : Nat) : Bool := linkSt c k == 4 || linkSt c k == 5

/-- Send the EVT messages that have a credit (R360). -/
def pumpEvt : Nat → Ctl → Ctl
  | 0, c => c
  | n + 1, c =>
    match c.guest.evtWait with
    | [] => c
    | e :: rest =>
      if c.guest.evtCr = 0 ∨ !linkLive c 2 then c
      else pumpEvt n (sendLink 2 .evt [0, gstEra c, e.1, e.2] []
        (updGuest (fun g => { g with evtWait := rest, evtCr := g.evtCr - 1 }) c))

/-- Send EVT: KIND 1 STATE, 2 ERA, 3 CONTAIN, 4 THROTTLE (R359, R365). -/
def sendEvt (kind value : Nat) (c : Ctl) : Ctl :=
  if c.guest.ready ∧ linkLive c 2 then
    let c := updGuest (fun g => { g with evtWait := g.evtWait ++ [(kind, value)] }) c
    pumpEvt (c.guest.evtWait.length) c
  else c

/-- The era advances by 1 modulo 4, with EVT ERA (R369). -/
def advanceEra (c : Ctl) : Ctl :=
  let e := (gstEra c + 1) % 4
  sendEvt 2 e (setF Reg.GST_STATUS.ERA e (setF (Reg.PRD_LK_STATUS.ERA 2) e
    (updGuest (fun g => { g with eraFresh := true, tids := g.tids.filter (fun t => t / 1024 != e) }) c)))

/-- The conditions of R365 under which guest intake is open. -/
def guestMayOpen (c : Ctl) : Bool :=
  (match c.op with
    | .restoring => getF Reg.SAV_RST_STATUS.EARLY_OPEN c == 1
    | .serving => true | .derated => true | .keep => true
    | _ => false)
  && c.guest.ready && linkLive c 2 && getF Reg.MEM_ACCESS_STATUS.LOCKED c == 0 && gstPort c == 2 && c.guest.resetting == none

/-- Open guest intake when R365 allows it: a new era after any closing, and MREQ and MWR credits (R361). -/
def guestTryOpen (c : Ctl) : Ctl :=
  if guestMayOpen c then
    let c := if c.guest.opened && !c.guest.eraFresh then advanceEra c else c
    let c := updGuest (fun g => { g with opened := true, eraFresh := false, mreq := 256, mwr := 192, tids := [] }) c
    sendLink 2 .credit [2, 192] [] (sendLink 2 .credit [1, 256] []
      (setF Reg.GST_STATUS.PORT 3 (setF Reg.HUB_DOMAIN_STATUS.GUEST_OPEN 1 c)))
  else c

/-- A host read of BAR 4 completes: status 0 OK, 1 UR, 2 CA (R366). -/
def barDone (r : BarRead) (status : Nat) (c : Ctl) : Ctl :=
  send ⟨.head r.head, .bar4Data, [r.tag, status], if status = 0 then (r.data.map (·.2)).flatten else []⟩
    (updGuest (fun g => { g with reads := g.reads.filter (fun x => x.id != r.id), mmrds := g.mmrds.filter (fun x => x.read != r.id), mmioQ := g.mmioQ.filter (fun x => x.read != some r.id) }) c)

/-- Guest intake closes (step 1 of R369): requests not past Commit are discarded unanswered, BAR 4 reads end with Completer Abort. -/
def guestCloseIntake (c : Ctl) : Ctl :=
  let c := c.guest.reads.foldl (fun c r => barDone r 2 c) c
  setF Reg.HUB_DOMAIN_STATUS.GUEST_OPEN 0
    { c with pipe := { c.pipe with qg := [] }
             guest := { c.guest with mreq := 0, mwr := 0, ints := [], mmioQ := [] } }

/-- The guest port is closed with its rails down, until the next Waking (R339, R373). -/
def guestClose (c : Ctl) : Ctl :=
  let c := guestCloseIntake c
  setLinkSt 2 0 (setF Reg.GST_STATUS.PORT 5 (updGuest (fun g => { g with ready := false, resetN := false, resetting := none, owes := none, toGuest := [] }) c))

/-- W10 fails (R64): the port stays closed, the guest links are parked, the guest rails go down, and an event is recorded. -/
def w10Fail (c : Ctl) : Ctl :=
  let c := logEvent 0x0D01 13 3 0 (startDown (.group 3) (groupSlots c 3) c)
  setLinkSt 2 0 (setF Reg.GST_STATUS.PORT 0 { c with guest := { c.guest with resetN := false }, waking := { c.waking with guestFailed := true } })

/-- Containment (R370, R371). Causes 4 to 6 take the guest slots down as a GROUP 3 response, also when the port is already contained. -/
def contain (cause : Nat) (c : Ctl) : Ctl :=
  if gstPort c = 5 ∨ gstPort c = 0 ∨ (gstPort c = 4 ∧ cause < 4) then c else
    let c := setF Reg.GST_STATUS.CONTAIN_CAUSE cause (addF Reg.GST_COUNTS.CONTAINS (sendEvt 3 cause c))
    let c := setF Reg.GST_STATUS.PORT 4 (guestCloseIntake c)
    let c := logEvent 0x0D01 13 3 (cause * 256) c
    if 4 ≤ cause then guestClose (startDown (.group 3) (groupSlots c 3) c) else c

/-- A protocol error on link `k`: counted, and contained on the guest link (R370). -/
def protoError (k : Nat) (c : Ctl) : Ctl :=
  let c := addF (Reg.PRD_LK_TRAIN.PROTO k) c
  if k = 2 then contain 2 c else c

/-- The hub sends HELLO with the era in force (R359). -/
def sendHello (k : Nat) (c : Ctl) : Ctl := sendLink k .hello [1, 0, if k = 2 then gstEra c else 0] [] c

/-- The hub still holds a guest request that carries an era (R369 step 2). -/
def eraHeld (e : Nat) (c : Ctl) : Bool :=
  c.pipe.flights.any (fun f => f.src == .guest && f.tag / 1024 == e) || c.pipe.parked.any (fun p => p.src == .guest && p.req.tag / 1024 == e)

/-- GS_RESET_N is high (R378): released at W10 start, low again once the guest rails go down. -/
def gsResetN (c : Ctl) : Bool := c.guest.resetN && (groupSlots c 3).all (fun n => (railOf c n).en)

/-- Both ends empty their replay buffers and void their credits; the link returns to HELLO with the next era (R369, R352). -/
def portResetDone (c : Ctl) : Ctl :=
  let e := (gstEra c + 1) % 4
  let c := setF Reg.GST_STATUS.ERA e (setF (Reg.PRD_LK_STATUS.ERA 2) e c)
  let c := updLink 2 (fun _ => Link.init) c
  let c := updGuest (fun g => { g with resetting := none, owes := none, eraFresh := true, mreq := 0, mwr := 0, mmioCr := 0, evtCr := 0, tids := [], toGuest := [], evtWait := [(2, e)] }) c
  sendHello 2 (setLinkSt 2 2 (setF Reg.GST_STATUS.PORT 1 c))

/-- Steps 2 and 3 of a port reset (R369): once the hub holds nothing of the era to come, it sends PORT_RESET, or answers the guest's and goes on. -/
def portExchange (c : Ctl) : Ctl :=
  match c.guest.owes with
  | none => c
  | some (own, cause) =>
    if eraHeld ((gstEra c + 1) % 4) c then c
    else if own then sendLink 2 .portReset [cause] [] (updGuest (fun g => { g with owes := none }) c)
    else portResetDone (sendLink 2 .portResetAck [cause] [] c)

/-- Start of a port reset (R369): intake closes, and the exchange with the guest is owed. -/
def portResetStart (own : Bool) (cause : Nat) (c : Ctl) : Ctl :=
  let c := addF Reg.GST_COUNTS.RESETS (guestCloseIntake c)
  let c := setF Reg.GST_STATUS.PORT (if gstPort c = 4 then 4 else 2) (updGuest (fun g => { g with resetting := some cause, owes := some (own, cause) }) c)
  portExchange c

/-- A link has become ACTIVE (R352): a guest that was ready before opens again by R365. -/
def linkActive (k : Nat) (c : Ctl) : Ctl :=
  let c := setLinkSt k 4 c
  if k = 2 ∧ c.guest.ready then
    let c := setF Reg.GST_STATUS.PORT 2 c
    guestTryOpen (pumpEvt c.guest.evtWait.length c)
  else c

/-- CREDIT for the SD classes of a save-die link: R377 gives no counts, so each is a free value (log entry 141). -/
def sdCredits (k : Nat) : List Nat → Ctl → Ctl
  | [], c => c
  | n :: ns, c =>
    let p := drawN c
    sdCredits k ns (sendLink k .credit [n, p.1 % 4096] [] p.2)

/-- From CREDIT to ACTIVE: the hub has sent CREDIT for every class it receives, but for MREQ and MWR (R352, R361). -/
def creditsSent (k : Nat) (c : Ctl) : Ctl :=
  if linkSt c k = 3 ∧ (linkOf c k).helloAcked then
    linkActive k (if k = 2 then sendLink 2 .credit [6, 16] [] c else sdCredits k [9, 10, 11, 12] c)
  else c

/-! Responses to the guest (R364). The tag of a guest request is its TID + 1024 × era. -/

/-- Send a response, unless its era is over or intake has closed: then it is discarded and counted as late (R369). -/
def guestReply (kind : MsgKind) (tag status poison load : Nat) (data : List Byte) (c : Ctl) : Ctl :=
  if tag / 1024 = gstEra c ∧ linkLive c 2 ∧ getF Reg.HUB_DOMAIN_STATUS.GUEST_OPEN c = 1 then sendLink 2 kind [tag % 1024, tag / 1024, status, poison, load] data c
  else addF (Reg.PRD_LK_LATE.LATE 2) c

/-- EVT THROTTLE when the guest is first held with reason 5 or 6, and when the hold ends (R361). -/
def guestThrottle (on : Bool) (c : Ctl) : Ctl :=
  if getF Reg.GST_STATUS.THROTTLED c = b2n on then c else sendEvt 4 (b2n on) (setF Reg.GST_STATUS.THROTTLED (b2n on) c)

/-- The hub has taken an INT or a TEMP: its credit goes back in an idle flit (R354, R361). -/
def intTaken (c : Ctl) : Ctl := if linkLive c 2 then sendLink 2 .creditReturn [6, 1] [] c else c

/-- An interrupt of the guest is delivered (R367). -/
def deliverInt (v : Nat) (c : Ctl) : Ctl :=
  let c := intTaken c
  let c := setF Reg.GST_INT_PEND.PEND (bitSet (getF Reg.GST_INT_PEND.PEND c) v) c
  let c := if (getF Reg.GST_INT_HOST.MASK c).testBit v then vendorAlert 1 c else c
  if (getF Reg.GST_INT_SB.MASK c).testBit v then sbAlertSource 4 c else c

/-- A guest write has committed: interrupts behind it come one write nearer to delivery (R362). -/
def guestWriteCommitted (c : Ctl) : Ctl :=
  let due := c.guest.ints.filter (fun i => i.2 ≤ 1)
  let c := updGuest (fun g => { g with ints := (g.ints.filter (fun i => 1 < i.2)).map (fun i => (i.1, i.2 - 1)) }) c
  due.foldl (fun c i => deliverInt i.1 c) c

/-! Sleep (R374-R376). -/

/-- SLP_CANCEL to every partner (R375). -/
def sleepCancel (c : Ctl) : Ctl :=
  let n := getF Reg.PRD_SLEEP.SLEEP_ID c
  let c := [0, 1, 2].foldl (fun c k => if linkSt c k = 4 then sendLink k .slpCancel [n] [] c else c) c
  setF Reg.PRD_SLEEP.STATE 0 (addF Reg.PRD_CANCELS.CANCELS { c with prd := { c.prd with acks := [], heldWake := false } })

/-- A wake condition at the hub (R376): before SLP_GO it cancels; after it, it is held until entry is complete. -/
def hubWake (c : Ctl) : Ctl :=
  match getF Reg.PRD_SLEEP.STATE c with
  | 1 => sleepCancel c
  | 2 => if c.prd.entered then setF Reg.PRD_SLEEP.STATE 3 c
    else if c.prd.heldWake then c else addF Reg.PRD_CANCELS.HELD_WAKES { c with prd := { c.prd with heldWake := true } }
  | _ => c

/-- A save trigger takes the save-die links out of standby at once (R376). -/
def sleepForSave (c : Ctl) : Ctl :=
  let c := hubWake c
  [0, 1].foldl (fun c k => if linkSt c k = 5 then updLink k (fun l => { l with partner := 0 }) (setLinkSt k 4 c) else c) c

end Sys2Proof.Machine
end

