-- ==== Sys2Proof/Machine/Welt.lean ====
section
/-! DEFINITION. Sys2Proof/Machine/Welt.lean: the bytes of journal entries, journal pages and base maps, the folding of entries into a base map, and
what can be loaded from the journal regions of the save dies (R185-R190). -/
namespace Sys2Proof.Machine

/-! Bytes (R185-R187). -/

def JType.code : JType → Nat
  | .copy => 1
  | .zero => 2
  | .epochSeal => 3
  | .baseDone => 4

/-- FLAGS of an entry, from bit 28: POISON, KEEP, CLOSED. -/
def JEntry.flags (e : JEntry) : Nat := b2n e.poison + 2 * b2n e.keep + 4 * b2n e.closed

/-- The 32 bytes of an entry (R185). -/
def JEntry.bytes (e : JEntry) : List Byte :=
  let body := leBytes e.jseq 8 ++ leBytes (e.frame % 2097152 + e.type.code * 16777216 + e.flags * 268435456) 4 ++ leBytes e.epoch 6 ++ leBytes 0 2
    ++ leBytes e.loc 4 ++ leBytes (min 0xFFFFFFFF e.aux) 4
  body ++ leBytes (crc32 body) 4

def RingPage.first (p : RingPage) : Nat := (p.entries.head?.map (·.jseq)).getD 0
def RingPage.last (p : RingPage) : Nat := (p.entries.getLast?.map (·.jseq)).getD 0

/-- The 16 KiB of a journal page (R186): its header, its entries, and 0xFF after them. -/
def RingPage.bytes (p : RingPage) : List Byte :=
  let head := leBytes 0x4A575058 4 ++ leBytes 1 2 ++ leBytes p.entries.length 2 ++ leBytes p.first 8 ++ leBytes p.baseGen 4 ++ leBytes 0 8
  let body := p.entries.flatMap JEntry.bytes
  head ++ leBytes (crc32 (head ++ body)) 4 ++ body ++ List.replicate ((511 - p.entries.length) * 32) 0xFF

/-- CUR or ALT of a base map entry, its epoch and its flags; KIND 0xF for none. -/
def locBytes : Option BaseLoc → List Byte
  | some b => leBytes (b.loc % 33554432 + b.kind * 268435456) 4 ++ leBytes b.epoch 6 ++ leBytes b.flags 2
  | none => leBytes 0xF0000000 4 ++ leBytes 0 8

/-- The 32 bytes of a frame's entry (R187). -/
def BaseEntry.bytes (b : BaseEntry) : List Byte := locBytes (some b.cur) ++ locBytes b.alt ++ leBytes 0 8

/-- The frame entries of a base map of `frames` frames. -/
def BaseMap.entryBytes (m : BaseMap) (frames : Nat) : List Byte :=
  (List.range frames).flatMap (fun f => (mapGet BaseEntry.init m.entries f).bytes)

/-- A base map as a base slot holds it (R187): its 4 KiB header and its entries. -/
def BaseMap.bytes (m : BaseMap) (frames : Nat) : List Byte :=
  let entries := m.entryBytes frames
  let head := leBytes 0x42575058 4 ++ leBytes 1 2 ++ leBytes 0 2 ++ leBytes m.gen 4 ++ leBytes frames 4 ++ leBytes m.covered 8
    ++ leBytes m.committedEpoch 6 ++ leBytes m.sealedEpoch 6 ++ leBytes (crc32 entries) 4 ++ leBytes 0 4052
  head ++ leBytes (crc32 head) 4 ++ entries

/-! Folding (R187, R188). -/

/-- The base entry of a frame after an entry: a later one supersedes an earlier one; ALT keeps the newest at or below the committed
epoch, and nothing where there is none (R187). -/
def baseStep (committed : Nat) (e : JEntry) (b : BaseEntry) : BaseEntry :=
  let loc : BaseLoc := ⟨if e.type = .zero then 0 else 1, e.loc, e.epoch, e.flags, e.jseq⟩
  if e.epoch ≤ committed then ⟨loc, none⟩
  else if b.cur.jseq = 0 then ⟨loc, b.alt⟩
  else ⟨loc, if b.cur.epoch ≤ committed then some b.cur else b.alt⟩

def baseApply (e : JEntry) (m : BaseMap) : BaseMap :=
  match e.type with
  | .copy => { m with entries := mapSet BaseEntry.init m.entries e.frame (baseStep m.committedEpoch e (mapGet BaseEntry.init m.entries e.frame)) }
  | .zero => { m with entries := mapSet BaseEntry.init m.entries e.frame (baseStep m.committedEpoch e (mapGet BaseEntry.init m.entries e.frame)) }
  | .epochSeal => { m with sealedEpoch := e.epoch }
  | .baseDone => m

/-- With a committed epoch that has risen over CUR, ALT equals CUR: it is none. -/
def baseCommit (committed : Nat) (m : BaseMap) : BaseMap :=
  { m with committedEpoch := committed, entries := m.entries.map (fun e => if e.2.cur.epoch ≤ committed then (e.1, { e.2 with alt := none }) else e) }

/-- The Welt state: the base map in force with the durable entries applied in JSEQ order (R189); `ignore` drops entries. -/
def weltState (committed : Nat) (ignore : JEntry → Bool) (w : WeltNv) : BaseMap :=
  (w.entries.filter (fun e => decide (w.base.covered < e.jseq) && !ignore e)).foldl (fun m e => baseApply e m) (baseCommit committed w.base)

/-- The newest entry of each frame at or below an epoch, among the base map in force, what compactions folded away, and the entries up to `x`. -/
def newestAt (epoch x : Nat) (w : WeltNv) : AMap BaseLoc :=
  let old := fun (e : Nat × BaseEntry) =>
    if e.2.cur.epoch ≤ epoch then some (e.1, e.2.cur)
    else ((mapFind w.older e.1).or e.2.alt).bind (fun (a : BaseLoc) => if a.epoch ≤ epoch then some (e.1, a) else none)
  let named := fun (e : JEntry) => (e.type == .copy || e.type == .zero) && decide (w.base.covered < e.jseq) && decide (e.jseq ≤ x) && decide (e.epoch ≤ epoch)
  (w.entries.filter named).foldl (fun m e => mapPut m e.frame ⟨if e.type = .zero then 0 else 1, e.loc, e.epoch, e.flags, e.jseq⟩) (w.base.entries.filterMap old)

/-! What the dies hold (R189). -/

/-- Put a page into a list of pages in the order of their first JSEQ, once. -/
def pageAdd (p : RingPage) : List RingPage → List RingPage
  | [] => [p]
  | x :: xs => if p.first < x.first then p :: x :: xs else if p.first = x.first then x :: xs else x :: pageAdd p xs

def pagesOf (dies : List WeltDie) : List RingPage := (dies.flatMap (·.pages)).foldl (fun l p => pageAdd p l) []

/-- AUX of a BASE_DONE entry. -/
def doneAux (gen slot : Nat) : Nat := gen % 2147483648 + slot * 2147483648

/-- The newest base slot whose BASE_DONE entry is durable. -/
def baseFound (dies : List WeltDie) (entries : List JEntry) : Option (BaseMap × Nat) :=
  let slots := dies.flatMap (fun w => (w.slot0.map (fun m => (m, 0))).toList ++ (w.slot1.map (fun m => (m, 1))).toList)
  (slots.filter (fun e => entries.any (fun j => j.type == .baseDone && j.aux == doneAux e.1.gen e.2))).foldl (fun best e => match best with
    | some b => if b.1.gen < e.1.gen then some e else some b
    | none => some e) none

/-- The highest generation that a die knows of: of its base slots and of its pages. -/
def genHigh (w : WeltDie) : Nat :=
  w.pages.foldl (fun n p => max n p.baseGen) (max ((w.slot0.map (·.gen)).getD 0) ((w.slot1.map (·.gen)).getD 0))

/-- Entries that a recovery must ignore leave a die for good (log entry 25); BASE_DONE entries stay. -/
def voidAbove (limit : Option Nat) (w : WeltDie) : WeltDie :=
  let stays := fun (e : JEntry) => e.type == .baseDone || (match limit with | some n => decide (e.jseq ≤ n) | none => true)
  { w with pages := (w.pages.map (fun p => { p with entries := p.entries.filter stays })).filter (fun p => !p.entries.isEmpty) }

/-- The base slot not in force, and the pages whose entries are all folded in, become free (R188). -/
def foldedFree (slot covered : Nat) (w : WeltDie) : WeltDie :=
  let w := if slot = 0 then { w with slot1 := none } else { w with slot0 := none }
  { w with pages := w.pages.filter (fun p => decide (covered < p.last)) }

/-- A base map is written into a base slot. -/
def slotPut (slot : Nat) (m : BaseMap) (w : WeltDie) : WeltDie := if slot = 0 then { w with slot0 := some m } else { w with slot1 := some m }

end Sys2Proof.Machine
end

