-- ==== Sys2Proof/Machine/TrackOps.lean ====
section
/-! DEFINITION. Sys2Proof/Machine/TrackOps.lean: the operations on frames, slots, the budget and the Welt journal that several commands
share (07_dirty_tracking_and_reel.md). A line is a 64-byte line of DPA (DPA ÷ 64); a frame holds 32,768 lines (R168). -/
namespace Sys2Proof.Machine

def linesPerFrame : Nat := 32768

/-- The number of save frames (R168). -/
def frameCount (c : Ctl) : Nat := getF Reg.MEM_CAPACITY.UNITS c * 128

def frameOfLine (line : Nat) : Nat := line / linesPerFrame

def frameRec (c : Ctl) (f : Nat) : FrameRec := mapGet FrameRec.init c.dtk.frames f

/-- The operating state changes: HEEL_STATE, alerts, and EVT STATE to the guest (R13, R359). -/
def goState (o : OpState) (c : Ctl) : Ctl := sendEvt 1 (opCode o) (setState o c)

/-! D and the slots (R169, R173, R174). -/

def dirtyCount (c : Ctl) : Nat := getF Reg.DTK_DIRTY.D c

/-- Write the tracking record of a frame; D counts the frames whose BASE is not Clean. -/
def setFrame (f : Nat) (r : FrameRec) (c : Ctl) : Ctl :=
  let was := b2n ((frameRec c f).base != .clean)
  setF Reg.DTK_DIRTY.D (dirtyCount c + b2n (r.base != .clean) - was)
    { c with dtk := { c.dtk with frames := mapSet FrameRec.init c.dtk.frames f r } }

def updFrame (f : Nat) (g : FrameRec → FrameRec) (c : Ctl) : Ctl := setFrame f (g (frameRec c f)) c

def slotTotal (c : Ctl) : Nat := getF Reg.SAV_LAST_CFG.SLOTS c
def frameSlots (c : Ctl) : Nat := slotTotal c - sShadow c

def slotUsed (c : Ctl) (n : Nat) : Bool := c.dtk.frames.any (fun e => e.2.slot == some n)

/-- The free ready frame slot with the lowest number (R173). -/
def freeSlot (c : Ctl) : Option Nat := firstFrom (fun n => c.dtk.ready.testBit n && !slotUsed c n) 0 (frameSlots c)

/-- Give the free ready slots to slotless frames, in frame order (R174). -/
def fillSlotless (c : Ctl) : Ctl :=
  (c.dtk.frames.filter (fun e => e.2.base != .clean && e.2.slot.isNone)).foldl (fun c e =>
    match freeSlot c with
    | some n => updFrame e.1 (fun r => { r with slot := some n }) c
    | none => c) c

/-- DTK_SLOTLESS: frames that are not Clean and hold no slot. -/
def slotless (c : Ctl) : Nat := (c.dtk.frames.filter (fun e => e.2.base != .clean && e.2.slot.isNone)).length

/-! The budget (R175). -/

/-- SOLE_LIMIT. -/
def soleLimit (c : Ctl) : Nat := getF Reg.DTK_SOLE.READY c - sShadow c

/-- The effective budget B. -/
def effB (c : Ctl) : Nat :=
  let b := min (getF Reg.DTK_BUDGET_FW.VALUE c) (soleLimit c)
  if getF Reg.DTK_BUDGET_AGE.STALE c = 1 then min b (getF Reg.DTK_BUDGET_FROZEN.VALUE c) else b

/-- The throttle onset O (R130). -/
def onset (c : Ctl) : Nat := 9 * effB c / 10

def bothDies (c : Ctl) : Bool := dieInService c 0 && dieInService c 1
def anyDie (c : Ctl) : Bool := dieInService c 0 || dieInService c 1

/-- The limiters in force (R455 DERATE): energy and Sole as last computed by M2, a save die out of service, a stale budget. -/
def derateBits (c : Ctl) : Nat :=
  getF Reg.HEEL_DEGRADE.DERATE c % 4 + b2n (!bothDies c) * 4 + getF Reg.DTK_BUDGET_AGE.STALE c * 8

/-- Serving is left for Derated as soon as B is below the configured budget or a save die is out of service (R13). -/
def derateCheck (c : Ctl) : Ctl :=
  let c := setF Reg.HEEL_DEGRADE.DERATE (derateBits c) c
  if c.op = .serving ∧ (effB c < getF Reg.DTK_BUDGET_CFG.VALUE c ∨ !bothDies c) then goState .derated c else c

/-- DTK_BUDGET_AGE has reached 1,000 ms: STALE is set (R178). -/
def staleCheck (c : Ctl) : Ctl :=
  match c.dtk.fwAt with
  | none => c
  | some t =>
    if getF Reg.DTK_BUDGET_AGE.STALE c = 1 ∨ c.uptime < t + 1000000000 then c
    else
      let c := addF Reg.DTK_BUDGET_AGE.STALE_COUNT (setF Reg.DTK_BUDGET_AGE.STALE 1 c)
      derateCheck (logEvent 0x0501 5 2 (effB c * 4294967296) c)

/-- Time passes up to an instant that a command asserts to have come (log entry 4). -/
def passTo (t : Nat) (c : Ctl) : Ctl :=
  if t ≤ c.uptime then c
  else
    let was := c.uptime
    let c := { c with uptime := t }
    if c.clk.dormantAt.isNone then clkElapse (t - was) c else c

/-- The ready slots of the Last in use are known anew (R173, R262). -/
def setReady (bits : Nat) (c : Ctl) : Ctl :=
  let c := setF Reg.DTK_SOLE.READY (popCount bits (slotTotal c)) { c with dtk := { c.dtk with ready := bits } }
  derateCheck (fillSlotless c)

/-! The Welt journal (R185, R186). -/

/-- The journal pages that the ring holds: 64 pseudo-SLC blocks of a save die (R253); the pages it has in use, the open one among them. -/
def ringPages (c : Ctl) : Nat := 64 * cfgF c Img.WORDLINES * cfgF c Img.PLANES
def ringUsed (c : Ctl) : Nat := c.weltNv.ring.length + c.welt.pages.length + b2n (!c.welt.openPage.isEmpty)

/-- The journal writer can take an entry: into its open page, or into a new one of a ring that is not full (R188). -/
def canAppend (c : Ctl) : Bool := !c.welt.openPage.isEmpty || decide (ringUsed c < ringPages c)
def ringPct (c : Ctl) : Nat := if ringPages c = 0 then 0 else min 100 (ringUsed c * 100 / ringPages c)

/-- The open page is sent to be programmed. -/
def flushPage (c : Ctl) : Ctl :=
  if c.welt.openPage.isEmpty then c
  else { c with welt := { c.welt with openPage := [], pages := c.welt.pages ++ [⟨c.welt.openPage, c.welt.openGen, false, false, false, false⟩] } }

/-- The journal writer puts an entry into the open page and gives it the next JSEQ; entries written in Keep carry the KEEP flag (R184). A page of 511
entries is programmed. -/
def jAppend (e : JEntry) (c : Ctl) : Ctl :=
  let page := c.welt.openPage ++ [{ e with jseq := c.welt.nextJseq, keep := c.op == .keep }]
  let gen := if c.welt.openPage.isEmpty then c.weltNv.base.gen else c.welt.openGen
  let c := { c with welt := { c.welt with openPage := page, openGen := gen, nextJseq := c.welt.nextJseq + 1 } }
  if 511 ≤ page.length then flushPage c else c

def jEntry (type : JType) (frame epoch : Nat) : JEntry := ⟨0, frame, type, false, false, false, epoch, 0, 0⟩

/-- The closed epoch has no frame pending: its EPOCH_SEAL entry is appended (R170), as soon as the journal writer can take it. -/
def sealCheck (c : Ctl) : Ctl :=
  match c.epg.closed with
  | some n =>
    if c.epg.sealWritten || framesPending c || !canAppend c then c
    else jAppend { jEntry .epochSeal 0 n with aux := c.epg.closedCopies } { c with epg := { c.epg with sealWritten := true } }
  | none => c

/-! Copies (R181). -/

/-- The cleaner runs in the operating state (R181). -/
def reelRuns (c : Ctl) : Bool :=
  match c.op with
  | .restoring => getF Reg.SAV_RST_STATUS.EARLY_OPEN c == 1
  | .serving => true | .derated => true | .keep => true
  | _ => false

/-- The band cap applies, and any Dirty frame may be selected (R180, R181). -/
def reelBand (c : Ctl) : Bool :=
  match c.op with
  | .keep => true
  | .restoring => getF Reg.SAV_RST_STATUS.EARLY_OPEN c == 1 && decide (onset c ≤ dirtyCount c)
  | .serving => decide (onset c ≤ dirtyCount c)
  | .derated => decide (onset c ≤ dirtyCount c)
  | _ => false

/-- The cap on the cleaner's reads, in bytes per ns, which is GB/s. -/
def reelCap (c : Ctl) : Nat := if reelBand c then getF Reg.DTK_REEL_CFG.BW_BAND c else getF Reg.DTK_REEL_CFG.BW_BASE c

/-- The token bucket filled up to now: a burst of 4 MiB (R181). -/
def reelTokens (c : Ctl) : Nat := min 4194304 (c.reel.bucket + reelCap c * (c.uptime - c.reel.bucketAt))

/-- A line read takes its 64 bytes of tokens. -/
def takeReelTokens (c : Ctl) : Ctl := { c with reel := { c.reel with bucket := reelTokens c - 64, bucketAt := c.uptime } }

/-- The line reads of a copy end with it. -/
def dropReelFetch (f : Nat) (c : Ctl) : Ctl :=
  { c with pipe := { c.pipe with fetches := c.pipe.fetches.filter (fun x => !(x.kind == .reel && x.first == f * linesPerFrame)) } }

/-- The Reel copy and the carry copy of a frame. -/
def copyOf (c : Ctl) (f : Nat) : Option Copy := c.reel.copies.find? (fun x => x.frame == f && !x.carry)
def carryOf (c : Ctl) (f : Nat) : Option Copy := c.reel.copies.find? (fun x => x.frame == f && x.carry)
def dropCopy (f : Nat) (c : Ctl) : Ctl := dropReelFetch f { c with reel := { c.reel with copies := c.reel.copies.filter (fun x => x.frame != f || x.carry) } }
def dropCarryCopy (f : Nat) (c : Ctl) : Ctl := { c with reel := { c.reel with copies := c.reel.copies.filter (fun x => x.frame != f || !x.carry) } }

/-- A copy is abandoned: no entry is written and its unit stays unreferenced. -/
def abandonCopy (f : Nat) (c : Ctl) : Ctl := addF Reg.DTK_REEL_ABANDON.COUNT (dropCopy f c)

/-- Shadow pages of a frame are released (R170). -/
def releaseShadow (f : Nat) (c : Ctl) : Ctl := { c with epg := { c.epg with shadow := mapErase c.epg.shadow f } }

/-- A frame no longer awaits its carry (R233). -/
def carryOff (f : Nat) (c : Ctl) : Ctl :=
  { c with restore := { c.restore with carryN := setDel c.restore.carryN f, carryC := setDel c.restore.carryC f } }

/-- A write to a frame under carry drops the carry, unless its entry is confirmed: that entry stands (R233). -/
def dropCarry (f : Nat) (c : Ctl) : Ctl :=
  match carryOf c f with
  | some x => if x.confirmed.isNone then dropCarryCopy f (carryOff f c) else carryOff f c
  | none => carryOff f c

/-- The effect of a granted write on its frame (R170), with the slot filled at Track (R173). -/
def trackWrite (f : Nat) (c : Ctl) : Ctl :=
  let r := frameRec c f
  match r.base with
  | .clean =>
    let c := dropCarry f (setFrame f { r with base := .dirty, epochPend := false, touch := true } c)
    (match freeSlot c with | some n => updFrame f (fun r => { r with slot := some n }) c | none => c)
  | .dirty => setFrame f { r with base := if r.epochPend then .shadowed else .dirty, touch := true } c
  | .shadowed => setFrame f { r with touch := true } c
  | .cleaning =>
    if r.epochPend then setFrame f { r with redirty := true, touch := true } c
    else if (match copyOf c f with | some x => x.confirmed.isSome | none => false) then setFrame f { r with redirty := true, touch := true } c
    else abandonCopy f (setFrame f { r with base := .dirty, redirty := false, touch := true } c)

/-- The entry of a copy is durable: the completion rows of R170. A frame that turns Clean frees its slot, adds a throttle token
where the throttle applies (R130, R131), and ends the Keep cause STALL (R447). A carry copy ends the wait of its frame, and is no copy of the Reel
cleaner's counts (log entry 130). -/
def copyDurable (x : Copy) (c : Ctl) : Ctl :=
  if x.carry then carryOff x.frame (dropCarryCopy x.frame c)
  else
  let r := frameRec c x.frame
  let c := releaseShadow x.frame (addF Reg.DTK_REEL_DONE.COUNT (dropCopy x.frame c))
  if r.base ≠ .cleaning then c
  else if r.redirty then setFrame x.frame { r with base := .dirty, redirty := false, epochPend := false } c
  else
    let c := setFrame x.frame { r with base := .clean, redirty := false, epochPend := false, slot := none } c
    let c := { c with reel := { c.reel with cleanedAt := some c.uptime } }
    let c := if c.op = .keep then setF Reg.HEEL_DEGRADE.KEEP (bitClr (getF Reg.HEEL_DEGRADE.KEEP c) 2) c else c
    let n := getF Reg.MEM_THROTTLE_STATUS.TOKENS c
    fillSlotless (if c.op = .keep ∧ getF Reg.HEEL_DEGRADE.RELEASE_PENDING c = 0 then c else setF Reg.MEM_THROTTLE_STATUS.TOKENS (min 256 (n + 1)) c)

/-- Copies into the stripe groups of a save die that leaves service are abandoned (R170, R184). -/
def abandonDie (d : Nat) (c : Ctl) : Ctl :=
  (c.reel.copies.filter (fun x => x.group / 4 == d)).foldl (fun c x =>
    if x.carry then dropCarryCopy x.frame c
    else
    let r := frameRec c x.frame
    let c := abandonCopy x.frame c
    if r.base ≠ .cleaning then c
    else setFrame x.frame { r with base := if r.epochPend && r.redirty then .shadowed else .dirty, redirty := false } c) c

/-- A close at N (R290): every frame that is not Clean gets EPOCH_PEND by R170. -/
def closeFrame (r : FrameRec) : FrameRec :=
  match r.base with
  | .clean => r
  | .cleaning => if r.redirty then { r with base := .dirty, redirty := false, epochPend := true } else { r with epochPend := true }
  | _ => { r with epochPend := true }

def epochClose (n : Nat) (c : Ctl) : Ctl :=
  let kept := c.reel.copies.filter (fun x => x.carry || !((frameRec c x.frame).base == .cleaning && (frameRec c x.frame).redirty))
  let c := { c with
    dtk := { c.dtk with frames := c.dtk.frames.map (fun e => (e.1, closeFrame e.2)) }
    reel := { c.reel with copies := kept.map (fun x => if x.carry then x else { x with closed := true, epoch := n }) }
    epg := { c.epg with closed := some n, closedAt := nowNs c, sealWritten := false, shadow := [], closedCopies := 0 }
    nv := { c.nv with unsealed := some n } }
  let c := setF Reg.HEEL_EPOCH_HIGH.VALUE n (setF Reg.EPG_CLOSE_CSN.VALUE (getF Reg.MEM_CSN.CSN c)
    (setF Reg.EPG_SHADOW.RESERVED (dirtyCount c) c))
  sealCheck c

/-! Durability and compaction (R186, R188). -/

def weltDie (c : Ctl) (d : Nat) : WeltDie := if d = 0 then c.weltNv.die0 else c.weltNv.die1

/-- Change the journal regions of the save dies in service. -/
def updWelts (f : WeltDie → WeltDie) (c : Ctl) : Ctl :=
  { c with weltNv := { c.weltNv with
    die0 := if dieInService c 0 then f c.weltNv.die0 else c.weltNv.die0
    die1 := if dieInService c 1 then f c.weltNv.die1 else c.weltNv.die1 } }

/-- M2 frees what the base map in force has folded in (R188 step 5); a firmware reset defers it to the restarted firmware. -/
def freeFolded (c : Ctl) : Ctl :=
  if !fwRunning c ∨ c.welt.compact.isSome then c
  else
    let n := c.weltNv.base.covered
    updWelts (foldedFree c.weltNv.slot n) { c with weltNv := { c.weltNv with ring := c.weltNv.ring.filter (fun j => decide (n < j)) } }

/-- A new base map is in force: the entries it covers are folded in, and what it no longer names of the last sealed epoch stays known (R190). -/
def baseInForce (m : BaseMap) (c : Ctl) : Ctl :=
  let s := sealedEpoch c
  let older := (newestAt s m.covered c.weltNv).filter (fun e => decide (s < (mapGet BaseEntry.init m.entries e.1).cur.epoch))
  let slot := 1 - c.weltNv.slot
  let c := { c with
    weltNv := { c.weltNv with base := m, slot := slot, entries := c.weltNv.entries.filter (fun x => decide (m.covered < x.jseq)), older := older }
    welt := { c.welt with compact := none, compactJseq := none } }
  freeFolded (setF Reg.DTK_WELT_STATUS.BASE_GEN m.gen (setF Reg.DTK_WELT_STATUS.BASE_SLOT slot (setF Reg.DTK_WELT_STATUS.COMPACTING 0 c)))

/-- A durable entry takes its effect. The entry of a copy that an epoch close has parted from its frame counts as a copy made durable (R191). -/
def entryDurable (e : JEntry) (c : Ctl) : Ctl :=
  let c := setF Reg.DTK_WELT_JSEQ.JSEQ e.jseq { c with weltNv := { c.weltNv with entries := c.weltNv.entries ++ [e] } }
  match e.type with
  | .copy =>
    let c := if e.closed && c.epg.closed == some e.epoch then { c with epg := { c.epg with closedCopies := c.epg.closedCopies + 1 } } else c
    (match c.reel.copies.find? (fun x => x.confirmed == some e.jseq) with
      | some x => copyDurable x c
      | none => if dieInService c (e.loc / 4 % 2) then addF Reg.DTK_REEL_DONE.COUNT c else c)
  | .zero => c
  | .epochSeal => epochSealed c
  | .baseDone =>
    match c.welt.compact with
    | some m => if c.welt.compactJseq = some e.jseq then baseInForce m c else c
    | none => c

/-- The page is programmed and verified on every die in service (R186). -/
def pageDone (c : Ctl) (p : JPage) : Bool :=
  (p.done0 || !dieInService c 0) && (p.done1 || !dieInService c 1) && anyDie c

/-- Pages leave in order: the oldest page becomes durable, and its entries take effect in order. -/
def pagesDurable : Nat → Ctl → Ctl
  | 0, c => c
  | n + 1, c =>
    match c.welt.pages with
    | [] => c
    | p :: rest =>
      if pageDone c p then
        let page : RingPage := ⟨p.entries, p.baseGen⟩
        let c := updWelts (fun w => { w with pages := w.pages ++ [page] }) { c with welt := { c.welt with pages := rest } }
        let c := { c with weltNv := { c.weltNv with ring := c.weltNv.ring ++ [page.last] } }
        pagesDurable n (sealCheck (p.entries.foldl (fun c e => entryDurable e c) c))
      else c

/-! The poison list (R89, R125, R156). -/

/-- A record joins the list: at most 4,096; a full list sets the overflow indication. -/
def poisonAdd (line n : Nat) (c : Ctl) : Ctl :=
  if c.ef.poisonList.contains (line, n) then c
  else if c.ef.poisonList.length < 4096 then { c with ef := { c.ef with poisonList := c.ef.poisonList ++ [(line, n)] } }
  else logEvent 0x0606 6 2 0 { c with ef := { c.ef with poisonOverflow := true } }

end Sys2Proof.Machine
end

