-- ==== Sys2Proof/Machine/Operands.lean ====
section
/-! DEFINITION. Sys2Proof/Machine/Operands.lean: where a request goes: HPA to DPA through the HDM decoders (R85), DPA to channel and
channel address (R138), channel address to DDR5 fields (R139), and page hints (R141). -/
namespace Sys2Proof.Machine

/-! HDM decoders (R85). -/

/-- The DPA of an HPA through one committed decoder; `none` when the decoder does not cover it or the granule belongs to another
module of the interleave. -/
def hdmMap (d : Hdm) (hpa : Nat) : Option Nat :=
  if d.base ≤ hpa ∧ hpa < d.base + d.size ∧ d.gran ≠ 0 ∧ d.ways ≠ 0 then
    let off := hpa - d.base
    let granule := off / d.gran
    if granule % d.ways = d.target then some (d.dpa + granule / d.ways * d.gran + off % d.gran) else none
  else none

/-- The DPA range of a decoder: its first byte and its length. -/
def hdmLen (d : Hdm) : Nat := if d.ways = 0 then 0 else d.size / d.ways

/-- The DPA of an HPA of a head, with the number of the decoder that translated it. -/
def hpaToDpa (c : Ctl) (h : HeadId) (hpa : Nat) : Option (Nat × Nat) :=
  (headOf c h).decs.findSome? (fun e => (hdmMap e.2 hpa).map (fun a => (a, e.1)))

/-- The hint of a decoder of a head (R141); code 3 is Auto. -/
def hintOf (c : Ctl) (h : HeadId) (d : Nat) : Nat :=
  let v := getF (if h = 0 then Reg.MEM_HINT_H0.HINT (d % 8) else Reg.MEM_HINT_H1.HINT (d % 8)) c
  if v = 3 then 0 else v

/-! Interleave (R138). -/

def fourCh (c : Ctl) : Bool := getF Reg.MEM_ILV_CFG.CH4 c == 1
/-- The number of channel bits, and the grain's exponent. -/
def chBits (c : Ctl) : Nat := if fourCh c then 2 else 3
def grainBits (c : Ctl) : Nat := getF Reg.MEM_ILV_CFG.GRAIN c + 8

/-- The channel index of a DPA: with the hash the three groups of bits above the grain are XORed. -/
def chIndex (c : Ctl) (dpa : Nat) : Nat :=
  let g := grainBits c
  let n := chBits c
  let b0 := bitsOf dpa g n
  if getF Reg.MEM_ILV_CFG.HASH c = 1 then b0 ^^^ bitsOf dpa (g + n) n ^^^ bitsOf dpa (g + 2 * n) n else b0

/-- The physical channel of a DPA. -/
def chanOf (c : Ctl) (dpa : Nat) : Nat := if fourCh c then 2 * chIndex c dpa else chIndex c dpa

/-- The channel address CA of a DPA. -/
def chanAddr (c : Ctl) (dpa : Nat) : Nat :=
  let g := grainBits c
  dpa / 2 ^ (g + chBits c) * 2 ^ g + dpa % 2 ^ g

/-- The DPA of an address of a channel: the mapping of R138 is one-to-one. -/
def dpaOf (c : Ctl) (ch ca : Nat) : Nat :=
  let g := grainBits c
  let n := chBits c
  let hi := ca / 2 ^ g
  let i := (if fourCh c then ch / 2 else ch) % 2 ^ n
  let b0 := if getF Reg.MEM_ILV_CFG.HASH c = 1 then i ^^^ bitsOf hi 0 n ^^^ bitsOf hi n n else i
  hi * 2 ^ (g + n) + b0 * 2 ^ g + ca % 2 ^ g

/-- The channel of a line, and the lines of a channel. -/
def lineChan (c : Ctl) (line : Nat) : Nat := chanOf c (line * 64)
/-- Lines of a channel, over the host-visible range and the shadow pool. -/
def linesPerChan (c : Ctl) : Nat := (getF Reg.MEM_CAPACITY.UNITS c + getF Reg.MEM_CAPACITY.SHADOW_UNITS c) * 4194304 / 2 ^ chBits c

/-! DDR5 fields (R139). -/

/-- Where a line lies in its channel. -/
structure DramAddr where
  sub : Nat
  col : Nat
  bg : Nat
  bank : Nat
  cid : Nat
  rank : Nat
  row : Nat
  deriving DecidableEq, Repr

/-- Split a channel address in the order of MAP_MODE, with the bank XOR. -/
def splitCA (c : Ctl) (ch ca : Nat) : DramAddr :=
  let mode := getF Reg.MEM_ILV_CFG.MAP_MODE c
  let cb := getF (Reg.DRC_TOPO.STACK ch) c
  let rb := getF (Reg.DRC_TOPO.RANKS ch) c
  let low := ca / 128
  let col := if mode = 0 then low % 128 else low / 32 % 128
  let bg := if mode = 0 then low / 128 % 8 else low % 8
  let bank := if mode = 0 then low / 1024 % 4 else low / 8 % 4
  let high := low / 4096
  let row := high / 2 ^ (cb + rb)
  let xor := getF Reg.MEM_ILV_CFG.BANK_XOR c = 1
  ⟨ca / 64 % 2, col, if xor then bg ^^^ row % 8 else bg, if xor then bank ^^^ row / 8 % 4 else bank, high % 2 ^ cb,
    high / 2 ^ cb % 2 ^ rb, row⟩

def lineAddr (c : Ctl) (line : Nat) : DramAddr := splitCA c (lineChan c line) (chanAddr c (line * 64))

/-- The key of the bank that an address lies in, and of its row. -/
def bankKey (a : DramAddr) : Nat := (((a.rank * 4 + a.cid) * 8 + a.bg) * 4 + a.bank) * 2 + a.sub
def rowKey (a : DramAddr) : Nat := a.row * 512 + bankKey a

end Sys2Proof.Machine
end

