-- ==== Sys2Proof/Machine/Flags.lean ====
section
/-! DEFINITION. Sys2Proof/Machine/Flags.lean: the error check of a line (R150, R151, R154): syndromes of four Reed-Solomon codewords over
GF(2^16), poison pattern, correction of one device, and erasure decoding of a marked device. The fold of R151 is the same at the write and
at the read of a line and cancels, unless a command reaches another line; the checks make the syndromes of stored data zero, and syndromes are
linear. So the syndromes of a delivered line are those of its error pattern. -/
namespace Sys2Proof.Machine

/-- Multiply by α in GF(2^16) with x^16 + x^12 + x^3 + x + 1. -/
def mulAlpha (v : BitVec 16) : BitVec 16 := (v <<< 1) ^^^ (if v.msb then 0x100B else 0)

/-- Multiply by α^d. -/
def mulPow : Nat → BitVec 16 → BitVec 16
  | 0, v => v
  | d + 1, v => mulAlpha (mulPow d v)

/-- What a poisoned line adds to its device 8 and device 9 symbols. -/
def poisonFlips : List Flip := [0, 1, 2, 3].flatMap (fun k => [⟨8, k, 0x5AC3⟩, ⟨9, k, 0x3CA5⟩])

/-- The error pattern of symbol `k` of device `d`. -/
def flipAt (fs : List Flip) (d k : Nat) : BitVec 16 :=
  fs.foldl (fun v f => if f.device = d ∧ f.symbol = k then v ^^^ f.value else v) 0

/-- The syndromes S0 and S1 of codeword `k`. -/
def syndrome (fs : List Flip) (k : Nat) : BitVec 16 × BitVec 16 :=
  (List.range 10).foldl (fun s d => (s.1 ^^^ flipAt fs d k, s.2 ^^^ mulPow d (flipAt fs d k))) (0, 0)

/-- The device that a single error of a codeword points to. -/
def errorDevice (s : BitVec 16 × BitVec 16) : Option Nat :=
  if s.1 = 0 then none else (List.range 10).find? (fun e => mulPow e s.1 == s.2)

/-- The fold value F of a line (R151): CRC-32 over the 8 bytes of CA >> 6, then rank and chip ID, a byte each (log entry 123). -/
def lineFold (c : Ctl) (line : Nat) : Nat :=
  let a := lineAddr c line
  crc32 (leBytes (chanAddr c (line * 64) / 64) 8 ++ [BitVec.ofNat 8 a.rank, BitVec.ofNat 8 a.cid])

/-- What the check of a line finds; the list holds what is XORed into each symbol k of the device. -/
inductive EccOut where
  | clean | poisoned | uncorrectable
  | corrected (device : Nat) (v : List (BitVec 16))
  deriving DecidableEq, Repr

/-- The check of a line whose delivered symbols differ from clean stored ones by an error pattern; `mark` is the marked device. -/
def eccCheck (mark : Option Nat) (fs : List Flip) : EccOut :=
  let ks := [0, 1, 2, 3]
  let syn := ks.map (syndrome fs)
  if syn == ks.map (syndrome poisonFlips) then .poisoned
  else
    match mark with
    | some m =>
      if syn.all (fun s => s.2 == mulPow m s.1) then
        (if syn.all (fun s => s.1 == 0) then .clean else .corrected m (syn.map (·.1)))
      else .uncorrectable
    | none =>
      let bad := syn.filter (fun s => s != (0, 0))
      match bad.head? with
      | none => .clean
      | some s =>
        match errorDevice s with
        | none => .uncorrectable
        | some e => if bad.all (fun s => errorDevice s == some e) then .corrected e (syn.map (·.1)) else .uncorrectable

/-- XOR a value into symbol `k` of data device `d`: the model takes bytes 8d + 2k and 8d + 2k + 1 of the line for it (log entry 17). -/
def xorSymbol (d k : Nat) (v : BitVec 16) (data : List Byte) : List Byte :=
  let at_ := fun (i : Nat) (x : Byte) (l : List Byte) => l.modify i (· ^^^ x)
  if d < 8 then at_ (8 * d + 2 * k) (v.setWidth 8) (at_ (8 * d + 2 * k + 1) ((v >>> 8).setWidth 8) data) else data

/-- The data that the devices deliver. -/
def delivered (fs : List Flip) (data : List Byte) : List Byte := fs.foldl (fun l f => xorSymbol f.device f.symbol f.value l) data

/-- The data after correction of a device. -/
def correct (d : Nat) (vs : List (BitVec 16)) (data : List Byte) : List Byte :=
  (vs.zipIdx).foldl (fun l e => xorSymbol d e.2 e.1 l) data

/-- 64 bytes of ones. -/
def onesLine : List Byte := List.replicate 64 0xFF

end Sys2Proof.Machine
end

