-- ==== Sys2Proof/Machine/EflOps.lean ====
section
/-! DEFINITION. Sys2Proof/Machine/EflOps.lean: the operations of the embedded-flash controller that several commands share
(17_embedded_flash_and_event_recorder.md). The integrator area lies at 0x68_0000, the event recorder at 0x60_0000, both in bank 1 (R426). -/
namespace Sys2Proof.Machine

def updEfl (f : Efl → Efl) (c : Ctl) : Ctl := { c with efl := f c.efl }
def updEf (f : Eflash → Eflash) (c : Ctl) : Ctl := { c with ef := f c.ef }
def bankOf (c : Ctl) (b : Nat) : EflBank := if b = 0 then c.efl.bank0 else c.efl.bank1
def setBank (b : Nat) (k : EflBank) (c : Ctl) : Ctl := updEfl (fun e => if b = 0 then { e with bank0 := k } else { e with bank1 := k }) c

def hostBase : Nat := 0x680000
def bankIdle (c : Ctl) (b : Nat) : Bool := (bankOf c b).running.isNone && (bankOf c b).susp.isEmpty

/-- What an unfinished operation leaves (R434): of a program an open number of whole words, of an erase a sector whose content is open but which is not
blank. -/
def eflUnfinished (o : EflOp) (c : Ctl) : Ctl :=
  if !o.host then c
  else if o.erase then
    let r := drawBytes 4096 c
    let p := drawN r.2
    let v := drawN p.2
    updEf (fun e => { e with cells := memWriteList 0xFF (memWriteList 0xFF e.cells (o.addr - hostBase) r.1) (o.addr - hostBase + p.1 % 4096)
                               [BitVec.ofNat 8 (v.1 % 255)] }) v.2
  else
    let r := drawN c
    let n := r.1 % (o.data.length / 16 + 1)
    updEf (fun e => { e with cells := memWriteList 0xFF e.cells (o.addr - hostBase) (o.data.take (n * 16)) }) r.2

/-- The controller is reset, or loses its supply: what runs, waits or is suspended is dropped. -/
def eflReset (c : Ctl) : Ctl :=
  let ops := c.efl.bank1.running.toList ++ c.efl.bank1.susp
  { ops.foldl (fun c o => eflUnfinished o c) c with efl := Efl.init }

/-- A save trigger: a running erase is suspended, and stays so; a running burst completes (R434). -/
def eflSave (c : Ctl) : Ctl :=
  match c.efl.bank1.running with
  | some o => if o.erase then setBank 1 { c.efl.bank1 with running := none, susp := o :: c.efl.bank1.susp } c else c
  | none => c

/-- The result of a host-port command: ERR, and DONE counts. -/
def hostEnd (err : Nat) (c : Ctl) : Ctl := addF Reg.EFL_HSTATUS.DONE (setF Reg.EFL_HSTATUS.ERR err c)

/-- An idle bank 1 starts the host-port operation that waits, or else the next sector of a clear of the recorder (R427, R440). -/
def bankNext (c : Ctl) : Ctl :=
  if !bankIdle c 1 ∨ !fwRunning c then c
  else match c.efl.waiting with
    | some o =>
      let c := updEfl (fun e => { e with waiting := none }) c
      if mayProgram c then setBank 1 { c.efl.bank1 with running := some o } c else hostEnd 4 c
    | none =>
      match c.ef.clearing with
      | some k => if mayProgram c then setBank 1 { c.efl.bank1 with running := some ⟨true, false, 0x600000 + k * 4096, [], 0⟩ } c else c
      | none => c

/-- The longest that a fetch waits for the operation that runs in its bank, in µs, its access included: a suspension, or the run of an erase that has been
suspended 16 times (R432). -/
def stallLimit (o : EflOp) : Nat := if o.erase && decide (16 ≤ o.suspends) then 211 else 11

/-- A fetch of bank `b` suspends what runs there (R432, R433); an erase is suspended 16 times before it runs through once. It has waited `stall` µs. -/
def suspendBank (b stall : Nat) (c : Ctl) : Ctl :=
  let k := bankOf c b
  match k.running with
  | some o =>
    let n := if 16 ≤ o.suspends then 1 else o.suspends + 1
    let c := setF Reg.EFL_STATUS.STALL_MAX (min 0xFFFF (max (min stall (stallLimit o)) (getF Reg.EFL_STATUS.STALL_MAX c))) c
    setBank b { k with running := none, susp := (if o.erase then { o with suspends := n } else o) :: k.susp } c
  | none => c

/-- The address lies in a sector whose erase has begun. -/
def erasing (c : Ctl) (addr : Nat) : Bool :=
  let k := bankOf c (addr / 4194304)
  (k.running.toList ++ k.susp).any (fun o => o.erase && o.addr / 4096 == addr / 4096)

end Sys2Proof.Machine
end

