-- ==== Sys2Proof/Machine/JrnlOps.lean ====
section
/-! DEFINITION. Sys2Proof/Machine/JrnlOps.lean: the operations on the command journal, on firmware slots and on staging that the save path and
the mailbox share (15_mailbox_and_command_journal.md). -/
namespace Sys2Proof.Machine

def updMbx (f : Mbx → Mbx) (c : Ctl) : Ctl := { c with mbx := f c.mbx }

/-- Make an entry in STATE accepted; answers its SEQ. -/
def journalOpen (opcode : Nat) (h : HeadId) (tag era inCrc : Nat) (c : Ctl) : Ctl :=
  updMbx (fun m => { m with
    jrnl := (⟨m.nextSeq, opcode, tag, era, h, false, 0, 0, 0, nowNs c, inCrc, 0⟩ :: m.jrnl).take 4096, nextSeq := m.nextSeq + 1 }) c

/-- Complete the entry of a SEQ. -/
def journalClose (seq st status rc out : Nat) (applied : Bool) (c : Ctl) : Ctl :=
  updMbx (fun m => { m with jrnl := m.jrnl.map (fun e =>
    if e.seq = seq then { e with st := st, status := status, rc := rc, out := out, applied := applied } else e) }) c

def setFwSlot (n : Nat) (p : Option FwPackage) (c : Ctl) : Ctl :=
  if n = 1 then { c with ef := { c.ef with fw1 := p } } else if n = 2 then { c with ef := { c.ef with fw2 := p } } else c

/-- A transfer or a staging in progress is cut off: the slot, or the inactive copy, is left invalid (R59, R406). -/
def abortXfer (c : Ctl) : Ctl :=
  match c.mbx.xfer with
  | none => c
  | some x => setFwSlot x.slot none (updMbx (fun m => { m with xfer := none }) c)

def staging (c : Ctl) : Bool := decide (1 ≤ c.mbx.stage.st) && decide (c.mbx.stage.st ≤ 3)

def abortStage (alert : Bool) (c : Ctl) : Ctl :=
  if staging c then
    let c := updMbx (fun m => { m with stage := { m.stage with st := 5 } }) c
    if alert then vendorAlert 3 c else c
  else c

end Sys2Proof.Machine
end

