-- ==== Sys2Proof/Machine/FlashOps.lean ====
section
/-! DEFINITION. Sys2Proof/Machine/FlashOps.lean: the geometry of the Last and of NAND (R196, R197, R249, R253, R261, R265), the ready slots
(R199, R264), and the operations on ways, blocks, Sole lists and copy units that several commands share (10_flash_subsystem.md). -/
namespace Sys2Proof.Machine

/-! Geometry of the Last (R196, R197, R199). -/

/-- K, n_u and the slots of the Last. -/
def setCount (c : Ctl) : Nat := getF Reg.SAV_LAST_CFG.SETS c
def unitsPerSlot (c : Ctl) : Nat := if getF Reg.SAV_LAST_CFG.UNITS c = 1 then 64 else 32
/-- U, the payload of a unit in bytes. -/
def unitBytes (c : Ctl) : Nat := 2097152 / unitsPerSlot c
/-- The die of a set. -/
def setDie (c : Ctl) (k : Nat) : Nat := if k < setCount c / 2 then 0 else 1
def slotDie (c : Ctl) (s : Nat) : Nat := setDie c (s % setCount c)

/-- The position of member `m` of row `r`: the parity channel of the row is left out. -/
def memberPos (r m : Nat) : Nat := if m < r % 16 then m else m + 1
/-- The key of a unit: set, row and position. -/
def unitKey (k r pos : Nat) : Nat := k * 16777216 + r * 16 + pos
def keySet (key : Nat) : Nat := key / 16777216
def keyRow (key : Nat) : Nat := key % 16777216 / 16
def keyPos (key : Nat) : Nat := key % 16
def isParity (key : Nat) : Bool := keyPos key == keyRow key % 16

/-- The data unit number of unit `u` of slot `s` within its set. -/
def dataIndex (c : Ctl) (s u : Nat) : Nat := s / setCount c * unitsPerSlot c + u
/-- The key of unit `u` of slot `s`. -/
def placeUnit (c : Ctl) (s u : Nat) : Nat :=
  let i := dataIndex c s u
  unitKey (s % setCount c) (i / 15) (memberPos (i / 15) (i % 15))
/-- The slot that holds data unit `i` of set `k`. -/
def slotOfIndex (c : Ctl) (k i : Nat) : Nat := i / unitsPerSlot c * setCount c + k
/-- The channel of position `pos` of set `k`: sets alternate between the halves of their die. -/
def setChannel (c : Ctl) (k pos : Nat) : Nat :=
  let k' := k % (setCount c / 2)
  setDie c k * 32 + k' % 2 * 16 + pos
def setWay (c : Ctl) (k : Nat) : Nat := k % (setCount c / 2) / 2
/-- The rows that a slot touches. -/
def slotRows (c : Ctl) (s : Nat) : List Nat :=
  let lo := dataIndex c s 0 / 15
  let hi := dataIndex c s (unitsPerSlot c - 1) / 15
  (List.range (hi + 1 - lo)).map (fun n => lo + n)

/-- The first shadow slot (R198). -/
def firstShadow (c : Ctl) : Nat := slotTotal c - sShadow c

/-- The frame of a slot, through the slot-to-frame map. -/
def slotFrame (c : Ctl) (s : Nat) : Option Nat := (c.dtk.frames.find? (fun e => e.2.slot == some s)).map (·.1)

/-! Sole sets (R234). -/

/-- A held image lies in the Sole set. -/
def setHeld (c : Ctl) (b : Bool) : Bool :=
  (match c.images.newest with | some m => m.setB == b | none => false)
  || (match c.images.carried with | some m => m.setB == b | none => false)

/-- Both sets hold images: no slot is ready and a save programs nothing. -/
def bothHeld (c : Ctl) : Bool := setHeld c false && setHeld c true

/-- The Last in use moves to a set that holds no image; it stays where it is when that set is free. -/
def placeLast (c : Ctl) : Ctl :=
  if setHeld c c.save.lastB then { c with save := { c.save with lastB := !c.save.lastB } } else c

/-! Ways and blocks (R248, R251, R275). A way key is channel × 8 + way. -/

def diesPerChan (c : Ctl) : Nat := cfgF c Img.DIES
def blocksPerDie (c : Ctl) : Nat := cfgF c Img.BLOCKS
def pagesPerBlock (c : Ctl) : Nat := cfgF c Img.WORDLINES
def wayKey (ch way : Nat) : Nat := ch * 8 + way
def wayChan (wk : Nat) : Nat := wk / 8
/-- The save die of a way. -/
def wayDie (wk : Nat) : Nat := wk / 256
def wayAt (c : Ctl) (wk : Nat) : Way := mapGet Way.init c.flash.ways wk
def updFlash (f : Flash → Flash) (c : Ctl) : Ctl := { c with flash := f c.flash }
def updWay (wk : Nat) (f : Way → Way) (c : Ctl) : Ctl := updFlash (fun x => { x with ways := mapUpd Way.init x.ways wk f }) c
def flcState (c : Ctl) (ch : Nat) : Nat := getF (Reg.FLC_STATUS.STATE ch) c

/-- The die is failed, or its channel is (R260, R278). -/
def wayFailed (c : Ctl) (wk : Nat) : Bool := (wayAt c wk).state == 2 || flcState c (wayChan wk) == 5

def blockKey (wk b : Nat) : Nat := wk * 2048 + b
def blockAt (c : Ctl) (wk b : Nat) : BlockRec := mapGet BlockRec.init c.flash.blocks (blockKey wk b)
def updBlock (wk b : Nat) (f : BlockRec → BlockRec) (c : Ctl) : Ctl :=
  updFlash (fun x => { x with blocks := mapUpd BlockRec.init x.blocks (blockKey wk b) f }) c

/-- Table log entries are appended, to be programmed with the next log page (R254). -/
def logTable (d n : Nat) (c : Ctl) : Ctl :=
  updFlash (fun x => if d = 0 then { x with log0 := x.log0 + n } else { x with log1 := x.log1 + n }) c

/-- The free copy-pool blocks of a die; one with programmed pages waits for its erase (R220). -/
def freeBlocks (c : Ctl) (wk : Nat) : List Nat := (List.range (blocksPerDie c)).filter (fun b => (blockAt c wk b).pool == 0 && (blockAt c wk b).pages == 0)

/-- The free copy-pool block with the lowest erase count (R276). -/
def youngest (c : Ctl) (wk : Nat) : Option Nat :=
  (freeBlocks c wk).foldl (fun best b => match best with
    | none => some b
    | some x => if (blockAt c wk b).erases < (blockAt c wk x).erases then some b else some x) none

/-! Sole lists and ready slots (R199, R261, R264). -/

/-- The largest number of stripe rows of any set, and the die positions of one set layout (R253). -/
def setRows (c : Ctl) : Nat := ((slotTotal c + setCount c - 1) / setCount c * unitsPerSlot c + 14) / 15
def pSet (c : Ctl) : Nat := 17 * ((setRows c + 15) / 16)
/-- Entries of a Sole block list. -/
def soleEntries (c : Ctl) : Nat := (2 * pSet c + pagesPerBlock c - 1) / pagesPerBlock c

/-- The die position of a row, and of the spare die-slot of the block of 16 rows it lies in (R196). -/
def diePos (r : Nat) : Nat := r + r / 16
def sparePos (b : Nat) : Nat := 17 * b + 16

def soleKey (wk : Nat) (setB : Bool) : Nat := wk * 2 + b2n setB
def soleList (c : Ctl) (wk : Nat) (setB : Bool) : SoleList := mapGet SoleList.init c.flash.sole (soleKey wk setB)
def updSole (wk : Nat) (setB : Bool) (f : SoleList → SoleList) (c : Ctl) : Ctl :=
  updFlash (fun x => { x with sole := mapUpd SoleList.init x.sole (soleKey wk setB) f }) c

/-- The way of position `pos` of set `k`, and of the same position of its fallback set on the other die. -/
def memberWay (c : Ctl) (k pos : Nat) : Nat := wayKey (setChannel c k pos) (setWay c k)
def fallbackWay (c : Ctl) (k pos : Nat) : Nat := wayKey ((setChannel c k pos + 32) % 64) (setWay c k)
/-- The 16 ways beside a way: those of its save set, which are also those of the fallback set it hosts. -/
def peers (wk : Nat) : List Nat := (List.range 16).map (fun n => wayKey (wayChan wk / 16 * 16 + n) (wk % 8))
def failedPeers (c : Ctl) (wk : Nat) : Nat := ((peers wk).filter (wayFailed c)).length

/-- A position counts as ready: its block is erased and checked, or its die is the only failed one of its set; with a second failed die no
position of the set is ready (R264). -/
def posReady (c : Ctl) (setB : Bool) (wk p : Nat) : Bool :=
  decide (failedPeers c wk ≤ 1) && (wayFailed c wk
    || match (soleList c wk setB).entries[p / pagesPerBlock c]? with
      | some b => (blockAt c wk b).erased
      | none => false)

/-- The positions that R199 names for a slot: its data units, the parity units of its rows, and the spare die-slots of their blocks. -/
def slotPositions (c : Ctl) (s : Nat) : List (Nat × Nat) :=
  let rows := slotRows c s
  (List.range (unitsPerSlot c)).map (fun u => let k := placeUnit c s u; (keyPos k, diePos (keyRow k)))
  ++ rows.map (fun r => (r % 16, diePos r))
  ++ ((rows.map (· / 16)).eraseDups.flatMap (fun b => (List.range 16).map (fun pos => (pos, sparePos b))))

/-- A slot of the Last in use is ready. With one save die in service only the positions on it count (R215). -/
def lastReady (c : Ctl) (s : Nat) : Bool :=
  let k := s % setCount c
  let d := setDie c k
  (slotPositions c s).all (fun e =>
    (!dieInService c d || posReady c c.save.lastB (memberWay c k e.1) e.2)
    && (!dieInService c (1 - d) || posReady c c.save.lastB (fallbackWay c k e.1) (pSet c + e.2)))

/-- The slot holds content that a save would take: a frame, or the shadow pool. -/
def slotFilled (c : Ctl) (s : Nat) : Bool := slotUsed c s || decide (firstShadow c ≤ s)

/-- The ready bits of the Last in use (R173, R234): a filled slot stays ready. -/
def readyBits (c : Ctl) : Nat :=
  if bothHeld c || !anyDie c then 0
  else (List.range (slotTotal c)).foldl (fun m s => if lastReady c s || (c.dtk.ready.testBit s && slotFilled c s) then bitSet m s else m) 0

/-- The lowest slot that an entry of a die's Sole list serves, by its own positions or its fallback positions (R262). -/
def entrySlots (c : Ctl) (wk i : Nat) : List Nat :=
  (List.range (slotTotal c)).filter (fun s =>
    let k := s % setCount c
    (slotPositions c s).any (fun e =>
      (memberWay c k e.1 == wk && e.2 / pagesPerBlock c == i) || (fallbackWay c k e.1 == wk && (pSet c + e.2) / pagesPerBlock c == i)))

/-- Where a block stands in a die's Sole lists: the set and the entry. -/
def soleEntryOf (c : Ctl) (wk b : Nat) : Option (Bool × Nat) :=
  match (soleList c wk false).entries.findIdx? (· == b) with
  | some i => some (false, i)
  | none => ((soleList c wk true).entries.findIdx? (· == b)).map (fun i => (true, i))

/-- A Sole block is taken out of its place (R263, R274): an erased spare, or else the youngest copy-pool block, is swapped into its entry.
Answers no change when neither exists. -/
def replaceSole (wk b : Nat) (c : Ctl) : Ctl :=
  match soleEntryOf c wk b with
  | none => c
  | some (setB, i) =>
    let l := soleList c wk setB
    match l.spares with
    | x :: rest => logTable (wayDie wk) 1 (updSole wk setB (fun l => { l with entries := l.entries.set i x, spares := rest }) c)
    | [] =>
      match youngest c wk with
      | none => c
      | some x => logTable (wayDie wk) 1 (updBlock wk x (fun r => { r with pool := if setB then 3 else 2, erased := false })
          (updSole wk setB (fun l => { l with entries := l.entries.set i x }) c))

/-! The copy area (R265, R266, R268). A stripe group is numbered die × 4 + group within the die. -/

def groupWays (c : Ctl) (g : Nat) : List Nat :=
  let w := diesPerChan c
  let h := (w + 1) / 2
  (List.range w).filter (fun x => decide (g % 4 / 2 * h ≤ x) && decide (x < (g % 4 / 2 + 1) * h))
def groupChans (g : Nat) : List Nat := (List.range 16).map (fun n => g / 4 * 32 + g % 2 * 16 + n)
def groupKeys (c : Ctl) (g : Nat) : List Nat := (groupWays c g).flatMap (fun w => (groupChans g).map (fun ch => wayKey ch w))
def groupExists (c : Ctl) (g : Nat) : Bool := !(groupWays c g).isEmpty
def groupFailed (c : Ctl) (g : Nat) : Bool := (groupKeys c g).any (wayFailed c)
def groupCount (c : Ctl) : Nat := if diesPerChan c ≤ 1 then 4 else 8
/-- The group of a way. -/
def groupOfWay (c : Ctl) (wk : Nat) : Nat :=
  wayDie wk * 4 + wayChan wk / 16 % 2 + (if wk % 8 < (diesPerChan c + 1) / 2 then 0 else 2)

/-- Superblocks that a way of a group can form from its free blocks; none while one of its dies is failed. -/
def freeSbsOfWay (c : Ctl) (g w : Nat) : Nat :=
  if (groupChans g).any (fun ch => wayFailed c (wayKey ch w)) then 0 else (groupChans g).foldl (fun n ch => min n (freeBlocks c (wayKey ch w)).length) (blocksPerDie c)
def freeSbs (c : Ctl) (g : Nat) : Nat := ((groupWays c g).map (freeSbsOfWay c g)).sum

/-- Data pages per copy row, and copy units per superblock. -/
def rowPages (c : Ctl) : Nat := 15 * cfgF c Img.PLANES * cfgF c Img.BITS
def sbUnits (c : Ctl) : Nat := pagesPerBlock c * rowPages c / 128

def logicalUnits (c : Ctl) : Nat := (4 * frameCount c + groupCount c - 1) / groupCount c
/-- LOC of a logical unit (R185): bits 1:0 the group within the die, bit 2 the die, then the unit. -/
def locOf (g unit : Nat) : Nat := g + unit * 8
def groupUnits (c : Ctl) (g : Nat) : AMap CopyUnit := c.flash.units.filter (fun e => e.1 % 8 == g)
def freeUnits (c : Ctl) (g : Nat) : Nat := logicalUnits c - (groupUnits c g).length
def freeUnit (c : Ctl) (g : Nat) : Option Nat := firstFrom (fun n => (mapFind c.flash.units (locOf g n)).isNone) 0 (logicalUnits c)

/-- The open superblock of a group, for copies or for relocation. -/
def openSb (c : Ctl) (g : Nat) (reloc : Bool) : Option (Nat × Superblock) :=
  c.flash.sbs.find? (fun e => e.2.group == g && e.2.reloc == reloc && !e.2.closed)
def sbRoom (c : Ctl) (x : Superblock) : Bool := decide ((x.pages + 127) / 128 < sbUnits c)

/-- The group can take a new copy (R180, R264, R271). -/
def groupHasUnit (c : Ctl) (g : Nat) : Bool :=
  groupExists c g && !groupFailed c g && decide (0 < freeUnits c g)
  && ((match openSb c g false with | some e => sbRoom c e.2 | none => false) || decide (2 < freeSbs c g))

/-- Form a superblock of a group from the youngest free block of each of 16 dies of one way. -/
def formSb (g : Nat) (reloc : Bool) (c : Ctl) : Ctl :=
  match (groupWays c g).find? (fun w => decide (0 < freeSbsOfWay c g w)) with
  | none => c
  | some w =>
    let blocks := (groupChans g).map (fun ch => (youngest c (wayKey ch w)).getD 0)
    let c := ((groupChans g).zip blocks).foldl (fun c e => updBlock (wayKey e.1 w) e.2 (fun r => { r with pool := 1 }) c) c
    logTable (g / 4) 1 (updFlash (fun x => { x with sbs := mapPut x.sbs x.nextSb ⟨g, w, blocks, 0, 0, false, reloc⟩, nextSb := x.nextSb + 1 }) c)

def updSb (id : Nat) (f : Superblock → Superblock) (c : Ctl) : Ctl :=
  updFlash (fun x => { x with sbs := x.sbs.map (fun e => if e.1 = id then (e.1, f e.2) else e) }) c

/-- The next place for a copy unit in the open superblock of a group: a full one is closed and another formed. -/
def takePlace (g : Nat) (reloc : Bool) (c : Ctl) : Option (Nat × Nat) × Ctl :=
  let c := match openSb c g reloc with
    | some (id, x) => if sbRoom c x then c else formSb g reloc (updSb id (fun x => { x with closed := true }) c)
    | none => formSb g reloc c
  match openSb c g reloc with
  | some (id, x) =>
    let i := (x.pages + 127) / 128
    (some (id, i), updSb id (fun x => { x with pages := (i + 1) * 128 }) c)
  | none => (none, c)

/-- Every row that unit `i` of a superblock touches has passed, parity members included (R266). -/
def placePassed (c : Ctl) (x : Superblock) (i : Nat) : Bool :=
  let n := rowPages c
  let lo := i * 128 / n
  let hi := (i * 128 + 127) / n
  (List.range ((hi + 1 - lo) * 16)).all (fun j => x.rowsDone.testBit (lo * 16 + j))

def unitPassed (c : Ctl) (id i : Nat) : Bool := match mapFind c.flash.sbs id with | some x => placePassed c x i | none => false

/-- Units whose rows have passed are programmed. -/
def markProgrammed (c : Ctl) : Ctl :=
  updFlash (fun x => { x with units := x.units.map (fun e => if unitPassed c e.2.sb e.2.index then (e.1, { e.2 with programmed := true }) else e) }) c

/-- A logical unit is freed (R270); a relocation of it is discarded. -/
def releaseUnit (loc : Nat) (c : Ctl) : Ctl := updFlash (fun x => { x with units := mapErase x.units loc }) c

/-! Engines (R255, R257, R258, R260). -/

def slotsFor (c : Ctl) (op : AwlOp) (pslc : Bool) (count : Nat) : Nat :=
  match op with
  | .programUnit => 1
  | .programWl => (cfgF c Img.PLANES * cfgF c Img.BITS + 3) / 4
  | .read => (cfgF c Img.PLANES * count + 3) / 4
  | .eraseCheck => if pslc then (cfgF c Img.PLANES * 2 + 3) / 4 else 1
  | _ => 0

def bufUsed (c : Ctl) (ch : Nat) : Nat := mapGet 0 c.flash.bufUsed ch
def setBuf (ch n : Nat) (c : Ctl) : Ctl := updFlash (fun x => { x with bufUsed := mapSet 0 x.bufUsed ch n }) c

/-- What a way may run now: save work only in Saving, and nothing that waits for its log page. -/
def mayRun (c : Ctl) (d : Desc) : Bool := !d.needLog && (c.op != .saving || d.cls == 2)

/-- The next descriptor of a way: the lowest class, the oldest within it. -/
def nextDesc (c : Ctl) (q : List Desc) : Option Desc :=
  (q.filter (mayRun c)).foldl (fun best d => match best with
    | none => some d
    | some x => if d.cls < x.cls then some d else some x) none

/-- Take one occurrence of a descriptor out of a queue. -/
def takeDesc (d : Desc) : List Desc → List Desc
  | [] => []
  | x :: xs => if x = d then xs else x :: takeDesc d xs

/-- A way that is idle starts its next descriptor; a suspended operation goes on unless a class 1 read waits. -/
def runWay (wk : Nat) (c : Ctl) : Ctl :=
  let w := wayAt c wk
  if w.running.isSome then c
  else match w.suspended, nextDesc c w.queue with
    | some s, some d =>
      if d.cls = 1 then updWay wk (fun w => { w with running := some d, queue := takeDesc d w.queue, timedOut := false }) c
      else updWay wk (fun w => { w with running := some s, suspended := none, timedOut := false }) c
    | some s, none => updWay wk (fun w => { w with running := some s, suspended := none, timedOut := false }) c
    | none, some d => updWay wk (fun w => { w with running := some d, queue := takeDesc d w.queue, timedOut := false }) c
    | none, none => c

/-- An operation that a class 1 read suspends: a program or an erase of class 2 or lower priority, but no pseudo-SLC save program (R258). -/
def suspendable (c : Ctl) (d : Desc) : Bool :=
  decide (2 ≤ d.cls) && (d.op == .programWl || d.op == .erase || (d.op == .programUnit && c.op != .saving))

/-- A class 1 read takes its die at once when it can. -/
def preempt (wk : Nat) (c : Ctl) : Ctl :=
  let w := wayAt c wk
  match w.running, w.suspended, w.queue.find? (fun d => d.cls == 1 && d.op == .read) with
  | some r, none, some d =>
    if suspendable c r && mayRun c d then
      addF (Reg.FLC_SUSPEND.COUNT (wayChan wk)) (updWay wk (fun w => { w with running := some d, suspended := some r, queue := takeDesc d w.queue, timedOut := false }) c)
    else c
  | _, _, _ => c

/-- Buffer slots that a descriptor takes anew: the rewrite of a failed unit uses the slot its data still holds (R255). -/
def newSlots (c : Ctl) (wk : Nat) (d : Desc) : Nat := if d.op == .programUnit && (wayAt c wk).held.contains d.tag then 0 else d.slots

/-- The engine can take a descriptor: its die is in use, its channel active, and a queue entry and the buffer slots are free; otherwise the
source waits. In Saving it takes save work only. -/
def canTake (c : Ctl) (wk : Nat) (d : Desc) : Bool :=
  let ch := wayChan wk
  dieInService c (wayDie wk) && (wayAt c wk).state == 1 && (flcState c ch == 2 || flcState c ch == 4)
  && decide ((wayAt c wk).queue.length < 16) && decide (bufUsed c ch + newSlots c wk d ≤ 24) && (c.op != .saving || d.cls == 2)

def submit (wk : Nat) (d : Desc) (c : Ctl) : Ctl :=
  if canTake c wk d then
    preempt wk (runWay wk (setBuf (wayChan wk) (bufUsed c (wayChan wk) + newSlots c wk d)
      (updWay wk (fun w => { w with queue := w.queue ++ [d], held := w.held.erase d.tag }) c)))
  else c

/-- Buffer slots that the work of a way holds. -/
def wayHeld (c : Ctl) (wk : Nat) : Nat :=
  let w := wayAt c wk
  ((w.queue ++ w.running.toList ++ w.suspended.toList).map (fun d => d.slots)).sum + w.held.length

/-- The die fails (R260): it keeps no work, and a second failed die of its set is told. -/
def failWay (wk : Nat) (c : Ctl) : Ctl :=
  if (wayAt c wk).state = 2 then c
  else
    let c := logEvent 0x0701 7 2 (wayChan wk + wk % 8 * 256) (setBuf (wayChan wk) (bufUsed c (wayChan wk) - wayHeld c wk) (updWay wk (fun w => { w with state := 2, queue := [], running := none, suspended := none, held := [] }) c))
    let c := logTable (wayDie wk) 1 c
    if failedPeers c wk = 2 then
      logEvent 0x0705 7 3 (wayDie wk * (setCount c / 2) + wk % 8 * 2 + wayChan wk / 16 % 2) c
    else c

/-- A block is retired to grown bad (R274): a Sole block is replaced, a block of a superblock gives its place to a replacement. A die with
more than 10 % of its blocks retired fails. -/
def retire (wk b cause : Nat) (c : Ctl) : Ctl :=
  let r := blockAt c wk b
  if r.pool = 5 ∨ r.pool = 6 then c
  else
    let c := if r.pool = 2 ∨ r.pool = 3 then replaceSole wk b c else c
    let c := updBlock wk b (fun r => { r with pool := 5, erased := false, cause := cause }) c
    let c := match c.flash.sbs.find? (fun e => decide (r.pool = 1) && e.2.way == wk % 8 && (e.2.blocks.zip (groupChans e.2.group)).contains (b, wayChan wk)) with
      | none => c
      | some (id, _) =>
        match youngest c wk with
        | none => c
        | some x => updBlock wk x (fun r => { r with pool := 1 })
            (updSb id (fun s =>
              let blocks := (s.blocks.zip (groupChans s.group)).map (fun e => if e = (b, wayChan wk) then x else e.1)
              { s with blocks := blocks }) c)
    let c := logTable (wayDie wk) 1 (logEvent 0x0703 7 1 (wayChan wk + wk % 8 * 256 + b * 65536 + cause * 4294967296) c)
    let bad := (c.flash.blocks.filter (fun e => e.1 / 2048 == wk && e.2.pool == 5)).length
    if blocksPerDie c < bad * 10 then failWay wk c else c

/-! Superblocks that close (R259, R266). -/

/-- The superblock that holds a block. -/
def sbOfBlock (c : Ctl) (wk b : Nat) : Option (Nat × Superblock) :=
  c.flash.sbs.find? (fun e => e.2.way == wk % 8 && (e.2.blocks.zip (groupChans e.2.group)).contains (b, wayChan wk))

/-- A superblock closes at a row: its unprogrammed wordlines from there on stay unused. -/
def closeSbAt (id row : Nat) (c : Ctl) : Ctl := updSb id (fun x => { x with closed := true, pages := min x.pages (row * rowPages c) }) c

/-- What an operation leaves that was stopped (R259). -/
def abortedOp (wk : Nat) (d : Desc) (c : Ctl) : Ctl :=
  match d.op with
  | .erase => updBlock wk d.block (fun r => { r with erased := false }) c
  | .eraseCheck => updBlock wk d.block (fun r => { r with erased := false }) c
  | .programWl => (match sbOfBlock c wk d.block with | some e => closeSbAt e.1 d.page c | none => c)
  | _ => c

/-! Wear (R277). -/

/-- The highest erase count of a save die's copy pool, or of its Sole sets. -/
def poolMax (c : Ctl) (d : Nat) (sole : Bool) : Nat :=
  (c.flash.blocks.filter (fun e => e.1 / 2048 / 256 == d && (if sole then e.2.pool == 2 || e.2.pool == 3 else e.2.pool == 0 || e.2.pool == 1))).foldl
    (fun n e => max n e.2.erases) 0
/-- COPY_PCT and SOLE_PCT of a save die. -/
def copyPct (c : Ctl) (d : Nat) : Nat := if cfgF c Img.PE_NAT = 0 then 0 else min 255 (100 * poolMax c d false / cfgF c Img.PE_NAT)
def solePct (c : Ctl) (d : Nat) : Nat := if cfgF c Img.PE_SLC = 0 then 0 else min 255 (100 * poolMax c d true / cfgF c Img.PE_SLC)
/-- The flash wear figure: the larger of the two, over both save dies, limited to 100. -/
def wearFigure (c : Ctl) : Nat := min 100 (max (max (copyPct c 0) (solePct c 0)) (max (copyPct c 1) (solePct c 1)))

/-- A block's new erase count is appended to the table log; the figure reaching 90 records a Warning event. -/
def countErase (wk b : Nat) (c : Ctl) : Ctl :=
  let was := wearFigure c
  let c := logTable (wayDie wk) 1 (updBlock wk b (fun r => { r with erases := min 0xFFFFF (r.erases + 1), erased := false }) c)
  if was < 90 ∧ 90 ≤ wearFigure c then
    logEvent 0x0704 7 2 (max (copyPct c 0) (copyPct c 1) + max (solePct c 0) (solePct c 1) * 256) c
  else c

/-! Format (R253, R254). -/

/-- A factory bad block: a bad plane makes its whole block bad (R250). -/
def factoryBad (c : Ctl) (wk b : Nat) : Bool :=
  match c.cfg with
  | some m => m.badBlocks.any (fun e => e.channel * 8 + e.way == wk && e.block == b)
  | none => false

/-- System region blocks of a die: base slots, journal ring and table area on way 0, and the seal area on half 0 (R253). -/
def systemBlocks (wk : Nat) : Nat :=
  if wk % 8 ≠ 0 then 0 else if wayChan wk / 16 % 2 = 0 then 10 else 6

/-- The pools of a die after a format: the lowest good blocks go to the system region and the Sole sets A and B, which the core erases and
checks (log entry 23); the others form the copy pool. -/
def formatWay (wk : Nat) (c : Ctl) : Ctl :=
  let good := (List.range (blocksPerDie c)).filter (fun b => !factoryBad c wk b)
  let n := soleEntries c + cfgF c Img.SOLE_SPARE
  let sys := good.take (systemBlocks wk)
  let setA := (good.drop (systemBlocks wk)).take n
  let setB := (good.drop (systemBlocks wk + n)).take n
  let poolOf := fun b => if factoryBad c wk b then 6 else if sys.contains b then 4 else if setA.contains b then 2 else if setB.contains b then 3 else 0
  let rec_ := fun b => let p := poolOf b; if p = 0 then BlockRec.init else if p = 6 then { BlockRec.init with pool := 6 } else { BlockRec.init with erases := 1, pool := p, pslc := true, erased := true }
  let entries := (List.range (blocksPerDie c)).map (fun b => (blockKey wk b, rec_ b))
  let m := soleEntries c
  updSole wk false (fun _ => ⟨setA.take m, setA.drop m⟩) (updSole wk true (fun _ => ⟨setB.take m, setB.drop m⟩)
    (updFlash (fun x =>
      let below := x.blocks.filter (fun e => decide (e.1 / 2048 < wk))
      let above := x.blocks.filter (fun e => decide (wk < e.1 / 2048))
      { x with blocks := below ++ entries.filter (fun e => e.2 != BlockRec.init) ++ above }) c))

/-- The ways of a save die that the configuration populates. -/
def dieWays (c : Ctl) (d : Nat) : List Nat :=
  (List.range 32).flatMap (fun n => (List.range (diesPerChan c)).map (fun w => wayKey (d * 32 + n) w))

/-- The core formats its save die: a failed die is in use again, but a lagging mark stays until its check passes (R206); block table and Sole lists anew, no copy unit, no superblock, an empty journal region, a first
checkpoint. -/
def formatDie (d : Nat) (c : Ctl) : Ctl :=
  let c := updFlash (fun x => { x with
    units := x.units.filter (fun e => decide (e.1 / 4 % 2 ≠ d)), sbs := x.sbs.filter (fun e => decide (e.2.group / 4 ≠ d)), reclaiming := [] }) c
  let c := { c with weltNv := if d = 0 then { c.weltNv with die0 := WeltDie.init } else { c.weltNv with die1 := WeltDie.init } }
  let c := (dieWays c d).foldl (fun c wk => formatWay wk (updWay wk (fun w => { Way.init with state := if w.state = 0 then 0 else 1, lag := w.lag, median := w.median, lagged := w.lagged, passed := w.passed }) c)) c
  updFlash (fun x => if d = 0 then { x with ckpt0 := true, log0 := 0 } else { x with ckpt1 := true, log1 := 0 }) c

end Sys2Proof.Machine
end

