-- ==== Sys2Proof/Machine/Page.lean ====
section
/-! DEFINITION. Sys2Proof/Machine/Page.lean: the bytes of NAND pages with their metadata, seal and codewords (R202, R220, R252, R267), of the slot
table and of the seal record (R218), and what of a save image can be read (R241, R242, R273). -/
namespace Sys2Proof.Machine

/-! Pages (R202, R220, R252). -/

/-- The IV of a page: erase count, die, channel within the die, way, block, page and plane (R220). -/
def ivOf (p : Place) (plane : Nat) : Nat :=
  p.erases * 2 ^ 64 + wayDie p.way * 2 ^ 42 + wayChan p.way % 32 * 2 ^ 37 + p.way % 8 * 2 ^ 34 + p.block % 1048576 * 2 ^ 14 + p.page % 4096 * 4 + plane % 4

/-- Bytes 0x00 to 0x3F of the metadata: four words, POISON_COUNT, KEY_GEN, the eight bytes at 0x14, the CRC and the poison bitmap. -/
def metaHead (w0 w1 w2 w3 count keyGen w14 poison : Nat) : List Byte :=
  let h := leBytes w0 4 ++ leBytes w1 4 ++ leBytes w2 4 ++ leBytes w3 4 ++ leBytes count 2 ++ leBytes keyGen 2 ++ leBytes w14 8
  h ++ leBytes (crc32 h) 4 ++ leBytes poison 32

/-- A page as it is written: the payload is encrypted under the media key with the metadata as associated data, and each of four codewords carries
4,096 payload bytes, 20 metadata bytes and 492 parity bytes. Spare bytes beyond 2,048 stay 0xFF. -/
def pageBytes (key : List Byte) (iv spare : Nat) (head payload : List Byte) : List Byte :=
  let cipher := payload.zipIdx.map (fun e => e.1 ^^^ Config.gcmStream key iv e.2)
  let meta_ := head ++ leBytes (Config.gcmTag key iv head cipher) 16
  let word := fun (k : Nat) =>
    let d := (cipher.drop (4096 * k)).take 4096 ++ (meta_.drop (20 * k)).take 20
    d ++ (List.range 492).map (Config.ldpcParity d)
  (List.range 4).flatMap word ++ List.replicate (spare - 2048) 0xFF

/-- The payload of page `n` of a content, and its poison bitmap. -/
def pagePayload (k : Content) (n : Nat) : List Byte := memReadList 0 k.cells (n * 16384) 16384
def pagePoison (k : Content) (n : Nat) : Nat := k.poison.foldl (fun m l => if l / 256 = n then bitSet m (l % 256) else m) 0

/-- The metadata of plane `p` of unit `u` of slot `s` of an image (R202). -/
def soleMeta (c : Ctl) (m : SaveImage) (s u p : Nat) (x : UnitRec) : List Byte :=
  let bits := pagePoison x.content p
  metaHead m.saveId (s % 1048576 + u % 64 * 2 ^ 20 + p % 4 * 2 ^ 26) (x.frame % 2097152 + b2n x.shadow * 2 ^ 31)
    (dataIndex c s u / 15 % 2 ^ 24 + b2n x.detour * 2 ^ 24 + b2n x.rewrite * 2 ^ 25) (popCount bits 256) m.keyGen m.csnCut bits

/-- A page of the command journal (1), of the slot table (2) or a seal record (3): page `n` of its structure. -/
def recordMeta (m : SaveImage) (kind n : Nat) : List Byte := metaHead m.saveId (n % 1048576 + kind * 2 ^ 28) 0 0 0 m.keyGen m.csnCut 0

/-- The metadata of page `n` of a copy unit (R267): its logical unit, frame, copy row and epoch. -/
def copyMeta (keyGen unit row n : Nat) (x : CopyUnit) : List Byte :=
  let bits := pagePoison x.content n
  metaHead 0xFFFFFFFF (unit % 4194304) (x.frame % 2097152) (row % 512 + n % 128 * 512) (popCount bits 256) keyGen (x.epoch % 2 ^ 48) bits

/-- A page of a data unit as flash holds it; all zero where the unit is not there. -/
def solePage (c : Ctl) (m : SaveImage) (s u p : Nat) : List Byte :=
  let x := mapGet UnitRec.init m.units (s * 64 + u)
  match x.place with
  | some q => pageBytes c.ef.mediaKey (ivOf q p) (cfgF c Img.SPARE) (soleMeta c m s u p x) (pagePayload x.content p)
  | none => List.replicate (16384 + cfgF c Img.SPARE) 0

/-- Plane `p` of the parity unit of row `r` of set `k`: the XOR of the raw pages of its data units, empty slots as zeros (R200, R202). -/
def parityPage (c : Ctl) (m : SaveImage) (fallback : Bool) (k r p : Nat) : List Byte :=
  (List.range 15).foldl (fun acc n =>
    let s := slotOfIndex c k (r * 15 + n)
    match mapFind m.table s with
    | some e => if e.fallback = fallback then acc.zipWith (fun a b => a ^^^ b) (solePage c m s ((r * 15 + n) % unitsPerSlot c) p) else acc
    | none => acc) (List.replicate (16384 + cfgF c Img.SPARE) 0)

/-! The slot table and the seal record (R218). -/

def SlotEntry.word (e : SlotEntry) : Nat :=
  e.frame % 2097152 + b2n e.fallback * 2 ^ 28 + b2n e.confirmedLost * 2 ^ 29 + b2n e.shadow * 2 ^ 30 + 2 ^ 31

def slotTableBytes (m : SaveImage) : List Byte :=
  (List.range m.slotTotal).flatMap (fun s => leBytes (match mapFind m.table s with | some e => e.word | none => 0) 4)

/-- The 16 KiB of the seal record. -/
def sealRecordBytes (m : SaveImage) : List Byte :=
  let flags := b2n m.singleDie + b2n m.fallback * 2 + (if m.fallback then m.lostDie * 4 else 0) + b2n m.keepEntry * 8 + b2n m.thermal * 16
  let detour := fun (k : Nat) => match mapFind m.detours k with | some (pos, b) => pos % 16 + 16 + b * 256 | none => 0
  let body := leBytes 0x4C535058 4 ++ leBytes 1 2 ++ leBytes m.cause 1 ++ leBytes flags 1 ++ leBytes m.saveId 8 ++ leBytes m.csnCut 8
    ++ leBytes m.leaseGen 4 ++ leBytes m.slotTotal 4 ++ leBytes m.table.length 4 ++ leBytes m.shadow 4 ++ leBytes m.jseqDurable 8
    ++ leBytes m.openEpoch 6 ++ leBytes m.keyGen 2 ++ leBytes m.moduleTime 8 ++ leBytes m.missing.length 4 ++ leBytes (crc32 (slotTableBytes m)) 4
    ++ leBytes m.duration 4 ++ leBytes 0 52 ++ (List.range 32).flatMap (fun k => leBytes (detour k) 4) ++ leBytes 0 16124
  body ++ leBytes (crc32 body) 4

/-- Positions of the seal area that a save takes on the die of the seal records: its share of the pages of the slot table and of the 128 KiB of the
command journal, and the record (log entry 136). -/
def sealPositions (c : Ctl) : Nat := (((slotTotal c * 4 + 16383) / 16384 + 8 + 15) / 16 + cfgF c Img.PLANES - 1) / cfgF c Img.PLANES + 1

/-- The ring position of the seal record that a save writes, and the position after it. -/
def sealRing (c : Ctl) (at_ : Nat) : Nat × Nat :=
  let n := 4 * pagesPerBlock c
  let last := at_ + sealPositions c - 1
  if n = 0 then (0, 0) else (last % n, (last + 1) % n)

/-! What of an image can be read (R205, R241, R242, R273). -/

/-- The key of a unit in an image: those of a fallback region are kept apart. -/
def imageKey (fallback : Bool) (key : Nat) : Nat := if fallback then key + 2 ^ 40 else key

/-- The block still holds what was programmed: since then it has not been erased, so that the IV of the page fits (R241). -/
def placeHolds (c : Ctl) (p : Place) : Bool := (blockAt c p.way p.block).erases == p.erases

/-- The slot that a member of a row of a set belongs to, if the image holds it in that region. -/
def memberSlot (c : Ctl) (m : SaveImage) (fallback : Bool) (key : Nat) : Option (Nat × Nat) :=
  let i := keyRow key * 15 + (if keyPos key < keyRow key % 16 then keyPos key else keyPos key - 1)
  let s := slotOfIndex c (keySet key) i
  match mapFind m.table s with
  | some e => if e.fallback = fallback then some (s, i % unitsPerSlot c) else none
  | none => none

/-- A member of a row cannot be read: it was left missing, or its place or its identity do not fit the image. A unit of an empty slot counts as
zeros. -/
def memberBad (c : Ctl) (m : SaveImage) (fallback : Bool) (key : Nat) : Bool :=
  let gone := m.missing.contains (imageKey fallback key)
  if isParity key then gone || (match mapFind m.parity (imageKey fallback key) with | some p => !placeHolds c p | none => true)
  else match memberSlot c m fallback key with
    | none => false
    | some (s, u) =>
      let x := mapGet UnitRec.init m.units (s * 64 + u)
      let e := mapGet ⟨0, false, false, false⟩ m.table s
      gone || x.frame != e.frame || x.shadow != e.shadow || (match x.place with | some p => !placeHolds c p | none => true)

/-- A unit of an image is lost: it cannot be read, and another member of its row cannot be read either (R242). -/
def unitLost (c : Ctl) (m : SaveImage) (fallback : Bool) (key : Nat) : Bool :=
  memberBad c m fallback key
  && (List.range 16).any (fun p => p != keyPos key && memberBad c m fallback (unitKey (keySet key) (keyRow key) p))

end Sys2Proof.Machine
end

