-- ==== Sys2Proof/Machine/SaveOps.lean ====
section
/-! DEFINITION. Sys2Proof/Machine/SaveOps.lean: save triggers and the path from detection to save start
(R192-R194), the entries into Keep, Saved, Dormant and Waking (R13), the ends of a save (R214, R216), save-die loss (R215), restarts (R70),
firmware resets (R71) and head resets (R98). -/
namespace Sys2Proof.Machine

/-! Resets (R66, R69). -/

/-- A save die's domain is reset: its registers and key register, what its engines were doing, and the table changes that no log page holds yet (R254, R268). -/
def saveDieReset (d : Nat) (c : Ctl) : Ctl :=
  let c := resetRange (0x70000 + 0x8000 * d) (0x78000 + 0x8000 * d) (resetRange (0x68000 + 0x4000 * d) (0x6C000 + 0x4000 * d) c)
  let c := { c with flash := { c.flash with
    ways := c.flash.ways.map (fun (e : Nat × Way) => if e.1 / 256 = d then (e.1, { e.2 with queue := [], running := none, suspended := none, timedOut := false }) else e)
    bufUsed := c.flash.bufUsed.filter (fun e => decide (e.1 / 32 ≠ d))
    key0 := if d = 0 then [] else c.flash.key0
    key1 := if d = 1 then [] else c.flash.key1
    units := (c.flash.units.filter (fun (e : Nat × CopyUnit) => decide (e.1 / 4 % 2 ≠ d) || e.2.logged)).map (fun (e : Nat × CopyUnit) => if e.1 / 4 % 2 = d then (e.1, { e.2 with dest := none }) else e) } }
  if d = 0 then { c with save := { c.save with die0 := DieSave.init } } else { c with save := { c.save with die1 := DieSave.init } }

/-- The requests of a head in the channels, whose responses are discarded (R99): their tag is the one that no response carries. -/
def dropTag : Nat := 4294967296
def muteReader (s : Source) (e : REntry) : REntry :=
  match e.who with
  | .source x _ => if x = s then { e with who := .source x dropTag } else e
  | _ => e

def srcOfHead (h : HeadId) : Source := if h = 0 then .h0 else .h1

/-- The completions of a source that are still to come are discarded. -/
def muteSource (s : Source) (c : Ctl) : Ctl :=
  let f := muteReader s
  { c with
    chans := c.chans.map (fun e => (e.1, { e.2 with rq := e.2.rq.map f, issued := e.2.issued.map f, waiting := e.2.waiting.map f }))
    pipe := { c.pipe with parked := c.pipe.parked.map (fun p => if p.src = s ∧ p.req.tag < dropTag then { p with req := { p.req with tag := dropTag } } else p) } }

/-- The requests of a head that have not passed Commit are discarded (R88, R99); the write of an accepted Clear Poison stays (R99). -/
def dropQueue (h : HeadId) (c : Ctl) : Ctl :=
  let keep := fun (r : Req) => decide (dropTag < r.tag)
  if h = 0 then { c with pipe := { c.pipe with q0 := c.pipe.q0.filter keep } } else { c with pipe := { c.pipe with q1 := c.pipe.q1.filter keep } }

/-- What MEM_LINK_STATUS shows of a head. -/
def linkFields (h : HeadId) : List Fld :=
  if h = 0 then [Reg.MEM_LINK_STATUS.H0_RATE, Reg.MEM_LINK_STATUS.H0_WIDTH, Reg.MEM_LINK_STATUS.H0_FLIT256, Reg.MEM_LINK_STATUS.H0_LOPT, Reg.MEM_LINK_STATUS.H0_L1]
  else [Reg.MEM_LINK_STATUS.H1_RATE, Reg.MEM_LINK_STATUS.H1_WIDTH, Reg.MEM_LINK_STATUS.H1_FLIT256, Reg.MEM_LINK_STATUS.H1_LOPT, Reg.MEM_LINK_STATUS.H1_L1]

/-- A reset of a head's CXL domain (R98, R99): link, configuration space, decoders, mailbox interface and MSI-X; requests past Commit complete
unanswered. -/
def headReset (h : HeadId) (c : Ctl) : Ctl :=
  let c := muteSource (srcOfHead h) (dropQueue h c)
  let c := updHead h (fun d => { d with decs := [], hdmErr := 0, linkUp := false, policy := 0, l23 := false, pmeWait := false, gpfWait := none, resetting := true, host := HostCfg.init, ras := [] }) c
  let c := { c with mbx := { c.mbx with doorbell := bitClr c.mbx.doorbell h.val
                                        running := c.mbx.running.map (fun o => if o.head = h then { o with tag := dropTag } else o) } }
  let c := (linkFields h).foldl (fun c f => setF f 0 c) c
  if h = 0 then setF Reg.MEM_ACCESS_STATUS.H0_VIRAL 0 (setF Reg.HUB_DOMAIN_STATUS.CXL0_UP 0 c)
  else setF Reg.MEM_ACCESS_STATUS.H1_VIRAL 0 (setF Reg.HUB_DOMAIN_STATUS.CXL1_UP 0 c)

/-! The operating state: Dormant and Waking (R13, R14, R69, R302, R317). -/

/-- In Dormant SB_ALERT_N is released and no alert waits (R28, R419). -/
def alertQuiet (c : Ctl) : Ctl := sbRelease { c with sbb := { c.sbb with alertWait := false, notify := 0, tries := 0 } }

/-- Dormant entry: the rails are down; the time base and the store snapshot pass to Heel, and the save latch clears. -/
def enterDormant (c : Ctl) : Ctl :=
  let cap := c.nrg.cap
  let lo := c.nrg.qLo.toNat
  let width := (c.nrg.qHi - c.nrg.qLo).toNat
  let c := setF Reg.HEEL_NRG_SNAP.Q_LO (lo / 10000) (setF Reg.HEEL_NRG_SNAP.VALID 1 (setF Reg.HEEL_NRG_SNAP_TIME.S (nowNs c / 1000000000)
    (setF Reg.HEEL_NRG_SNAP.BOUND (if cap = 0 then 127 else min 127 ((width * 400 + cap - 1) / cap)) c)))
  let c := setState .dormant (setF Reg.HEEL_SAVE_CAUSE.LATCHED 0 (setF Reg.NRG_STATUS.BACKUP 0 (setF Reg.HUB_DOMAIN_STATUS.CORE_RUN 0 c)))
  clkToHeel (wdiStop (sbHandoffTo false false (alertQuiet { eflReset c with
    waking := { c.waking with failed := false }
    psq := { c.psq with downs := [], up := [] } })))

/-- The registers of the sticky hub and firmware domains but for the identity of the device. -/
def hubReset (c : Ctl) : Ctl :=
  [(0x10010, 0x68000), (0x80000, 0xA0000), (0xC0000, 0xF0000), (0xF0004, 0x130000)].foldl (fun c r => resetRange r.1 r.2 c) c

/-- Waking entry (R69, R228): every domain but Heel is reset; RESTART_PENDING and input wake are cleared; slot 0 is enabled (R60). -/
def enterWaking (c : Ctl) : Ctl :=
  let clkValidNow := getF Reg.CLK_STATUS.VALID c
  let clkSteps := getF Reg.CLK_STATUS.STEPS c
  let pins : Cxl := { Cxl.init with h0 := { Head.init with perstLow := c.cxl.h0.perstLow }, h1 := { Head.init with perstLow := c.cxl.h1.perstLow } }
  let c := saveDieReset 1 (saveDieReset 0 (hubReset c))
  let c := setF Reg.CLK_STATUS.VALID clkValidNow (setF Reg.CLK_STATUS.STEPS clkSteps c)
  let c := { c with
    cfg := none, pipe := { Pipe.init with trickleAt := c.uptime }, chans := [], cal := Cal.init, dtk := Dtk.init, reel := Reel.init
    welt := Welt.init
    save := { Save.init with lastB := c.save.lastB }
    restore := Restore.init, waking := Waking.init, prd := Prd.init, guest := Guest.init
    mbx := { Mbx.init with nextSeq := c.mbx.nextSeq }
    cxl := pins, epg := Epg.init, evr := Evr.init, efl := Efl.init
    nrg := Nrg.init, sbb := { Sbb.init with addr := c.sbb.addr }
    heel := { c.heel with armed := false, thermal := false } }
  railEnable 0 (setState .waking (setF Reg.HEEL_WAKE_STATUS.RESTART_PENDING 0 c))

/-- The down order of a Waking that ends (R342). -/
def wakingDown (c : Ctl) : Ctl := startDown .waking allSlots { c with waking := { c.waking with failed := true } }

/-- Roll back to the previous firmware slot in a provisional period (R404). -/
def rollBack (c : Ctl) : Ctl :=
  if c.ef.provisional then
    vendorAlert 2 (logEvent 0x0105 1 2 c.ef.prevSlot { c with
      ef := { c.ef with bootSlot := c.ef.prevSlot, provisional := false }
      mbx := { c.mbx with rolledBack := true, provEnd := none, fwSlot := c.ef.prevSlot } })
  else c

/-- Waking fails (R62, R63, R64, R70): RESULT, step and slot; FAIL_COUNT, a TYPE 2 record and FAULT_N unless it ends by a restart (7), which is no
failed Waking; FAULT_N is not driven for an input fall (3). A failure at W4 or W5 rolls back provisional firmware (R404). -/
def wakeFail (result step : Nat) (slot : Option Nat) (c : Ctl) : Ctl :=
  if c.op = .waking ∧ !c.waking.failed then
    let c := setF Reg.HEEL_WAKE_STATUS.RESULT result (setF Reg.HEEL_WAKE_STATUS.STEP step (setF Reg.HEEL_WAKE_STATUS.SLOT (slot.getD 0)
      (setF Reg.HEEL_WAKE_STATUS.SLOT_VALID (b2n slot.isSome) (setF Reg.HEEL_WAKE_STATUS.NEW 1 c))))
    let cause := if result = 3 then 8 else match slot with | some n => (railOf c n).cause | none => 9
    let c := if result = 7 then c else railLogPut { railRec 2 cause slot c with step := step } (addF Reg.HEEL_WAKE_STATUS.FAIL_COUNT c)
    let c := if result = 7 ∨ result = 3 then c else { c with heel := { c.heel with faultLow := true } }
    let c := if result ≠ 7 ∧ (step = 4 ∨ step = 5) then rollBack c else c
    wakingDown c
  else c

/-! The ends of a save. -/

/-- Saved entry: the down order of every slot begins (R13, R342). -/
def savedEntry (c : Ctl) : Ctl := startDown .saved allSlots (goState .saved c)

/-- A save ends without a seal (R216): the rails go down, and Dormant follows the down order. -/
def endUnsealed (c : Ctl) : Ctl :=
  let c := logEvent 0x0604 6 3 (getF Reg.HEEL_SAVE_CAUSE.CAUSE c) (setF Reg.SAV_STATUS.PHASE 5 (setF Reg.HEEL_SEAL_STATUS.LAST_UNSEALED 1 c))
  startDown .saved allSlots c

/-- KEEP_WRITES ends with the image that was protected when the writes came (R246). -/
def keepWritesEnd (s : Option Seal) (c : Ctl) : Ctl :=
  match s with
  | some x => if x.isProtected then setF Reg.HEEL_RECOVERY.KEEP_WRITES 0 c else c
  | none => c

/-- Images are released (R233, R240, R452): Heel clears their seals, and their Sole sets become free. -/
def releaseImages (newest carried : Bool) (c : Ctl) : Ctl :=
  let c := keepWritesEnd (if carried then c.nv.carried else none) (keepWritesEnd (if newest then c.nv.sealed else none) c)
  let c := if newest then
      setF Reg.HEEL_SEAL_STATUS.SEALED_VALID 0 (setF Reg.HEEL_SEAL_STATUS.PROTECTED 0
        { c with nv := { c.nv with sealed := none }, images := { c.images with newest := none } }) else c
  if carried then
    setF Reg.HEEL_CARRY.CARRY_VALID 0 (setF Reg.HEEL_CARRY.CARRY_PROTECTED 0
      { c with nv := { c.nv with carried := none }, images := { c.images with carried := none } }) else c

/-- A frame that was being cleaned when its copy was stopped can be selected again in Keep (R170, R184, log entry 18). -/
def uncleanFrame (r : FrameRec) : FrameRec :=
  if r.base = .cleaning then { r with base := if r.epochPend && r.redirty then .shadowed else .dirty, redirty := false } else r

/-- Keep entry (R13, R173, R451): intake reopens, the image is protected, the Last moves to the other Sole set with every frame
slotless, and the charger may run again. -/
def keepEntry (c : Ctl) : Ctl :=
  let c := { c with
    pipe := { c.pipe with frozen := false }
    dtk := { c.dtk with frames := c.dtk.frames.map (fun e => (e.1, { uncleanFrame e.2 with slot := none })), ready := 0 } }
  let c := setF Reg.DTK_SOLE.READY 0 (setF Reg.NRG_STATUS.BACKUP 0 (setF Reg.HEEL_SAVE_CAUSE.LATCHED 0 (placeLast c)))
  let c := goState .keep (addF Reg.HEEL_DEGRADE.KEEP_ENTRIES (setF Reg.HEEL_SEAL_STATUS.PROTECTED 1 c))
  guestTryOpen (sealCheck c)

/-- The held newest image becomes the carried image: the sources that lie in it are named anew (R227, R228). -/
def sourcesCarried (r : Restore) : Restore :=
  { r with map := r.map.map (fun e => if e.2.kind = 2 ∨ e.2.kind = 3 then (e.1, { e.2 with carriedImage := true }) else e)
           carryN := [], carryC := r.carryC ++ r.carryN }

/-- The seal of R214 takes effect in the Heel NV bank: a held newest image becomes the carried image (R227). -/
def sealImage (owner us : Nat) (c : Ctl) : Ctl :=
  let m := { c.save.image with duration := us, leaseGen := getF Reg.HEEL_LEASE_GEN.GEN c, jrnl := c.mbx.jrnl, sess0 := (c.mbx.era0, c.mbx.open0), sess1 := (c.mbx.era1, c.mbx.open1) }
  let keep := decide (m.cause = 8) && !c.save.endsInSaved
  let hs : Seal := ⟨m.saveId, m.leaseGen, owner, m.cause, keep, m.singleDie || m.fallback, (sealRing c c.flash.ring0).1, (sealRing c c.flash.ring1).1⟩
  let c := updFlash (fun x => { x with ring0 := (sealRing c x.ring0).2, ring1 := (sealRing c x.ring1).2 }) c
  let c := match c.images.newest, c.nv.sealed with
    | some old, some os =>
      setF Reg.HEEL_CARRY.CARRY_VALID 1 (setF Reg.HEEL_CARRY.CARRY_PROTECTED (b2n os.isProtected) (setF Reg.HEEL_CARRY_ID.SAVE_ID os.saveId
        { c with nv := { c.nv with carried := some os }, images := { c.images with carried := some old }, restore := sourcesCarried c.restore }))
    | _, _ => c
  let c := { c with nv := { c.nv with sealed := some hs }, images := { c.images with newest := some m } }
  let c := setF Reg.HEEL_SEAL_ID.SAVE_ID m.saveId (setF Reg.HEEL_SEAL_STATUS.SEALED_VALID 1 (setF Reg.HEEL_SEAL_STATUS.LAST_UNSEALED 0
    (setF Reg.HEEL_SEAL_STATUS.SEALED_BY owner (setF Reg.HEEL_SEAL_STATUS.SINGLE_DIE (b2n hs.singleDie)
      (setF Reg.HEEL_SEAL_STATUS.PROTECTED 0 (setF Reg.HEEL_SEAL_STATUS.CAUSE m.cause (setF Reg.HEEL_RECOVERY.OPEN_MARK 0 c)))))))
  let c := setF Reg.SAV_STATUS.PHASE 4 (setF Reg.SAV_DURATION.US us c)
  let c := logEvent 0x0602 6 1 (m.cause + us * 4294967296) c
  if keep then keepEntry c else savedEntry c

/-! Save triggers (R192, R193). -/

def downAtSave (c : Ctl) : List Nat := allSlots.filter (fun n => (railCfg c n).enable && (railCfg c n).downAtSave)

/-- The trigger latch is set. -/
def setLatch (cause : Nat) (c : Ctl) : Ctl :=
  setF Reg.HEEL_SAVE_CAUSE.CAUSE cause (setF Reg.HEEL_SAVE_CAUSE.LATER 0 (setF Reg.HEEL_SAVE_CAUSE.LATCHED 1 (setF Reg.HEEL_SAVE_CAUSE.NEW 1 c)))

/-- A later trigger: its cause is kept unless one is recorded already; it turns a Keep-entry save into one that ends in Saved. -/
def laterTrigger (cause : Nat) (c : Ctl) : Ctl :=
  let c := if getF Reg.HEEL_SAVE_CAUSE.LATER c = 0 then setF Reg.HEEL_SAVE_CAUSE.LATER cause c else c
  if c.op = .saving ∧ c.save.image.cause = 8 ∧ cause ≠ 8 ∧ !c.save.endsInSaved ∧ (wholeDown c).isNone then
    startDown .atSave (downAtSave c) { c with save := { c.save with endsInSaved := true } }
  else c

/-- What a channel keeps at the save cut: the requests past Commit and the writes of its queue. Reads of the Reel cleaner, of shadow copies, of
scrub and of a media scan stop, correction write-backs are not made, and calibration applications stand (R123, R146, R152, R164, R184). -/
def cutChan (k : Chan) : Chan :=
  let stays := fun (e : REntry) => match e.who with | .source _ _ => true | .merge => true | _ => false
  { k with rq := k.rq.filter stays, waiting := k.waiting.filter stays, backs := [], applying := [] }

/-- A media scan that a save cut interrupts starts over when the device serves again (log entry 124). -/
def scanAgain (id : Nat) (l : List Fetch) : List Fetch :=
  (l.filter (fun x => x.kind == .scan)).map (fun x => { x with id := id, next := 0, done := 0 })

/-- The save cut (R123, R184): requests not past Commit are discarded, Reel copies, journal writes and calibration applications stop. -/
def saveCut (c : Ctl) : Ctl :=
  let c := setF Reg.DTK_WELT_STATUS.COMPACTING 0 { c with
    pipe := { c.pipe with q0 := [], q1 := [], qg := [], frozen := true, fetches := scanAgain c.pipe.nextId c.pipe.fetches, nextId := c.pipe.nextId + 1 }
    cxl := if c.pipe.fetches.any (fun x => x.kind == .scan) then { c.cxl with scan := [] } else c.cxl
    reel := { c.reel with copies := [] }
    welt := { c.welt with openPage := [], pages := [], compact := none, compactJseq := none }
    epg := { c.epg with sealWritten := false }
    cal := { c.cal with applying := [], inPause := none }
    chans := c.chans.map (fun e => (e.1, cutChan e.2)) }
  let c := updGuest (fun g => { g with reads := [], mmrds := [] }) c
  let c := if gstPort c = 3 then setF Reg.GST_STATUS.PORT 2 c else c
  bothHeads.foldl (fun c h => if (headOf c h).linkUp then
    setF (if h = 0 then Reg.HUB_RESET_CAUSE.CXL0_HOT else Reg.HUB_RESET_CAUSE.CXL1_HOT) 1 (headReset h c) else c) (guestCloseIntake c)

/-- The filled slots of the Last at the cut, shadow slots included (R198, R200). -/
def fillBitmap (c : Ctl) : Nat :=
  let frames := c.dtk.frames.foldl (fun m e => match e.2.slot with | some n => bitSet m n | none => m) 0
  (List.range (sShadow c)).foldl (fun m j => bitSet m (firstShadow c + j)) frames

/-- Frames can still be unrestored: in Restoring, and after a Keep entry from it until the last frame is restored (R237, log entry 105). -/
def restoreOpen (c : Ctl) : Bool := c.op == .restoring || decide (7 ≤ c.restore.step)

/-- The frames that are filled and not yet restored (R238). -/
def unrestoredFilled (c : Ctl) : List Nat :=
  if restoreOpen c then (c.dtk.frames.filter (fun e => e.2.slot.isSome && !c.dtk.restored.testBit e.1)).map (·.1) else []

/-- The image of the save that starts: what its seal record holds (R218). -/
def newImage (cause : Nat) (c : Ctl) : SaveImage :=
  { SaveImage.init with
    saveId := c.nv.saveId + 1, cause := cause, csnCut := getF Reg.MEM_CSN.CSN c, jseqDurable := getF Reg.DTK_WELT_JSEQ.JSEQ c
    openEpoch := openEpoch c, keyGen := c.ef.keyGen, moduleTime := nowNs c, slotTotal := slotTotal c, shadow := sShadow c
    singleDie := !bothDies c, keepEntry := decide (cause = 8), thermal := c.heel.thermal, shutdownDirty := c.ef.shutdownDirty, setB := c.save.lastB }

/-- A Sanitize or a Secure Erase runs or has to be resumed: a save covers nothing new (R90). -/
def eraseRuns (c : Ctl) : Bool :=
  c.ef.pendingErase != 0 || (match c.cxl.bg with | some b => b.opcode == 0x4400 || b.opcode == 0x4401 | none => false)

/-- From the latched trigger to the save-start messages (R194). A save that can program nothing ends in Saved with the held images as
they are (R90, R234); with no save die in service it ends unsealed (R448). -/
def saveStartPath (cause : Nat) (c : Ctl) : Ctl :=
  let complete := unrestoredFilled c
  let nothing := eraseRuns c || (decide (c.op = .restoring) && bothHeld c)
  let snap := fillBitmap c
  let c := saveCut (goState .saving (sleepForSave (setLatch cause c)))
  let c := eflSave (evrFlush true (abortStage false (abortXfer (wakeClear (wdiStop c)))))
  let c := setF Reg.NRG_LAST_SAVE.ENERGY 0 (setF Reg.NRG_LAST_SAVE.V_MIN 0 { c with nrg := { c.nrg with saveE := 0 } })
  let c := chargerOff (setF Reg.NRG_STATUS.BACKUP 1 c)
  let c := setF Reg.HEEL_JRNL_BASE.SEQ c.mbx.nextSeq { c with nv := { c.nv with welt := c.welt.nextJseq } }
  let c := { c with restore := { c.restore with bg0 := c.restore.bg0.filter complete.contains, bg1 := c.restore.bg1.filter complete.contains
                                                touch0 := c.restore.touch0.filter complete.contains, touch1 := c.restore.touch1.filter complete.contains } }
  if nothing then savedEntry c
  else
    let c := if cause = 8 then c else startDown .atSave (downAtSave c) c
    let img := newImage cause c
    let c := setF Reg.HEEL_RECOVERY.OPEN_MARK 1 (setF Reg.SAV_CUT_CSN.CSN img.csnCut (setF Reg.SAV_PROGRESS.CONFIRMED 0 (setF Reg.SAV_PROGRESS.MISSING 0
      (setF Reg.SAV_DETOURS.SETS 0 (setF Reg.SAV_STATUS.FALLBACK 0 (setF Reg.SAV_STATUS.PHASE 1 (setF Reg.SAV_STATUS.SINGLE_DIE (b2n (!bothDies c)) c)))))))
    let c := { c with
      nv := { c.nv with saveId := c.nv.saveId + 1 }
      save := { c.save with snap := snap, confirm := 0, die0 := DieSave.init, die1 := DieSave.init, image := img, endsInSaved := false, complete := complete } }
    if anyDie c then
      [0, 1].foldl (fun c d => if dieInService c d then sendLink d .saveStart (img.csnCut :: img.saveId :: complete) [] c else c) c
    else endUnsealed c

/-- A save trigger (R192, R193), by the rows of R13. In Keep it leads to Saved without a new save. -/
def saveTrigger (cause : Nat) (c : Ctl) : Ctl :=
  if getF Reg.HEEL_SAVE_CAUSE.LATCHED c = 1 then laterTrigger cause c
  else match c.op with
    | .restoring => saveStartPath cause c
    | .serving => saveStartPath cause c
    | .derated => saveStartPath cause c
    | .keep =>
      if cause = 8 then c
      else
        let c := saveCut (goState .saved (sleepForSave (setLatch cause c)))
        let c := eflSave (evrFlush true (abortStage false (abortXfer (wakeClear (wdiStop c)))))
        let c := setF Reg.HEEL_JRNL_BASE.SEQ c.mbx.nextSeq (setF Reg.HEEL_DEGRADE.RELEASE_PENDING 0 { c with nv := { c.nv with welt := c.welt.nextJseq } })
        startDown .saved allSlots (chargerOff c)
    | _ => c

/-- A Keep cause (R446, R447): its bit is set, and in Restoring after early service, Serving and Derated a Keep-entry save starts. -/
def keepCause (bit : Nat) (c : Ctl) : Ctl :=
  let mark := setF Reg.HEEL_DEGRADE.KEEP (bitSet (getF Reg.HEEL_DEGRADE.KEEP c) bit) c
  match c.op with
  | .restoring => if getF Reg.SAV_RST_STATUS.EARLY_OPEN c = 1 then saveTrigger 8 mark else c
  | .serving => saveTrigger 8 mark
  | .derated => saveTrigger 8 mark
  | .keep => mark
  | .saving => if c.save.image.cause = 8 then mark else c
  | _ => c

/-- The Keep causes BUDGET and STALL clear when their condition has gone (R447). -/
def keepCausesNow (c : Ctl) : Ctl :=
  let k := getF Reg.HEEL_DEGRADE.KEEP c
  if c.op ≠ .keep then c
  else
    let k := if getF Reg.DTK_BUDGET_MIN.VALUE c ≤ effB c then bitClr k 1 else k
    let k := match c.reel.cleanedAt with
      | some t => if c.uptime ≤ t + 10000000000 then bitClr k 2 else k
      | none => k
    setF Reg.HEEL_DEGRADE.KEEP k c

/-! Save dies (R215, R444). -/

def updDie (d : Nat) (f : DieSave → DieSave) (c : Ctl) : Ctl :=
  if d = 0 then { c with save := { c.save with die0 := f c.save.die0 } } else { c with save := { c.save with die1 := f c.save.die1 } }
def dieSave (c : Ctl) (d : Nat) : DieSave := if d = 0 then c.save.die0 else c.save.die1

/-- The die that holds the source of a restore map entry. -/
def mapDie (c : Ctl) (m : RMap) : Nat :=
  if m.kind = 1 then m.loc / 4 % 2 else if m.kind = 3 then 1 - slotDie c m.loc else slotDie c m.loc

/-- A frame enters the poison list as restored poisoned, with its event (R243); `case` is the row of R243. -/
def frameLost (f case_ : Nat) (c : Ctl) : Ctl :=
  let c := addF Reg.SAV_RST_POISONED.COUNT (poisonAdd (f * linesPerFrame) linesPerFrame c)
  logEvent 0x0605 6 3 (case_ * 256 + f * 4294967296) c

/-- The fetches from a die that has left service end; frames whose source lies on it are restored poisoned (R226, R243, log entry 19). -/
def loseSources (d : Nat) (c : Ctl) : Ctl :=
  let lost := fun (e : Nat × RMap) => (e.2.kind == 1 || e.2.kind == 2 || e.2.kind == 3) && mapDie c e.2 == d && !c.dtk.restored.testBit e.1
  let m := c.restore.map.map (fun e => if lost e then (e.1, (⟨4, 0, false⟩ : RMap)) else e)
  let c := (c.restore.map.filter lost).foldl (fun c e => frameLost e.1 2 c) c
  { c with restore := (if d = 0 then { c.restore with map := m, bg0 := [], touch0 := none } else { c.restore with map := m, bg1 := [], touch1 := none }) }

/-- A save die leaves service: 1 modules down, 2 core failure or reset, 3 no confirmation. Before a save the single-die Last comes into use;
during one the remaining die takes over what is not confirmed. -/
def dieLeaves (d cause : Nat) (c : Ctl) : Ctl :=
  if !dieInService c d then c
  else
    let c := setF (if d = 0 then Reg.HUB_RESET_CAUSE.S0 else Reg.HUB_RESET_CAUSE.S1) 1
      (logEvent 0x0601 6 3 (d + cause * 256) (setInService d false c))
    let c := abandonDie d c
    let c := { c with pipe := { c.pipe with fetches := c.pipe.fetches.filter (fun x => !(x.kind == .save && x.die == d)) } }
    let c := saveDieReset d (if d = 0 then setF Reg.SAV_KEY.LOADED_S0 0 c else setF Reg.SAV_KEY.LOADED_S1 0 c)
    let c := pagesDurable c.welt.pages.length (setF Reg.DTK_WELT_STATUS.SINGLE_MIRROR 1 (setF Reg.SAV_STATUS.SINGLE_DIE 1 (setF Reg.DTK_SOLE.SINGLE_DIE 1 c)))
    let c := setF Reg.DTK_BUDGET_FW.VALUE ((getF Reg.DTK_BUDGET_FW.VALUE c + sShadow c) / 2 - sShadow c) c
    let c := if c.op = .saving then c else setReady (readyBits c) c
    match c.op with
    | .saving =>
      if (wholeDown c).isSome then c
      else if !anyDie c then endUnsealed c
      else
        let e := 1 - d
        let lostSlots := c.save.image.table.map (fun x => if slotDie c x.1 = d && c.save.confirm.testBit x.1 then (x.1, { x.2 with confirmedLost := true }) else x)
        setF Reg.SAV_STATUS.FALLBACK 1 (setF (Reg.SAV_SD_STATUS.FALLBACK_ACTIVE e) 1
          { c with save := { c.save with image := { c.save.image with fallback := true, lostDie := d, table := lostSlots } } })
    | .restoring => let c := derateCheck (loseSources d c); if anyDie c then c else saveTrigger 8 c
    | .serving => let c := derateCheck (loseSources d c); if anyDie c then c else saveTrigger 8 c
    | .derated => let c := derateCheck (loseSources d c); if anyDie c then c else saveTrigger 8 c
    | .keep => derateCheck (loseSources d c)
    | _ => c

/-! Restart and firmware reset (R70, R71). -/

/-- A restart is requested. -/
def restart (c : Ctl) : Ctl :=
  let mark := setF Reg.HEEL_WAKE_STATUS.RESTART_PENDING 1
  match c.op with
  | .waking => wakeFail 7 (wakeStepNow c) none (mark c)
  | .dormant => enterWaking (mark c)
  | .off => c
  | _ => saveTrigger 7 (mark c)

/-- A firmware reset: cause 0 HUB_FW_RESET, 1 watchdog, 2 activation, 3 JTAG. The firmware domain is reset, the budget freezes, the
charger stops, the time base holds over (R71), the results that M2 has gathered for a raise of
the budget are lost (R177, log entry 131), and buffered event records are lost and counted; the CXL event logs lie in the firmware domain (log
entry 20). While the firmware is down already, a further cause starts no second reset and counts nothing (log entry 112). -/
def fwReset (cause : Nat) (c : Ctl) : Ctl :=
  if !hubPowered c ∨ !fwRunning c then c
  else
    let lost := min 255 (getF Reg.EVR_LOST.RESET c + c.evr.buffer.length)
    let f := match cause with
      | 0 => Reg.HUB_RESET_CAUSE.FW_CMD
      | 1 => Reg.HUB_RESET_CAUSE.FW_WDOG
      | 2 => Reg.HUB_RESET_CAUSE.FW_ACTIVATE
      | _ => Reg.HUB_RESET_CAUSE.FW_DEBUG
    let c := setF f 1 (addF Reg.HUB_FW_RESET_COUNT.TOTAL (setF Reg.HUB_DOMAIN_STATUS.CORE_RUN 0 c))
    let c := resetRange 0xE0000 0xF0000 (resetRange 0x100000 0x120000 c)
    let c := setF Reg.EVR_LOST.RESET lost (chargerOff (learnDiscard (if cause = 1 ∧ c.mbx.provEnd.isSome then rollBack c else c)))
    let c := if clkSource c = 0 ∨ clkSource c = 4 then c else clkHoldover c
    let c := { c with dtk := { c.dtk with raiseMin := none } }
    let c := { c with cal := { c.cal with inPause := (List.range 8).reverse.find? (fun n => (mapGet Chan.init c.chans n).calDue) } }
    abortStage false (abortXfer { eflReset c with
      evr := { c.evr with buffer := [], folds := [] }
      cxl := { c.cxl with info := [], warn := [], fail := [], fatal := [], overflow := [] } })

end Sys2Proof.Machine
end

