-- ==== Sys2Proof/Machine/Pipe.lean ====
section
/-! DEFINITION. Sys2Proof/Machine/Pipe.lean: the request pipeline's shared operations (05_memory_pipeline.md): intake, admission (R116, R117),
arbitration (R118), commit, track and schedule (R119-R122), poison (R125), shadow capture (R292) and DRAM channel queues. -/
namespace Sys2Proof.Machine

/-! Sources and intake (R86, R108-R110). -/

def headOfSrc : Source → Option HeadId
  | .h0 => some 0
  | .h1 => some 1
  | .guest => none

def queueOf (c : Ctl) : Source → List Req
  | .h0 => c.pipe.q0
  | .h1 => c.pipe.q1
  | .guest => c.pipe.qg

def setQueue (q : List Req) (c : Ctl) : Source → Ctl
  | .h0 => { c with pipe := { c.pipe with q0 := q } }
  | .h1 => { c with pipe := { c.pipe with q1 := q } }
  | .guest => { c with pipe := { c.pipe with qg := q } }

def isWrite (o : ReqOp) : Bool := o == .wr || o == .wrPtl

/-- Intake is open in the operating state (R86). -/
def intakeState (c : Ctl) : Bool :=
  match c.op with
  | .restoring => getF Reg.SAV_RST_STATUS.EARLY_OPEN c == 1
  | .serving => true | .derated => true | .keep => true
  | _ => false

def viralFld (h : HeadId) : Fld := if h = 0 then Reg.MEM_ACCESS_STATUS.H0_VIRAL else Reg.MEM_ACCESS_STATUS.H1_VIRAL
def memLocked (c : Ctl) : Bool := getF Reg.MEM_ACCESS_STATUS.LOCKED c == 1

/-- The intake of a head is open (R86-R88, R90, R99). -/
def intakeOpen (c : Ctl) (h : HeadId) : Bool :=
  headPresent c h && intakeState c && !memLocked c && getF (viralFld h) c == 0 && !(headOf c h).resetting && (headOf c h).linkUp && !eraseRuns c

/-- Condition 9 of R116: the source is not frozen. -/
def srcOpen (c : Ctl) (s : Source) : Bool :=
  !c.pipe.frozen && (match headOfSrc s with | some h => intakeOpen c h | none => getF Reg.HUB_DOMAIN_STATUS.GUEST_OPEN c == 1)

def twoHead (c : Ctl) : Bool := getF Reg.MEM_PORT_CFG.TWO_HEAD c == 1

/-- The head holds a credit for the request: header credits of M2S Req, write-data credits of M2S RwD; a parked write keeps its own. -/
def headCredit (c : Ctl) (h : HeadId) (write : Bool) : Bool :=
  let s := srcOfHead h
  if write then
    decide (((queueOf c s).filter (fun r => isWrite r.op)).length + (c.pipe.parked.filter (fun p => p.src == s && isWrite p.req.op)).length
      < if twoHead c then 96 else 192)
  else decide (((queueOf c s).filter (fun r => !isWrite r.op)).length < if twoHead c then 128 else 256)

/-- A request enters its source queue. -/
def enqueue (s : Source) (r : Req) (c : Ctl) : Ctl := setQueue (queueOf c s ++ [r]) c s

/-! DRAM channels. -/

def chanSt (c : Ctl) (ch : Nat) : Chan := mapGet Chan.init c.chans ch
def updChan (ch : Nat) (f : Chan → Chan) (c : Ctl) : Ctl := { c with chans := mapUpd Chan.init c.chans ch f }
def chState (c : Ctl) (ch : Nat) : Nat := getF (Reg.DRC_STATUS.STATE ch) c
def chFailed (c : Ctl) (ch : Nat) : Bool := chState c ch == 6

def readerIs (s : Source) (e : REntry) : Bool := match e.who with | .source x _ => x == s | _ => false
def readerOwn (e : REntry) : Bool := match e.who with | .source _ _ => true | _ => false
/-- A read of internal traffic (R117). The merge read of a partial write is none: it goes with the write's own entries (log entry 118). -/
def readerInternal (e : REntry) : Bool := match e.who with | .scrub => true | .fetch _ _ _ => true | _ => false

/-- What is in use beyond the entries reserved for internal traffic (R117). -/
def beyond (own internal reserved : Nat) : Nat := own + (internal - reserved)

/-- Internal traffic may take `n` more entries: its reserved ones first, then shared ones up to the cap of a source (R117). -/
def internalRoom (own internal n reserved cap shared : Nat) : Bool :=
  decide (internal + n ≤ reserved) || (decide (internal + n - reserved ≤ cap) && decide (own + (internal + n - reserved) ≤ shared))

/-- Parked reads, or parked writes, of the sources in `l` that hold the entry of a channel queue reserved at their grant (R116, R117). -/
def parkedAt (c : Ctl) (ch : Nat) (write : Bool) (l : List Source) : Nat :=
  (c.pipe.parked.filter (fun p => l.contains p.src && isWrite p.req.op == write && chanOf c p.req.dpa == ch)).length

/-- Read-queue entries of the sources, with those reserved for parked reads, and of internal traffic. -/
def readsOwn (c : Ctl) (ch : Nat) : Nat := ((chanSt c ch).rq.filter readerOwn).length + parkedAt c ch false [.h0, .h1, .guest]
def readsInternal (c : Ctl) (ch : Nat) : Nat := ((chanSt c ch).rq.filter readerInternal).length

/-- A read-queue entry is free within the source's cap. -/
def readFree (c : Ctl) (ch : Nat) (s : Source) : Bool :=
  decide (((chanSt c ch).rq.filter (readerIs s)).length + parkedAt c ch false [s] < 40)
  && decide (beyond (readsOwn c ch) (readsInternal c ch) 8 < 56)

/-- A read-queue entry is free for internal traffic. -/
def readRoom (c : Ctl) (ch : Nat) : Bool := internalRoom (readsOwn c ch) (readsInternal c ch) 1 8 40 56

/-- Write-queue entries of the sources, with those reserved for parked writes, and of internal traffic. -/
def writesOwn (c : Ctl) (ch : Nat) : Nat := ((chanSt c ch).wq.filter (fun e => e.own.isSome)).length + parkedAt c ch true [.h0, .h1, .guest]
def writesInternal (c : Ctl) (ch : Nat) : Nat := ((chanSt c ch).wq.filter (fun e => e.own.isNone)).length

/-- A write-queue entry is free within the source's cap. -/
def writeFree (c : Ctl) (ch : Nat) (s : Source) : Bool :=
  decide (((chanSt c ch).wq.filter (fun e => e.own == some s)).length + parkedAt c ch true [s] < 56)
  && decide (beyond (writesOwn c ch) (writesInternal c ch) 16 < 80)

/-- Internal accesses that hold an in-flight entry. -/
def internalFlights (c : Ctl) : Nat :=
  c.chans.foldl (fun n e => n + ((e.2.rq ++ e.2.issued ++ e.2.waiting).filter readerInternal).length + (e.2.wq.filter (fun w => w.own.isNone)).length) 0

/-- `n` in-flight entries are free for internal traffic, and `n` write-queue entries of a channel. -/
def flightRoom (c : Ctl) (n : Nat) : Bool := internalRoom (c.pipe.flights.length + c.pipe.parked.length) (internalFlights c) n 64 320 448
def writeRoom (c : Ctl) (ch n : Nat) : Bool := internalRoom (writesOwn c ch) (writesInternal c ch) n 16 56 80

/-- An in-flight entry is free within the source's cap; a parked request holds its own. -/
def flightFree (c : Ctl) (s : Source) : Bool :=
  decide ((c.pipe.flights.filter (fun f => f.src == s)).length + (c.pipe.parked.filter (fun p => p.src == s)).length < 320)
  && decide (beyond (c.pipe.flights.length + c.pipe.parked.length) (internalFlights c) 64 < 448)

/-- A response entry of the source is free: reads and parked reads hold one until they are answered. -/
def responseFree (c : Ctl) (s : Source) : Bool :=
  let cap := if s = .guest ∨ !twoHead c then 384 else 192
  decide ((c.pipe.flights.filter (fun f => f.src == s && f.isRead)).length
    + (c.pipe.parked.filter (fun p => p.src == s && !isWrite p.req.op)).length < cap)

/-! Budget and throttle (R129-R131). -/

/-- The budget limit and the throttle apply. -/
def throttled (c : Ctl) : Bool :=
  match c.op with
  | .restoring => getF Reg.SAV_RST_STATUS.EARLY_OPEN c == 1
  | .serving => true | .derated => true
  | .keep => getF Reg.HEEL_DEGRADE.RELEASE_PENDING c == 1
  | _ => false

def tokens (c : Ctl) : Nat := getF Reg.MEM_THROTTLE_STATUS.TOKENS c
/-- The dirty count is in the throttle band. -/
def inBand (c : Ctl) : Bool := decide (onset c ≤ dirtyCount c) && decide (dirtyCount c < effB c)
/-- A write to a Clean frame, while the limit applies. -/
def cleanWrite (c : Ctl) (r : Req) : Bool := isWrite r.op && throttled c && (frameRec c (frameOfLine (r.dpa / 64))).base == .clean

/-! Restore on touch (R127, R235). -/

def unrestored (c : Ctl) (f : Nat) : Bool := restoreOpen c && !c.dtk.restored.testBit f
def frameMap (c : Ctl) (f : Nat) : RMap := mapGet RMap.init c.restore.map f
def touchSlot (c : Ctl) (d : Nat) : Option Nat := if d = 0 then c.restore.touch0 else c.restore.touch1
/-- A fetch of the frame is in flight. -/
def fetching (c : Ctl) (f : Nat) : Bool :=
  c.restore.bg0.contains f || c.restore.bg1.contains f || c.restore.touch0 == some f || c.restore.touch1 == some f
/-- The frame is served by the hub: a zero frame, or one that is not available. -/
def hubFrame (c : Ctl) (f : Nat) : Bool := (frameMap c f).kind == 0 || (frameMap c f).kind == 4

def touchFree (c : Ctl) (s : Source) (f : Nat) : Bool :=
  decide (c.pipe.parked.length < 256) && decide ((c.pipe.parked.filter (fun p => p.src == s)).length < 160)
  && (fetching c f || hubFrame c f || (touchSlot c (mapDie c (frameMap c f))).isNone)

/-! Pages that the epoch engine shadows (R292). -/

/-- A write to this DPA is the first to an unshadowed page of a frame with EPOCH_PEND (R116 code 7, R170). -/
def captureNeeded (c : Ctl) (dpa : Nat) : Bool :=
  (frameRec c (dpa / 2097152)).epochPend
  && (match mapFind c.epg.shadow (dpa / 2097152) with | some e => !e.2.testBit (dpa / 4096 % 512) | none => true)

/-! Admission (R116). -/

/-- The lowest code of R116 among the conditions that fail for a request; 0 when all hold. The write of an accepted Clear Poison runs on while its
head is in reset (R99). A failed channel holds no source (R157). -/
def holdReason (c : Ctl) (s : Source) (r : Req) : Nat :=
  let spec := r.op == .specRd
  let f := frameOfLine (r.dpa / 64)
  let ch := chanOf c r.dpa
  if !spec && !flightFree c s then 1
  else if r.op == .rd && !chFailed c ch && !readFree c ch s then 2
  else if isWrite r.op && !chFailed c ch && !writeFree c ch s then 3
  else if !spec && !responseFree c s then 4
  else if cleanWrite c r && decide (effB c ≤ dirtyCount c) then 5
  else if cleanWrite c r && inBand c && tokens c == 0 then 6
  else if isWrite r.op && captureNeeded c r.dpa then 7
  else if !spec && unrestored c f && !touchFree c s f then 8
  else if (if dropTag < r.tag then c.pipe.frozen else !srcOpen c s) then 9
  else 0

/-- The reason at a source's head; 0 for an empty queue. -/
def srcHold (c : Ctl) (s : Source) : Nat := match queueOf c s with | [] => 0 | r :: _ => holdReason c s r

def heldByBudget (c : Ctl) (s : Source) : Bool := srcHold c s == 5 || srcHold c s == 6

/-! Responses (R97, R113). -/

/-- DevLoad: 0 light, 1 optimal, 2 moderate overload, 3 severe overload. -/
def devLoad (c : Ctl) (s : Source) : Nat :=
  if heldByBudget c s then 3
  else if dirtyCount c * 4 < effB c * 3 then 0
  else if dirtyCount c < onset c then 1 else 2

/-- MetaField No-Op, which every S2M response carries (R111), by its code of CXL 3.1 (log entry 10). -/
def metaNoOp : Nat := 3

/-- A read is answered: with the poison indication, DevLoad and MetaField. -/
def respondRead (s : Source) (tag : Nat) (data : List Byte) (poison : Bool) (c : Ctl) : Ctl :=
  let load := devLoad c s
  if dropTag ≤ tag then c
  else
    let c := if poison then addF Reg.MEM_POISON_COUNT.RD c else c
    match headOfSrc s with
    | some h => send ⟨.head h, .memData, [tag, b2n poison, load, metaNoOp], data⟩ c
    | none => guestReply .dataGuest tag 0 (b2n poison) load data c

/-- A write completes at Commit (R121). -/
def respondCmp (s : Source) (tag : Nat) (c : Ctl) : Ctl :=
  let load := devLoad c s
  if dropTag ≤ tag then c
  else match headOfSrc s with
    | some h => send ⟨.head h, .cmp, [tag, load, metaNoOp], []⟩ c
    | none => guestReply .cmpGuest tag 0 0 load [] c

/-- A guest credit is returned in an idle flit (R354, R361): class 1 reads, class 2 writes. -/
def guestCredit (s : Source) (cls : Nat) (c : Ctl) : Ctl :=
  if s = .guest ∧ linkLive c 2 ∧ getF Reg.HUB_DOMAIN_STATUS.GUEST_OPEN c = 1 then
    sendLink 2 .creditReturn [cls, 1] [] (updGuest (fun g => if cls = 1 then { g with mreq := g.mreq + 1 } else { g with mwr := g.mwr + 1 }) c)
  else c

/-! Lines (R120, R122). -/

/-- All 64 byte enables. -/
def fullMask : Nat := 2 ^ 64 - 1

/-- Put the enabled bytes of one line over another. -/
def overlay (data : List Byte) (mask : Nat) (base : List Byte) : List Byte :=
  (List.range 64).map (fun i => if mask.testBit i then data.getD i 0 else base.getD i 0)

/-- A line as DRAM stores it: its bytes and its poison marker. -/
def dramLine (dram : List Host.Cell) (poison : List Nat) (line : Nat) : List Byte × Bool :=
  (memReadList 0 dram (line * 64) 64, poison.contains line)

def queuedWrite (c : Ctl) (line : Nat) : Option WEntry := (chanSt c (lineChan c line)).wq.find? (fun e => e.line == line)

/-- The value of a line now: the write queue over DRAM; a failed channel answers all ones, poisoned (R157). -/
def lineNow (dram : List Host.Cell) (poison : List Nat) (c : Ctl) (line : Nat) : List Byte × Bool :=
  if chFailed c (lineChan c line) then (onesLine, true)
  else
    let base := dramLine dram poison line
    match queuedWrite c line with
    | some e => (overlay e.data e.mask base.1, e.poison || (base.2 && !e.merged))
    | none => base

/-- The first `n` bytes of a content. -/
def contentBytes (k : Content) (n : Nat) : List Byte := memReadList 0 k.cells 0 n

/-! The poison list (R89, R125, R156). -/

/-- Take a line out of the records that hold it: removed, trimmed at its end, or split; a split of a full list keeps the lower part. -/
def poisonTrimList (line : Nat) : List (Nat × Nat) → Nat → List (Nat × Nat) × Bool
  | [], _ => ([], false)
  | (a, n) :: rest, room =>
    if a ≤ line ∧ line < a + n then
      let lo := (a, line - a)
      let hi := (line + 1, a + n - (line + 1))
      if lo.2 = 0 ∧ hi.2 = 0 then poisonTrimList line rest (room + 1)
      else if lo.2 = 0 then let r := poisonTrimList line rest room; (hi :: r.1, r.2)
      else if hi.2 = 0 then let r := poisonTrimList line rest room; (lo :: r.1, r.2)
      else if room = 0 then let r := poisonTrimList line rest 0; (lo :: r.1, true)
      else let r := poisonTrimList line rest (room - 1); (lo :: hi :: r.1, r.2)
    else let r := poisonTrimList line rest room; ((a, n) :: r.1, r.2)

def poisonTrim (line : Nat) (c : Ctl) : Ctl :=
  let r := poisonTrimList line c.ef.poisonList (4096 - c.ef.poisonList.length)
  let c := { c with ef := { c.ef with poisonList := r.1, injected := c.ef.injected.filter (fun l => l != line) } }
  if r.2 then logEvent 0x0606 6 2 0 { c with ef := { c.ef with poisonOverflow := true } } else c

/-! Schedule (R122, R145). -/

def nextFlight (c : Ctl) : Nat := c.pipe.nextId
def addFlight (f : Flight) (c : Ctl) : Ctl := { c with pipe := { c.pipe with flights := c.pipe.flights ++ [f], nextId := c.pipe.nextId + 1 } }
def dropFlight (id : Nat) (c : Ctl) : Ctl := { c with pipe := { c.pipe with flights := c.pipe.flights.filter (fun f => f.id != id) } }

/-- A read enters its channel: served by forwarding, waiting for a merge, or queued. -/
def scheduleRead (s : Source) (tag line hint : Nat) (c : Ctl) : Ctl :=
  let ch := lineChan c line
  if chFailed c ch then respondRead s tag onesLine true c
  else
    let e : REntry := ⟨nextFlight c, line, hint, .source s tag, 0, c.uptime, [], 0, false⟩
    let fl : Flight := ⟨nextFlight c, s, tag, line, true⟩
    match queuedWrite c line with
    | some w =>
      if w.merged then respondRead s tag w.data w.poison c
      else addFlight fl (updChan ch (fun k => { k with waiting := k.waiting ++ [{ e with overData := w.data, overMask := w.mask, overPoison := w.poison }] }) c)
    | none => addFlight fl (updChan ch (fun k => { k with rq := k.rq ++ [e] }) c)

/-- A write batch starts when the occupancy reaches WM_HIGH (R144). -/
def batchStart (ch : Nat) (c : Ctl) : Ctl :=
  if getF (Reg.DRC_QUEUE_CFG.WM_HIGH ch) c ≤ (chanSt c ch).wq.length then setF (Reg.DRC_STATUS.BATCH ch) 1 c else c

/-- A write over an entry of the same line: it replaces the data in place. A partial write (`ptl`) leaves the poison of the line (R125), with all
of its bytes enabled too. -/
def replaceWrite (data : List Byte) (mask : Nat) (ptl poison : Bool) (hint : Nat) (e : WEntry) : WEntry :=
  if !ptl then { e with data := data, mask := fullMask, poison := poison, hint := hint, merged := true }
  else { e with data := overlay data mask e.data, mask := e.mask ||| mask, poison := e.poison || poison, hint := hint }

/-- A new entry joins the write queue; a partial one reads its line first (R145). -/
def pushWrite (own : Option Source) (line : Nat) (data : List Byte) (mask : Nat) (ptl poison : Bool) (hint : Nat) (c : Ctl) : Ctl :=
  let ch := lineChan c line
  let id := nextFlight c
  let full := !ptl
  let c := match own with
    | some s => addFlight ⟨id, s, 0, line, false⟩ c
    | none => { c with pipe := { c.pipe with nextId := id + 1 } }
  let c := updChan ch (fun k => { k with
    wq := k.wq ++ [⟨id, line, data, mask, poison, hint, own, full⟩]
    rq := if full then k.rq else k.rq ++ [⟨id, line, hint, .merge, 0, c.uptime, [], 0, false⟩] }) c
  batchStart ch c

/-- A write enters its channel write queue; a correction write-back of its line that still waits is dropped (R152). -/
def scheduleWrite (own : Option Source) (line : Nat) (data : List Byte) (mask : Nat) (ptl poison : Bool) (hint : Nat) (c : Ctl) : Ctl :=
  let ch := lineChan c line
  if chFailed c ch then c
  else
    let c := if !ptl ∧ !poison then poisonTrim line c else c
    let c := updChan ch (fun k => { k with backs := k.backs.filter (fun b => b.1 != line) }) c
    match queuedWrite c line with
    | some e => updChan ch (fun k => { k with wq := k.wq.map (fun x => if x.id = e.id then replaceWrite data mask ptl poison hint x else x) }) c
    | none => pushWrite own line data mask ptl poison hint c

/-! The shadow pool (R292). -/

/-- The DPA of byte 0 of shadow frame `j`: the pool lies at the top of DPA space. -/
def shadowBase (c : Ctl) (j : Nat) : Nat := getF Reg.MEM_CAPACITY.UNITS c * 268435456 + j * 2097152

/-- The lowest shadow frame of the pool that no frame uses. -/
def freeShadow (c : Ctl) : Option Nat := firstFrom (fun j => !c.epg.shadow.any (fun e => e.2.1 == j)) 0 (sShadow c)

/-- The first line of a slot of the Last: of its frame, or of its shadow frame (R198). -/
def slotLine (c : Ctl) (s : Nat) : Nat :=
  if firstShadow c ≤ s then shadowBase c (s - firstShadow c) / 64 else match slotFrame c s with | some f => f * linesPerFrame | none => 0

/-- The shadow frame of a frame, with its page mask: the one that the directory holds, or the lowest free one. -/
def shadowFor (c : Ctl) (f : Nat) : Option (Nat × Nat) :=
  match mapFind c.epg.shadow f with | some e => some e | none => (freeShadow c).map (fun j => (j, 0))

/-! Line reads of the internal engines (R117, R141, R143, R153, R183, R201, R292). -/

def updFetch (id : Nat) (f : Fetch → Fetch) (c : Ctl) : Ctl :=
  { c with pipe := { c.pipe with fetches := c.pipe.fetches.map (fun x => if x.id = id then f x else x) } }
def dropFetch (id : Nat) (c : Ctl) : Ctl := { c with pipe := { c.pipe with fetches := c.pipe.fetches.filter (fun x => x.id != id) } }

/-- An engine begins to read `total` lines from line `first` on. -/
def startFetch (kind : FetchKind) (die key first total : Nat) (c : Ctl) : Ctl :=
  { c with pipe := { c.pipe with fetches := c.pipe.fetches ++ [⟨c.pipe.nextId, kind, die, key, first, total, 0, 0, ⟨[], []⟩⟩], nextId := c.pipe.nextId + 1 } }

/-- Every line has come back. -/
def Fetch.complete (x : Fetch) : Bool := x.done == x.total

def reelFetch (c : Ctl) (f : Nat) : Option Fetch := c.pipe.fetches.find? (fun x => x.kind == .reel && x.first == f * linesPerFrame)
def saveFetch (c : Ctl) (d key : Nat) : Option Fetch := c.pipe.fetches.find? (fun x => x.kind == .save && x.die == d && x.key == key)

/-- The line that entry `i` of a fetch reads: a copy of a frame with EPOCH_PEND reads masked pages from the shadow pool (R183, R292). -/
def fetchLine (c : Ctl) (x : Fetch) (i : Nat) : Nat :=
  let line := x.first + i
  if x.kind == .reel && (frameRec c (frameOfLine line)).epochPend then
    match mapFind c.epg.shadow (frameOfLine line) with
    | some (j, mask) => if mask.testBit (i / 64) then shadowBase c j / 64 + i else line
    | none => line
  else line

/-- One line has come back. A media scan lists a poisoned or an uncorrectable line (R153); the others collect the content, with its poison
markers (R125, R156). -/
def fetchGot (kind : FetchKind) (id i : Nat) (data : List Byte) (poison : Bool) (c : Ctl) : Ctl :=
  match c.pipe.fetches.find? (fun x => x.id == id) with
  | none => c
  | some x =>
    if kind == .scan then
      let c := updFetch id (fun x => { x with done := x.done + 1 }) c
      if poison then poisonAdd (x.first + i) 1 { c with cxl := { c.cxl with scan := c.cxl.scan ++ [x.first + i] } } else c
    else updFetch id (fun x => { x with
      done := x.done + 1
      got := ⟨memWriteList 0 x.got.cells (i * 64) data, if poison then setAdd x.got.poison i else x.got.poison⟩ }) c

/-- The frame of a slot has been restored, or needs no restore (R238). -/
def slotWhole (c : Ctl) (s : Nat) : Bool :=
  match slotFrame c s with
  | some f => !c.save.complete.contains f || c.dtk.restored.testBit f
  | none => true

/-- The slot and the unit in it of a data unit of a save. -/
def keyUnit (c : Ctl) (key : Nat) : Nat × Nat :=
  let i := keyRow key * 15 + (if keyPos key < keyRow key % 16 then keyPos key else keyPos key - 1)
  (slotOfIndex c (keySet key) i, i % unitsPerSlot c)

/-- The engine may read its next line: the cleaner in its states and within its cap (R181), the save fetch once the frame is whole (R238), a
media scan while it is the background operation (R90). -/
def fetchRunning (c : Ctl) (x : Fetch) : Bool :=
  match x.kind with
  | .reel => reelRuns c && decide (64 ≤ reelTokens c)
  | .save => c.op == .saving && slotWhole c (keyUnit c x.key).1
  | .capture => true
  | .scan => (match c.op with | .restoring => true | .serving => true | .derated => true | .keep => true | _ => false)
    && (match c.cxl.bg with | some b => b.opcode == 0x4304 | none => false)

/-- The hint of an engine's reads (R141). -/
def fetchHint (k : FetchKind) : Nat := if k == .scan then 2 else 1

/-- A channel in the self-refresh of Saving comes back for a save fetch that a lost die's fallback still needs (log entry 119). -/
def wakeChan (ch : Nat) (c : Ctl) : Ctl := if chState c ch = 5 then setF (Reg.DRC_STATUS.STATE ch) 2 c else c

/-- A fetch takes its next line, if it can: an unrestored frame is passed over (R237), a line of a failed channel is answered poisoned (R157), a
queued write forwards its data, or has the read wait for its merge (R122), and any other line enters its channel's read queue in an internal
entry (R117). -/
def fetchNext (x : Fetch) (c : Ctl) : Option Ctl :=
  let i := x.next
  let line := fetchLine c x i
  let ch := lineChan c line
  let c1 := updFetch x.id (fun x => { x with next := i + 1 }) c
  let e : REntry := ⟨c.pipe.nextId, line, fetchHint x.kind, .fetch x.kind x.id i, 0, c.uptime, [], 0, false⟩
  let took := fun (c : Ctl) =>
    let c := { c with pipe := { c.pipe with nextId := c.pipe.nextId + 1 } }
    if x.kind == .reel then takeReelTokens c else c
  if x.total ≤ i ∨ !fetchRunning c x then none
  else if x.kind == .scan && unrestored c (frameOfLine line) then some (updFetch x.id (fun x => { x with done := x.done + 1 }) c1)
  else if chFailed c ch then some (fetchGot x.kind x.id i onesLine true c1)
  else match queuedWrite c line with
    | some w =>
      if w.merged then some (fetchGot x.kind x.id i w.data w.poison c1)
      else if flightRoom c 1 then
        some (took (updChan ch (fun k => { k with waiting := k.waiting ++ [{ e with overData := w.data, overMask := w.mask, overPoison := w.poison }] }) c1))
      else none
    | none =>
      if readRoom c ch && flightRoom c 1 then some (took (wakeChan ch (updChan ch (fun k => { k with rq := k.rq ++ [e] }) c1))) else none

/-- The fetch goes to the end of the list: the engines take entries in turn, and the copies share the cap (R181). -/
def fetchTurn (id : Nat) (c : Ctl) : Ctl :=
  { c with pipe := { c.pipe with fetches := c.pipe.fetches.filter (fun x => x.id != id) ++ c.pipe.fetches.filter (fun x => x.id == id) } }

/-- Lines enter the channels until no fetch can take another one; `n` bounds their number. -/
def fetchLoop : Nat → Ctl → Ctl
  | 0, c => c
  | n + 1, c =>
    match c.pipe.fetches.findSome? (fun x => (fetchNext x c).map (fun k => fetchTurn x.id k)) with
    | some c => fetchLoop n c
    | none => c

def fetchLines (c : Ctl) : Nat := (c.pipe.fetches.map (fun x => x.total - x.next)).sum

/-! Shadow capture (R116 code 7, R292). -/

/-- The page that the head of a source waits for is read into the capture buffer. -/
def captureStart (c : Ctl) : Ctl :=
  [Source.h0, Source.h1, Source.guest].foldl (fun c s =>
    match queueOf c s with
    | r :: _ =>
      let first := r.dpa / 4096 * 64
      if isWrite r.op && captureNeeded c r.dpa && !c.pipe.fetches.any (fun x => x.kind == .capture && x.first == first) then
        startFetch .capture 0 0 first 64 c
      else c
    | [] => c) c

/-- The 64 lines of a captured page enter the channel write queues of the pool, if each of these has room, and the directory holds the page. A page
that its frame no longer needs is let go. -/
def captureWrite (x : Fetch) (c : Ctl) : Ctl :=
  let f := frameOfLine x.first
  let page := x.first / 64 % 512
  if !captureNeeded c (x.first * 64) then dropFetch x.id c
  else if !x.complete then c
  else match shadowFor c f with
    | none => c
    | some (j, mask) =>
      let base := (shadowBase c j + page * 4096) / 64
      let lines := (List.range 64).map (fun i => base + i)
      let fits := (List.range 8).all (fun ch =>
        let n := (lines.filter (fun l => lineChan c l == ch)).length
        n == 0 || chFailed c ch || writeRoom c ch n)
      if fits && flightRoom c 64 then
        let c := dropFetch x.id { c with epg := { c.epg with shadow := mapPut c.epg.shadow f (j, bitSet mask page) } }
        (List.range 64).foldl (fun c i => scheduleWrite none (base + i) (memReadList 0 x.got.cells (i * 64) 64) fullMask false (x.got.poison.contains i) 1 c) c
      else c

def captureEnd (c : Ctl) : Ctl := (c.pipe.fetches.filter (fun x => x.kind == .capture)).foldl (fun c x => captureWrite x c) c

/-! Correction write-backs that wait (R152), and self-refresh in Saving (R146). -/

/-- A corrected line enters the write queue as an internal write with the Close hint, when an entry is free. -/
def backsOf (ch : Nat) (c : Ctl) : Ctl :=
  ((chanSt c ch).backs).foldl (fun c b =>
    if writeRoom c ch 1 && flightRoom c 1 then
      pushWrite none b.1 b.2 fullMask false false 2 (updChan ch (fun k => { k with backs := k.backs.filter (fun x => x.1 != b.1) }) c)
    else c) c
def writeBacks (c : Ctl) : Ctl := (List.range 8).foldl (fun c ch => backsOf ch c) c

/-- A save-fetch read of the channel is still to be made, or is on its way. -/
def saveReads (c : Ctl) (ch : Nat) : Bool :=
  let k := chanSt c ch
  let mine := fun (first n : Nat) => (List.range n).any (fun i => lineChan c (first + i) == ch)
  let total := unitBytes c / 64
  (k.rq ++ k.issued ++ k.waiting).any (fun e => match e.who with | .fetch _ _ _ => true | _ => false)
  || (List.range (slotTotal c)).any (fun s => c.save.snap.testBit s && !c.save.confirm.testBit s
    && (List.range (unitsPerSlot c)).any (fun u =>
      let key := placeUnit c s u
      if c.save.die0.fetched.contains key || c.save.die1.fetched.contains key then false
      else match c.pipe.fetches.find? (fun x => x.kind == .save && x.key == key) with
        | some x => mine (x.first + x.next) (x.total - x.next)
        | none => mine (slotLine c s + u * total) total))

/-- In a save that is no Keep entry, a channel enters self-refresh once its last save-fetch read has returned and its write queue is empty. -/
def selfRefresh (c : Ctl) : Ctl :=
  if c.op = .saving ∧ c.save.image.cause ≠ 8 then
    (List.range 8).foldl (fun c ch =>
      if chState c ch == 2 && (chanSt c ch).wq.isEmpty && !saveReads c ch then setF (Reg.DRC_STATUS.STATE ch) 5 c else c) c
  else c

/-- What the internal engines do as entries become free: captures begin and end, lines enter the channels, write-backs go. -/
def engines (c : Ctl) : Ctl :=
  let c := captureStart c
  selfRefresh (writeBacks (captureEnd (fetchLoop (fetchLines c) c)))

/-- A background operation ends: vector 0 of the head that asked for it; of both heads for an erase that a Waking resumed (R82, R90). -/
def bgInterrupt (b : Bg) (c : Ctl) : Ctl :=
  match b.head with
  | some h => msix h 0 c
  | none => bothHeads.foldl (fun c h => msix h 0 c) c

/-! Global persistent flush and power management (R93, R94, R102). -/

/-- Requests of the head are under way: in its queue, in the channels, or parked. -/
def headQuiet (c : Ctl) (h : HeadId) : Bool :=
  let s := srcOfHead h
  (queueOf c s).isEmpty && !c.pipe.flights.any (fun f => f.src == s && f.isRead) && !c.pipe.parked.any (fun p => p.src == s && !isWrite p.req.op)

/-- Phase 2 completes; under GPF_POLICY 1 a trigger becomes pending. -/
def gpfDone (h : HeadId) (c : Ctl) : Ctl :=
  let c := send ⟨.head h, .gpfDone, [2], []⟩ (updHead h (fun d => { d with gpfWait := none }) c)
  if getF Reg.MEM_PORT_CFG.GPF_POLICY c = 1 then { c with cxl := { c.cxl with gpf := some h } } else c

/-- A request that entered before phase 2 has left the queue. -/
def gpfStep (h : HeadId) (c : Ctl) : Ctl :=
  match (headOf c h).gpfWait with
  | none => c
  | some n => if n ≤ 1 then gpfDone h c else updHead h (fun d => { d with gpfWait := some (n - 1) }) c

/-- PME_TO_Ack goes out once the head's requests have completed. -/
def pmeCheck (h : HeadId) (c : Ctl) : Ctl :=
  if (headOf c h).pmeWait && headQuiet c h then
    send ⟨.head h, .pmeToAck, [], []⟩ (updHead h (fun d => { d with pmeWait := false, l23 := true, pmePolicy := d.policy }) c)
  else c

def pmeChecks (c : Ctl) : Ctl := bothHeads.foldl (fun c h => pmeCheck h c) c

/-! Grant (R115-R122, R127, R129). -/

/-- Take a token when D is in the band (R130). -/
def takeToken (r : Req) (c : Ctl) : Ctl :=
  if cleanWrite c r && inBand c then setF Reg.MEM_THROTTLE_STATUS.TOKENS (tokens c - 1) c else c

/-- Park a request in its touch-buffer entry; the grant takes the die's touch slot unless a fetch is under way (R235). -/
def park (s : Source) (r : Req) (c : Ctl) : Ctl :=
  let f := frameOfLine (r.dpa / 64)
  let m := frameMap c f
  let id := c.pipe.nextId
  let take := !fetching c f && !hubFrame c f
  let c := { c with pipe := { c.pipe with parked := c.pipe.parked ++ [⟨id, f, s, r⟩], nextId := id + 1 } }
  if take then
    let d := mapDie c m
    addF Reg.SAV_RST_TOUCH.FETCHES
      (if d = 0 then { c with restore := { c.restore with touch0 := some f, touchGot0 := false } } else { c with restore := { c.restore with touch1 := some f, touchGot1 := false } })
  else c

/-- A granted request at Schedule. -/
def scheduleReq (s : Source) (r : Req) (c : Ctl) : Ctl :=
  let line := r.dpa / 64
  match r.op with
  | .rd => scheduleRead s r.tag line r.hint c
  | .wr => guestCredit s 2 (scheduleWrite (some s) line r.data fullMask false r.poison r.hint c)
  | .wrPtl => guestCredit s 2 (scheduleWrite (some s) line r.data r.mask true r.poison r.hint c)
  | _ => c

/-- A MemSpecRd at Schedule: it opens its row when the read queue is less than half full (R111). -/
def specOpen (dpa : Nat) (c : Ctl) : Ctl :=
  let line := dpa / 64
  let ch := lineChan c line
  let a := lineAddr c line
  if unrestored c (frameOfLine line) ∨ chFailed c ch then c
  else if (chanSt c ch).rq.length < 32 then
    updChan ch (fun k => { k with banks := mapUpd ⟨none, 0, 0⟩ k.banks (bankKey a) (fun b => { b with row := some a.row, hint := 0 }) }) c
  else c

/-- A Clear Poison command completes at its grant: the reply goes out as if its write had been answered. Tags above `dropTag` name it. -/
def clearDone (tag : Nat) (c : Ctl) : Ctl :=
  if tag ≤ dropTag then c
  else
    match c.mbx.running.find? (fun o => o.seq == tag - dropTag) with
    | none => c
    | some o =>
      let c := updMbx (fun m => { m with running := m.running.filter (fun x => x.seq != o.seq) }) (journalClose o.seq 1 0 0 0 true c)
      if dropTag ≤ o.tag then c else msix o.head 0 (send ⟨.head o.head, .mailbox, [0, o.tag], []⟩ c)

/-- Commit of a write: the commit sequence number advances, Cmp goes out, the frame is tracked. -/
def commitWrite (s : Source) (r : Req) (c : Ctl) : Ctl :=
  let f := frameOfLine (r.dpa / 64)
  let c := setF Reg.MEM_CSN.CSN (getF Reg.MEM_CSN.CSN c + 1) c
  let c := if c.op = .keep then setF Reg.HEEL_RECOVERY.KEEP_WRITES 1 c else c
  let c := if r.poison then addF Reg.MEM_POISON_COUNT.WR c else c
  let c := clearDone r.tag (respondCmp s r.tag c)
  trackWrite f (if s = .guest then guestWriteCommitted c else c)

/-- One grant: the request leaves its source queue and passes Commit, Track and Schedule. -/
def grant (s : Source) (r : Req) (rest : List Req) (c : Ctl) : Ctl :=
  let f := frameOfLine (r.dpa / 64)
  let dark := unrestored c f
  let c := setQueue rest c s
  let c := if r.held then addF Reg.MEM_THROTTLE_HOLDS.COUNT c else c
  let c := match r.op with
    | .specRd => specOpen r.dpa c
    | .inv => respondCmp s r.tag c
    | .rd => if dark then park s r (guestCredit s 1 c) else scheduleReq s r (guestCredit s 1 c)
    | _ =>
      let c := commitWrite s r (takeToken r c)
      if dark then park s r c else scheduleReq s r c
  pmeChecks (match headOfSrc s with | some h => gpfStep h c | none => c)

/-! Arbitration (R118). -/

def weightOf (c : Ctl) : Source → Nat
  | .h0 => getF Reg.MEM_PIPE_QOS.W_H0 c
  | .h1 => getF Reg.MEM_PIPE_QOS.W_H1 c
  | .guest => getF Reg.MEM_PIPE_QOS.W_G c

def ctrOf (c : Ctl) : Source → Nat
  | .h0 => c.pipe.ctr0
  | .h1 => c.pipe.ctr1
  | .guest => c.pipe.ctrG

/-- Rotating order, starting after the source of the last grant. -/
def rotation : Source → List Source
  | .h0 => [.h1, .guest, .h0]
  | .h1 => [.guest, .h0, .h1]
  | .guest => [.h0, .h1, .guest]

def reloadCtrs (c : Ctl) : Ctl :=
  { c with pipe := { c.pipe with ctr0 := weightOf c .h0, ctr1 := weightOf c .h1, ctrG := weightOf c .guest } }

def takeTurn (s : Source) (c : Ctl) : Ctl :=
  match s with
  | .h0 => { c with pipe := { c.pipe with ctr0 := c.pipe.ctr0 - 1, last := s } }
  | .h1 => { c with pipe := { c.pipe with ctr1 := c.pipe.ctr1 - 1, last := s } }
  | .guest => { c with pipe := { c.pipe with ctrG := c.pipe.ctrG - 1, last := s } }

/-- The source that takes the next grant: admissible, with a counter above 0. -/
def pickSource (c : Ctl) : Option Source :=
  (rotation c.pipe.last).find? (fun s => !(queueOf c s).isEmpty && srcHold c s == 0 && decide (0 < ctrOf c s))

/-- Heads held with reason 5 or 6 are marked; their grants count as delayed (R133). The guest is told of its hold (R361). -/
def markHeld (c : Ctl) : Ctl :=
  let c := [Source.h0, Source.h1, Source.guest].foldl (fun c s =>
    match queueOf c s with
    | r :: rest => if heldByBudget c s && !r.held then setQueue ({ r with held := true } :: rest) c s else c
    | [] => c) c
  if c.guest.opened then guestThrottle (heldByBudget c .guest) c else c

/-- The arbiter gives one grant, if a source is admissible; when none has a counter above 0 the round ends first. -/
def arbitrate (c : Ctl) : Ctl :=
  let c := engines (markHeld c)
  let c := if (pickSource c).isNone then reloadCtrs c else c
  match pickSource c with
  | none => c
  | some s =>
    match queueOf c s with
    | r :: rest => grant s r rest (takeTurn s c)
    | [] => c

/-! Failed channels and the Reel cleaner's candidates. -/

/-- A channel fails (R157, R444): its reads are answered poisoned, its writes retire; the router raises Keep cause CHANNEL. `why`: 1 PLL,
2 retrain, 3 uncorrectable burst, 4 write CRC. -/
def channelFail (ch why : Nat) (c : Ctl) : Ctl :=
  if chFailed c ch then c
  else
    let k := chanSt c ch
    let c := setF (Reg.DRC_STATUS.BATCH ch) 0 (setF (Reg.DRC_STATUS.STATE ch) 6
      (updChan ch (fun k => { k with rq := [], issued := [], waiting := [], wq := [], agedId := none, applying := [], calDue := false, backs := [], wcrc := [], postponed := [] }) c))
    let c := (k.rq ++ k.issued ++ k.waiting).foldl (fun c e =>
      match e.who with
      | .source s tag => respondRead s tag onesLine true (dropFlight e.id c)
      | .fetch kind id i => fetchGot kind id i onesLine true c
      | _ => dropFlight e.id c) c
    let c := k.wq.foldl (fun c e => dropFlight e.id c) c
    pmeChecks (keepCause 0 (logEvent 0x0316 3 4 (ch + why * 256) c))

/-- The Reel cleaner has a frame that it could select (R182). -/
def reelCandidate (c : Ctl) : Bool :=
  c.dtk.frames.any (fun e => e.2.epochPend && (e.2.base == .dirty || e.2.base == .shadowed) && !unrestored c e.1)
  || !c.reel.cold.isEmpty
  || ((decide (onset c ≤ dirtyCount c) || c.op == .keep) && c.dtk.frames.any (fun e => e.2.base == .dirty && !unrestored c e.1))

end Sys2Proof.Machine
end

