-- ==== Sys2Proof/Machine/Dram.lean ====
section
/-! DEFINITION. Sys2Proof/Machine/Dram.lean: the commands of the DRAM channels (06_dram_and_calibration.md): read and write issue, returned
data with its error check, refresh, scrub and the loss of a PHY PLL. -/
namespace Sys2Proof.Machine

/-! Pages (R142). -/

def bankRow (c : Ctl) (ch key : Nat) : BankRow := mapGet ⟨none, 0, 0⟩ (chanSt c ch).banks key
def rowOpen (c : Ctl) (ch : Nat) (a : DramAddr) : Bool := (bankRow c ch (bankKey a)).row == some a.row

/-- A request to the same row waits in the channel's queues. -/
def rowWanted (c : Ctl) (ch : Nat) (a : DramAddr) : Bool :=
  let k := chanSt c ch
  k.rq.any (fun e => rowKey (lineAddr c e.line) == rowKey a) || k.wq.any (fun e => rowKey (lineAddr c e.line) == rowKey a)

/-- The bank after an access: the hit counter moves, and the hint of the access decides whether the row stays open. -/
def touchRow (ch line hint : Nat) (c : Ctl) : Ctl :=
  let a := lineAddr c line
  let wanted := rowWanted c ch a
  updChan ch (fun k => { k with banks := mapUpd ⟨none, 0, 0⟩ k.banks (bankKey a) (fun b =>
    let ctr := match b.row with
      | some r => if r = a.row then min 3 (b.ctr + 1) else b.ctr - 1
      | none => b.ctr
    let stay := if hint = 1 then true else if hint = 2 then wanted else (decide (2 ≤ ctr) || wanted)
    ⟨if stay then some a.row else none, ctr, hint⟩) }) c

/-! Read issue (R143, R144). -/

/-- The class of a queued read. Class 4 is promoted after REEL_AGE, a media scan as the scrub whose reads it uses; the reads of a shadow copy, to
which the table gives no class, are taken with the save fetch (log entry 120). -/
def readClass (c : Ctl) (ch : Nat) (e : REntry) : Nat :=
  let four := if e.since + getF (Reg.DRC_PAGE_CFG.REEL_AGE ch) c * 100 ≤ c.uptime then 3 else 4
  match e.who with
  | .merge => 1
  | .source _ _ => 3
  | .scrub => four
  | .fetch .save _ _ => 2
  | .fetch .capture _ _ => 2
  | .fetch .reel _ _ => four
  | .fetch .scan _ _ => four

def onSub (c : Ctl) (sub line : Nat) : Bool := (lineAddr c line).sub == sub

/-- The next read of a subchannel: highest class; within it one passed over 16 times, then one to an open row, then the oldest. In a batch only
class 1 reads issue, and reads whose line a queued write waits to overwrite: else that write could never issue (log entry 121). -/
def pickRead (c : Ctl) (ch sub : Nat) : Option REntry :=
  let q := (chanSt c ch).rq.filter (fun e => onSub c sub e.line)
  let q := if getF (Reg.DRC_STATUS.BATCH ch) c = 1 then q.filter (fun e => readClass c ch e == 1 || (chanSt c ch).wq.any (fun w => w.line == e.line)) else q
  let best := q.foldl (fun n e => min n (readClass c ch e)) 5
  let q := q.filter (fun e => readClass c ch e == best)
  (q.find? (fun e => decide (16 ≤ e.passed))).or ((q.find? (fun e => rowOpen c ch (lineAddr c e.line))).or q.head?)

/-- The channel issues commands. -/
def chActive (c : Ctl) (ch : Nat) : Bool := chState c ch == 2

/-- A subchannel scheduler issues its next read; older reads of its class are passed over. -/
def readIssue (ch sub : Nat) (c : Ctl) : Ctl :=
  if !chActive c ch then c
  else match pickRead c ch sub with
    | none => c
    | some e =>
      let cls := readClass c ch e
      let c := updChan ch (fun k => { k with
        rq := (k.rq.filter (fun x => x.id != e.id || x.who != e.who)).map (fun x =>
          if decide (x.id < e.id) && onSub c sub x.line && readClass c ch x == cls then { x with passed := x.passed + 1 } else x)
        issued := k.issued ++ [e] }) c
      engines (touchRow ch e.line e.hint c)

def execDramReadIssue (ch : Fin 8) (sub : Fin 2) (s : State) : Host.Outcome State Fault Refusal :=
  .next (onCtl (readIssue ch.val sub.val) s)

/-! Write issue (R120, R144). -/

/-- No read of the line is still to be served from DRAM, and a partial write has been merged. -/
def writeReady (k : Chan) (e : WEntry) : Bool :=
  e.merged && !(k.rq ++ k.issued).any (fun r => r.line == e.line)

/-- The next write of a subchannel: in a batch the oldest that may issue, to an open row first; between reads only one to an open row,
when no read is ready (log entry 22). -/
def pickWrite (c : Ctl) (ch sub : Nat) : Option WEntry :=
  let k := chanSt c ch
  let q := k.wq.filter (fun e => onSub c sub e.line && writeReady k e)
  let hit := q.find? (fun e => rowOpen c ch (lineAddr c e.line))
  if getF (Reg.DRC_STATUS.BATCH ch) c = 1 then hit.or q.head?
  else if k.rq.any (fun e => onSub c sub e.line) then none else hit

/-- A batch ends at WM_LOW; one started by age ends when the aged write has issued and the occupancy is at or below WM_HIGH. -/
def batchEnd (ch : Nat) (c : Ctl) : Ctl :=
  let k := chanSt c ch
  let n := k.wq.length
  match k.agedId with
  | some i =>
    if !k.wq.any (fun e => e.id == i) && decide (n ≤ getF (Reg.DRC_QUEUE_CFG.WM_HIGH ch) c) then
      setF (Reg.DRC_STATUS.BATCH ch) 0 (updChan ch (fun k => { k with agedId := none }) c)
    else c
  | none => if n ≤ getF (Reg.DRC_QUEUE_CFG.WM_LOW ch) c then setF (Reg.DRC_STATUS.BATCH ch) 0 c else c

/-- The bytes and the marker of a line as a write leaves them in DRAM. -/
def putLine (line : Nat) (data : List Byte) (poison : Bool) (s : State) : State :=
  { s with dram := memWriteList 0 s.dram (line * 64) ((List.range 64).map (fun i => data.getD i 0))
           poison := if poison then setAdd s.poison line else setDel s.poison line }

/-- A subchannel scheduler issues a write: the line reaches DRAM, and its entry and in-flight entry are free. -/
def writeIssue (ch sub : Nat) (s : State) : State :=
  if !chActive s.ctl ch then s
  else match pickWrite s.ctl ch sub with
    | none => s
    | some e =>
      putLine e.line e.data e.poison (onCtl (fun c =>
        let c := dropFlight e.id (updChan ch (fun k => { k with wq := k.wq.filter (fun x => x.id != e.id), wcrc := mapErase k.wcrc e.line }) c)
        engines (batchEnd ch (touchRow ch e.line e.hint c))) s)

def execDramWriteIssue (ch : Fin 8) (sub : Fin 2) (s : State) : Host.Outcome State Fault Refusal := .next (writeIssue ch.val sub.val s)

/-- The oldest write has waited WR_AGE: a batch starts (R144). -/
def writeAge (ch : Nat) (c : Ctl) : Ctl :=
  match (chanSt c ch).wq with
  | [] => c
  | e :: _ =>
    if getF (Reg.DRC_STATUS.BATCH ch) c = 1 then c
    else setF (Reg.DRC_STATUS.BATCH ch) 1 (updChan ch (fun k => { k with agedId := some e.id }) c)

def execWriteAgeExpiry (ch : Fin 8) (s : State) : Host.Outcome State Fault Refusal := .next (onCtl (writeAge ch.val) s)

/-- A bank has seen no access for OPEN_IDLE or AUTO_IDLE: its row closes (R142). -/
def execRowIdleClose (ch : Fin 8) (bank : Nat) (s : State) : Host.Outcome State Fault Refusal :=
  .next (onCtl (updChan ch.val (fun k => { k with banks := mapUpd ⟨none, 0, 0⟩ k.banks bank (fun b => { b with row := none }) })) s)

/-! Errors (R150-R156). -/

/-- The index of rank and subchannel of an address: the unit of a device mark. -/
def markIndex (a : DramAddr) : Nat := a.rank * 2 + a.sub
def markOf (c : Ctl) (ch j : Nat) : Option Nat :=
  if getF (Reg.DRC_MARK.VALID ch j) c = 1 then some (getF (Reg.DRC_MARK.DEVICE ch j) c) else none

/-- The last error's location: 1 corrected, 2 uncorrectable, 3 poisoned. -/
def eccLast (ch type line : Nat) (dev : Nat) (c : Ctl) : Ctl :=
  let a := lineAddr c line
  setF (Reg.DRC_ECC_LAST.TYPE ch) type (setF (Reg.DRC_ECC_LAST.SUBCH ch) a.sub (setF (Reg.DRC_ECC_LAST.RANK ch) a.rank
    (setF (Reg.DRC_ECC_LAST.CID ch) a.cid (setF (Reg.DRC_ECC_LAST.DEVICE ch) dev (setF (Reg.DRC_ECC_LAST_DPA.DPA ch) (line * 64) c)))))

/-- A row repair candidate (R155): it joins the hard-repair list, and in the states in which the channel may pause it is soft-repaired, once in a
Waking, its content carried over raw; without a resource the row is only listed. -/
def repairRow (ch line : Nat) (resource : Bool) (c : Ctl) : Ctl :=
  let row := rowKey (lineAddr c line)
  let key := ch * 4294967296 + row
  let live := c.op == .restoring || c.op == .serving || c.op == .derated || c.op == .keep
  let c := if c.ef.repairs.contains key then c
    else addF (Reg.DRC_REPAIR.HARD_PENDING ch) { c with ef := { c.ef with repairs := c.ef.repairs ++ [key] } }
  if !live || (chanSt c ch).softRows.contains row then c
  else
    let c := updChan ch (fun k => { k with softRows := setAdd k.softRows row }) c
    let d := line * 64 + ch * 72057594037927936
    if resource then logEvent 0x0314 3 1 d (addF (Reg.DRC_REPAIR.SOFT ch) c) else logEvent 0x0315 3 2 d (addF (Reg.DRC_REPAIR.NO_RESOURCE ch) c)

/-- A device of a rank and subchannel is marked: the mark is also stored in the repair region of the embedded flash (R154). -/
def markDevice (ch j dev : Nat) (c : Ctl) : Ctl :=
  setF (Reg.DRC_MARK.DEVICE ch j) dev (setF (Reg.DRC_MARK.VALID ch j) 1 { c with ef := { c.ef with marks := mapPut c.ef.marks (ch * 4 + j) dev } })

/-- A device of a rank and subchannel has one more corrected line: at 64 within 10 minutes it is marked; a second one is reported
(R154). -/
def countDevice (ch line dev : Nat) (c : Ctl) : Ctl :=
  let a := lineAddr c line
  let j := markIndex a
  let key := j * 10 + dev
  let ts := c.uptime :: (mapGet [] (chanSt c ch).ceTimes key).filter (fun t => decide (c.uptime < t + 600000000000))
  let d := ch + dev * 256 + a.rank * 65536 + a.sub * 131072
  let keep := fun (l : List Nat) (c : Ctl) => updChan ch (fun k => { k with ceTimes := mapSet [] k.ceTimes key l }) c
  if ts.length < 64 ∨ markOf c ch j = some dev then keep (ts.take 64) c
  else if (markOf c ch j).isNone then
    logEvent 0x0312 3 2 d (markDevice ch j dev (keep [] c))
  else logEvent 0x0313 3 3 d (keep [] c)

/-- A corrected line: counted, located, and written back, as soon as an internal entry is free, unless a write to it is queued or the device is saving (R152). An error that
comes back in a row written back before makes the row a repair candidate. -/
def corrected (ch line dev : Nat) (data : List Byte) (back resource : Bool) (c : Ctl) : Ctl :=
  let row := rowKey (lineAddr c line)
  let c := logEvent 0x0310 3 1 (line * 64 + dev * 17592186044416) (eccLast ch 1 line dev (addF (Reg.DRC_ECC_CE.COUNT ch) c))
  let c := countDevice ch line dev c
  let again := (chanSt c ch).corrRows.contains row
  let c := if back && c.op != .saving && (queuedWrite c line).isNone then
      updChan ch (fun k => { k with corrRows := setAdd k.corrRows row, backs := k.backs.filter (fun b => b.1 != line) ++ [(line, data)] }) c else c
  if again then repairRow ch line resource c else c

/-- An uncorrectable line: counted, located, listed as poison; eight such lines on one channel within 1 ms make the channel fail (R156). -/
def uncorrectable (ch line : Nat) (resource : Bool) (c : Ctl) : Ctl :=
  let c := logEvent 0x0311 3 3 (line * 64) (eccLast ch 2 line 0 (addF (Reg.DRC_ECC_UE.COUNT ch) c))
  let c := repairRow ch line resource (poisonAdd line 1 c)
  let ts := (line, c.uptime) :: (chanSt c ch).ueTimes.filter (fun t => t.1 != line && decide (c.uptime ≤ t.2 + 1000000))
  let c := updChan ch (fun k => { k with ueTimes := ts.take 8 }) c
  if 8 ≤ ts.length then channelFail ch 3 c else c

/-! Returned data (R113, R120, R145). -/

/-- The merge read of a partial write has returned: the entry takes the merged line, and the reads that waited for it are answered. -/
def mergeReturn (ch line : Nat) (data : List Byte) (poison : Bool) (c : Ctl) : Ctl :=
  let k := chanSt c ch
  let served := k.waiting.filter (fun e => e.line == line)
  let c := updChan ch (fun k => { k with
    wq := k.wq.map (fun e => if e.line = line ∧ !e.merged then
      { e with data := overlay e.data e.mask data, mask := fullMask, poison := e.poison || poison, merged := true } else e)
    waiting := k.waiting.filter (fun e => e.line != line) }) c
  served.foldl (fun c e =>
    let got := overlay e.overData e.overMask data
    match e.who with
    | .source s tag => respondRead s tag got (poison || e.overPoison) (dropFlight e.id c)
    | .fetch kind id i => fetchGot kind id i got (poison || e.overPoison) c
    | _ => c) c

/-- The line goes to the one who waits for it. -/
def deliver (ch : Nat) (e : REntry) (data : List Byte) (poison : Bool) (c : Ctl) : Ctl :=
  match e.who with
  | .source s tag => respondRead s tag data poison (dropFlight e.id c)
  | .merge => mergeReturn ch e.line data poison c
  | .fetch kind id i => fetchGot kind id i data poison c
  | .scrub => c

/-- The check of a delivered line (R150, R151): a command that reached another line of the channel, whose fold differs, is seen as uncorrectable. -/
def lineCheck (c : Ctl) (ch line : Nat) (reached : Option Nat) (fs : List Flip) : EccOut :=
  let astray := match reached with | some l => decide (lineFold c l ≠ lineFold c line) | none => false
  if astray then .uncorrectable else eccCheck (markOf c ch (markIndex (lineAddr c line))) fs

/-- DRAM read data crosses back; an uncorrectable line is answered with all ones, and merged into as it is stored (R125, R145). `flips` are the bits
in error, `reached` the line that the command reached when it went astray (R151), `resource` whether a repair resource is left. -/
def readReturn (dram : List Host.Cell) (poison : List Nat) (ch : Nat) (flips : List Flip) (reached : Option Nat) (resource : Bool) (c : Ctl) : Ctl :=
  match (chanSt c ch).issued with
  | [] => c
  | e :: rest =>
    let c := updChan ch (fun k => { k with issued := rest }) c
    let v := dramLine dram poison (reached.getD e.line)
    let fs := if v.2 then poisonFlips ++ flips else flips
    let got := delivered flips v.1
    let back := match e.who with | .merge => false | _ => true
    engines (pmeChecks (match lineCheck c ch e.line reached fs with
      | .clean => deliver ch e got false c
      | .poisoned => deliver ch e got true (eccLast ch 3 e.line 0 c)
      | .corrected d vs =>
        let good := correct d vs got
        deliver ch e good false (corrected ch e.line d good back resource c)
      | .uncorrectable => deliver ch e (if back then onesLine else got) true (uncorrectable ch e.line resource c)))

def execReadDataReturn (ch : Fin 8) (back : ReadBack) (resource : Bool) (s : State) : Host.Outcome State Fault Refusal :=
  .next (onCtl (readReturn s.dram s.poison ch.val back.flips back.reached resource) s)

/-! Refresh (R147, R160). -/

/-- One step of a lane toward its new centre: at most one tap and one Vref step; ADJ_COUNT and LAST_TIME follow. -/
def towards (n a b : Nat) : Nat := if a < b then min b (a + n) else max b (a - n)
def moved (a b : Nat) : Nat := (a - b) + (b - a)

def laneKey (kind unit rank lane : Nat) : Nat := ((kind * 64 + unit) * 2 + rank) * 128 + lane

def laneStep (taps vref now : Nat) (m : LaneMeas) (v : LaneVal) : LaneVal :=
  let r := { v with rdDly := towards taps v.rdDly m.rdDly, wrDly := towards taps v.wrDly m.wrDly
                    rdVref := towards vref v.rdVref m.rdVref, wrVref := towards vref v.wrVref m.wrVref }
  let n := moved r.rdDly v.rdDly + moved r.wrDly v.wrDly + moved r.rdVref v.rdVref + moved r.wrVref v.wrVref
  if n = 0 then r else { r with adj := min 65535 (v.adj + n), time := now }

/-- The lane has reached its centre. -/
def laneThere (m : LaneMeas) (v : LaneVal) : Bool :=
  v.rdDly == m.rdDly && v.wrDly == m.wrDly && v.rdVref == m.rdVref && v.wrVref == m.wrVref

def stepLane (kind unit taps vref : Nat) (m : LaneMeas) (c : Ctl) : Ctl :=
  let now := nowNs c / 1000000000 % 4294967296
  let lanes := mapUpd LaneVal.init c.cal.lanes (laneKey kind unit m.rank m.lane) (laneStep taps vref now m)
  { c with cal := { c.cal with lanes := lanes } }

def laneDone (kind unit : Nat) (c : Ctl) (m : LaneMeas) : Bool :=
  laneThere m (mapGet LaneVal.init c.cal.lanes (laneKey kind unit m.rank m.lane))

/-- A refresh boundary of a rank: its lanes move one step; lanes at their centre need no more (R160). -/
def applyStep (ch rank : Nat) (c : Ctl) : Ctl :=
  let c := ((chanSt c ch).applying.filter (fun m => m.rank == rank)).foldl (fun c m => stepLane 0 ch 1 1 m c) c
  updChan ch (fun k => { k with applying := k.applying.filter (fun m => !laneDone 0 ch c m) }) c

/-- The open rows of some banks close; the hit counters stay (R142). -/
def closeRows (p : Nat → Bool) (m : AMap BankRow) : AMap BankRow :=
  (m.map (fun e => if p e.1 then (e.1, { e.2 with row := none }) else e)).filter (fun e => e.2 != ⟨none, 0, 0⟩)

/-- A refresh of a rank issues, in same-bank mode a round of them over every bank: its rows close. An all-bank refresh ends at a refresh boundary,
at which pending lane adjustments make a step; in same-bank mode it takes the place of a round while adjustments are pending, so no step is missed
(R147, R160). -/
def refreshOnce (ch rank : Nat) (c : Ctl) : Ctl :=
  let pending := (chanSt c ch).applying.any (fun m => m.rank == rank)
  let allBank := getF (Reg.DRC_TOPO.REF_SB ch) c == 0 || pending
  let c := updChan ch (fun k => { k with banks := closeRows (fun b => b / 256 == rank) k.banks }) c
  if allBank then applyStep ch rank c else c

def refreshTimes (ch rank : Nat) : Nat → Ctl → Ctl
  | 0, c => c
  | n + 1, c => refreshTimes ch rank n (refreshOnce ch rank c)

def postponedOf (c : Ctl) (ch rank : Nat) : Nat := mapGet 0 (chanSt c ch).postponed rank
def postponedAll (c : Ctl) (ch : Nat) : Nat := postponedOf c ch 0 + postponedOf c ch 1
def setPostponed (ch rank n : Nat) (c : Ctl) : Ctl :=
  let c := updChan ch (fun k => { k with postponed := mapSet 0 k.postponed rank n }) c
  setF (Reg.DRC_STATUS.POSTPONED ch) (postponedAll c ch) c

/-- The postponed refreshes of a rank issue back to back. -/
def catchUp (ch rank : Nat) (c : Ctl) : Ctl := setPostponed ch rank 0 (refreshTimes ch rank (postponedOf c ch rank) c)

/-- A rank's refresh falls due (R147): the scheduler may postpone it, up to 4 of the channel, while a batch runs or reads wait. Otherwise it issues,
with those of the rank that were postponed, and with those of the other rank too when 4 are postponed (log entry 122). -/
def refreshDue (ch rank : Nat) (postpone : Bool) (c : Ctl) : Ctl :=
  if !chActive c ch then c
  else
    let busy := getF (Reg.DRC_STATUS.BATCH ch) c == 1 || !(chanSt c ch).rq.isEmpty
    if postpone && busy && decide (postponedAll c ch < 4) then setPostponed ch rank (postponedOf c ch rank + 1) c
    else
      let full := decide (4 ≤ postponedAll c ch)
      let c := refreshOnce ch rank (catchUp ch rank c)
      if full then catchUp ch (1 - rank) c else c

def execRefreshDue (ch : Fin 8) (rank : Fin 2) (postpone : Bool) (s : State) : Host.Outcome State Fault Refusal :=
  .next (onCtl (refreshDue ch.val rank.val postpone) s)

/-- The MR4 poll halves or restores tREFI (R147). -/
def execMr4Poll (ch : Fin 8) (hot : Bool) (s : State) : Host.Outcome State Fault Refusal :=
  .next (onCtl (fun c => if chActive c ch.val then setF (Reg.DRC_STATUS.FAST_REF ch.val) (b2n hot) c else c) s)

/-! Scrub and PHY (R149, R153). -/

/-- The next scrub read of a channel, when an internal entry is free for it (R117): frames not yet restored, and lines in the write queue, need
none. -/
def scrubRead (ch : Nat) (c : Ctl) : Ctl :=
  let total := linesPerChan c
  if !chActive c ch ∨ getF (Reg.DRC_SCRUB_CFG.ENABLE ch) c = 0 ∨ c.op = .saving ∨ total = 0 then c
  else
    let pos := (chanSt c ch).scrubLine
    let line := dpaOf c ch (pos * 64) / 64
    let next := (pos + 1) % total
    let skip := unrestored c (frameOfLine line) || (queuedWrite c line).isSome
    if !skip && !(readRoom c ch && flightRoom c 1) then c else
    let c := if unrestored c (frameOfLine line) ∨ (queuedWrite c line).isSome then c
      else { updChan ch (fun k => { k with rq := k.rq ++ [⟨c.pipe.nextId, line, 2, .scrub, 0, c.uptime, [], 0, false⟩] }) c with
        pipe := { c.pipe with nextId := c.pipe.nextId + 1 } }
    let c := setF (Reg.DRC_SCRUB_STATUS.PERCENT ch) (next * 100 / total) (updChan ch (fun k => { k with scrubLine := next }) c)
    if next = 0 then addF (Reg.DRC_SCRUB_STATUS.PASSES ch) c else c

def execPatrolScrubRead (ch : Fin 8) (s : State) : Host.Outcome State Fault Refusal := .next (onCtl (scrubRead ch.val) s)

/-- The PHY PLL loses lock: it relocks under self-refresh hold, in which the rows close, or the channel fails. -/
def pllLoss (ch : Nat) (relocked : Bool) (c : Ctl) : Ctl :=
  if !chActive c ch then c
  else if relocked then updChan ch (fun k => { k with banks := closeRows (fun _ => true) k.banks }) c
  else channelFail ch 1 c

def execPhyPllLockLoss (ch : Fin 8) (relocked : Bool) (s : State) : Host.Outcome State Fault Refusal :=
  .next (onCtl (pllLoss ch.val relocked) s)

end Sys2Proof.Machine
end

