-- ==== Sys2Proof/Machine/Calib.lean ====
section
/-! DEFINITION. Sys2Proof/Machine/Calib.lean: the commands of interface calibration (06_dram_and_calibration.md, R158-R164). -/
namespace Sys2Proof.Machine

/-- Runs take place in Restoring, Serving, Derated and Keep. -/
def calState (c : Ctl) : Bool := c.op == .restoring || c.op == .serving || c.op == .derated || c.op == .keep

def chPopulated (c : Ctl) (ch : Nat) : Bool := getF (Reg.DRC_TOPO.POPULATED ch) c == 1
def flashPopulated (c : Ctl) (m : Nat) : Bool := getF (Reg.FLC_CFG.WAYS m) c != 0 && dieInService c (m / 32)

/-- A round of DRAM runs is in progress. -/
def dramBusy (c : Ctl) : Bool := c.chans.any (fun e => e.2.calDue)
def flashBusy (c : Ctl) : Bool := !c.cal.flashDue.isEmpty

/-- The temperature has changed by at least the threshold since the last run. -/
def tempMoved (last : Nat) (now : Int) (dt : Nat) : Bool := decide (dt ≤ (now - signedOf 8 last).natAbs)

def markDram (ch : Nat) (c : Ctl) : Ctl := if chPopulated c ch && chActive c ch then updChan ch (fun k => { k with calDue := true }) c else c
def markFlash (m : Nat) (c : Ctl) : Ctl :=
  if flashPopulated c m then { c with cal := { c.cal with flashDue := setAdd c.cal.flashDue m } } else c

/-- M1's check (R158): `hub`, `s0` and `s1` are the readings of the sensors of each die (four and two), `aged` the interfaces whose
MAX_INTERVAL has passed (DRAM channel n as n, NAND channel m as 8 + m). A sensor covers two DRAM channels, or two clock groups of 8. -/
def calCheck (hub s0 s1 : List Int) (aged : List Nat) (c : Ctl) : Ctl :=
  if !calState c || !fwRunning c then c
  else
    let c := (List.range 8).foldl (fun c ch =>
      let moved := match hub[ch / 2]? with
        | some t => tempMoved (getF (Reg.CAL_DRAM_EYE.TEMP_LAST ch) c) t (getF Reg.CAL_CFG.DRAM_DT c)
        | none => false
      if moved || aged.contains ch then markDram ch c else c) c
    (List.range 64).foldl (fun c m =>
      let sens := if m < 32 then s0 else s1
      let moved := match sens[m % 32 / 16]? with
        | some t => tempMoved (getF (Reg.CAL_FLASH_EYE.TEMP_LAST m) c) t (getF Reg.CAL_CFG.FLASH_DT c)
        | none => false
      if moved || aged.contains (8 + m) then markFlash m c else c) c

def execCalibrationCheck (hub s0 s1 : List Int) (aged : List Nat) (s : State) : Host.Outcome State Fault Refusal :=
  .next (onCtl (calCheck hub s0 s1 aged) s)

/-! Storage of results (R163, R164). -/

/-- The data rate of an interface in MT/s: of a DRAM channel by DRC_TOPO.SPEED, of a NAND channel by its interface rate. -/
def calRate (kind unit : Nat) (c : Ctl) : Nat :=
  if kind = 0 then [4800, 5600, 6400, 7200].getD (getF (Reg.DRC_TOPO.SPEED unit) c) 0 else cfgF c Img.RATE

/-- A lane with the centres of a run, toward which it moves in steps (R160): what its record holds. -/
def centred (m : LaneMeas) (v : LaneVal) : LaneVal := { v with rdDly := m.rdDly, wrDly := m.wrDly, rdVref := m.rdVref, wrVref := m.wrVref }

/-- The record of a completed run of an interface: its values, the temperature and the time (R163). -/
def calRecord (kind unit : Nat) (temp : Int) (ms : List LaneMeas) (c : Ctl) : CalRec :=
  let now := c.cal.lanes.filter (fun e => e.1 / 16384 == kind && e.1 / 256 % 64 == unit)
  ⟨kind, unit, 0, calRate kind unit c, temp, nowNs c,
    ms.foldl (fun l m => mapUpd LaneVal.init l (laneKey kind unit m.rank m.lane) (centred m)) now⟩

/-- The record of an interface in the newest valid set (R163). -/
def calRecOf (c : Ctl) (kind unit : Nat) : Option CalRec :=
  let slots := if kind = 1 then c.ef.calFlash else c.ef.calDram
  match slots[getF (if kind = 1 then Reg.CAL_STATUS.FLASH_SLOT else Reg.CAL_STATUS.DRAM_SLOT) c]? with
  | some x => if x.crcGood then x.recs.find? (fun r => r.unit == unit) else none
  | none => none

/-- The slots of a kind, its slot with the newest set, and the field that shows it. -/
def calSlots (c : Ctl) (kind : Nat) : List CalSlot := if kind = 1 then c.ef.calFlash else c.ef.calDram
def calSlotFld (kind : Nat) : Fld := if kind = 1 then Reg.CAL_STATUS.FLASH_SLOT else Reg.CAL_STATUS.DRAM_SLOT
def slotSeq (x : CalSlot) : Nat := x.recs.foldl (fun n r => max n r.seq) 0

/-- M1 writes records to the slot that does not hold the newest valid set, beside the newest records of the other units; SEQUENCE goes up with
each write. -/
def calWriteSlot (kind : Nat) (recs : List CalRec) (c : Ctl) : Ctl :=
  let fld := calSlotFld kind
  let slots := calSlots c kind
  let seq := slots.foldl (fun n x => max n (slotSeq x)) 0 + 1
  let old := slots.getD (getF fld c) ⟨false, []⟩
  let others := (if old.crcGood then old.recs else []).filter (fun r => !recs.any (fun x => x.unit == r.unit))
  let new : CalSlot := ⟨true, (others ++ recs).map (fun r => { r with seq := seq })⟩
  let pair := if getF fld c = 0 then [old, new] else [new, old]
  let c := setF fld (1 - getF fld c) c
  if kind = 1 then { c with ef := { c.ef with calFlash := pair } } else { c with ef := { c.ef with calDram := pair } }

/-- A completed run's record is stored; with the firmware down it waits (R164). -/
def calStore (r : CalRec) (c : Ctl) : Ctl :=
  if fwRunning c then calWriteSlot r.kind [r] c
  else setF Reg.CAL_STATUS.STORE_PENDING 1 { c with cal := { c.cal with store := c.cal.store ++ [r] } }

/-- The firmware is back: what waits is stored. -/
def calStorePending (c : Ctl) : Ctl :=
  setF Reg.CAL_STATUS.STORE_PENDING 0 (c.cal.store.foldl (fun c r => calWriteSlot r.kind [r] c) { c with cal := { c.cal with store := [] } })

/-- The lanes of a record in their order: DRAM ranks with lanes 0 to 79, or NAND targets 0 to 3 with 8 lanes each. -/
def CalRec.order (r : CalRec) (ranks : Nat) : List LaneVal :=
  (if r.kind = 0 then (List.range ranks).flatMap (fun k => (List.range 80).map (laneKey 0 r.unit k))
   else (List.range 32).map (laneKey 1 r.unit 0)).map (mapGet LaneVal.init r.lanes)

/-- A lane entry of a record: 12 bytes (R163). -/
def LaneVal.bytes (v : LaneVal) : List Byte :=
  leBytes (v.rdDly % 512) 2 ++ leBytes (v.wrDly % 512) 2 ++ leBytes (v.rdVref % 128) 1 ++ leBytes (v.wrVref % 128) 1 ++ leBytes v.adj 2 ++ leBytes v.time 4

/-- A calibration record as the slot holds it: the 32-byte header with its CRC, and the lane entries (R163). -/
def CalRec.bytes (r : CalRec) (ranks : Nat) : List Byte :=
  let lanes := r.order ranks
  let head := leBytes 0x4C435058 4 ++ leBytes 1 2 ++ leBytes r.kind 1 ++ leBytes r.unit 1 ++ leBytes r.seq 4 ++ leBytes r.rate 2
    ++ leBytes (fieldOf 8 r.temp) 1 ++ leBytes lanes.length 1 ++ leBytes r.time 8 ++ leBytes 0 4
  let body := lanes.flatMap LaneVal.bytes
  head ++ leBytes (crc32 (head ++ body)) 4 ++ body

/-! DRAM runs (R159, R162). -/

def minOf (f : LaneMeas → Nat) (l : List LaneMeas) : Nat := l.foldl (fun n m => min n (f m)) 255

def setEyes (ms : List LaneMeas) (kind unit : Nat) (c : Ctl) : Ctl :=
  ms.foldl (fun c m =>
    let lanes := mapUpd LaneVal.init c.cal.lanes (laneKey kind unit m.rank m.lane) (fun v => { v with rdEye := min 255 m.rdEye, wrEye := min 255 m.wrEye })
    { c with cal := { c.cal with lanes := lanes } }) c

/-- The values of a full training, loaded at once. -/
def loadLanes (kind unit : Nat) (ms : List LaneMeas) (c : Ctl) : Ctl := ms.foldl (fun c m => stepLane kind unit 512 128 m c) c

def dramEye (ch : Nat) (temp : Int) (ms : List LaneMeas) (c : Ctl) : Ctl :=
  addF (Reg.CAL_DRAM_EYE.RUNS ch) (setF (Reg.CAL_DRAM_EYE.TEMP_LAST ch) (fieldOf 8 temp)
    (setF (Reg.CAL_DRAM_EYE.RD_EYE ch) (minOf (·.rdEye) ms) (setF (Reg.CAL_DRAM_EYE.WR_EYE ch) (minOf (·.wrEye) ms) (setEyes ms 0 ch c))))

def eyeEvent (kind unit : Nat) (ms : List LaneMeas) (c : Ctl) : Ctl :=
  let r := minOf (·.rdEye) ms
  let w := minOf (·.wrEye) ms
  if r < getF Reg.CAL_CFG.EYE_MIN c ∨ w < getF Reg.CAL_CFG.EYE_MIN c then
    logEvent 0x0401 4 2 (unit + kind * 256 + min 255 r * 65536 + min 255 w * 16777216) c else c

/-- An eye of a channel is below a limit (R162). -/
def eyeBelow (n : Nat) (ms : List LaneMeas) : Bool := decide (minOf (·.rdEye) ms < n) || decide (minOf (·.wrEye) ms < n)

/-- The ranks of a channel. -/
def dramRanks (c : Ctl) (ch : Nat) : Nat := getF (Reg.DRC_TOPO.RANKS ch) c + 1

/-- A measurement covers every DQ lane of every rank (R159). -/
def lanesFull (c : Ctl) (ch : Nat) (ms : List LaneMeas) : Bool :=
  (List.range (dramRanks c ch)).all (fun r => (List.range 80).all (fun l => ms.any (fun m => m.rank == r && m.lane == l)))

/-- The values of a full training or retrain stand: its eyes are shown, no adjustment is left, and the record is stored. -/
def trained (ch : Nat) (temp : Int) (ms : List LaneMeas) (c : Ctl) : Ctl :=
  let c := setF (Reg.CAL_DRAM_EYE.RD_EYE ch) (minOf (·.rdEye) ms) (setF (Reg.CAL_DRAM_EYE.WR_EYE ch) (minOf (·.wrEye) ms)
    (setEyes ms 0 ch (loadLanes 0 ch ms (updChan ch (fun k => { k with applying := [] }) c))))
  calStore (calRecord 0 ch temp ms c) c

/-- The full retrain under self-refresh hold (R149, R162), at most once in 10 minutes: the rows close; what it finds is loaded, or the channel
fails when no eye meets the limit of 8 taps. -/
def fullRetrain (ch : Nat) (temp : Int) (retrain : Option (List LaneMeas)) (c : Ctl) : Ctl :=
  let c := updChan ch (fun k => { k with lastRetrain := some c.uptime, applying := [], banks := closeRows (fun _ => true) k.banks }) c
  match retrain with
  | some ms => if eyeBelow 8 ms || !lanesFull c ch ms then channelFail ch 2 c else trained ch temp ms c
  | none => channelFail ch 2 c

/-- What an incremental run on a channel does (R159, R160, R162): it starts at a refresh boundary of every rank, so what was postponed has issued
and the rows are closed; `lanes` are the centres and eyes of every lane. The new centres are applied later, at refresh boundaries. An eye below 8
taps starts a full retrain, which finds `retrain`. -/
def runOn (ch : Nat) (temp : Int) (lanes : List LaneMeas) (retrain : Option (List LaneMeas)) (c : Ctl) : Ctl :=
  let c := (List.range (dramRanks c ch)).foldl (fun c r => refreshOnce ch r (catchUp ch r c)) c
  let c := setF Reg.CAL_STATUS.DRAM_CH ch (updChan ch (fun k => { k with calDue := false, applying := lanes }) c)
  let c := eyeEvent 0 ch lanes (dramEye ch temp lanes c)
  let rested := match (chanSt c ch).lastRetrain with | none => true | some t => decide (t + 600000000000 ≤ c.uptime)
  if eyeBelow 8 lanes && rested then fullRetrain ch temp retrain c else calStore (calRecord 0 ch temp lanes c) c

/-- M1 has the channel run: the firmware runs, or its reset found the pause in progress, which completes (R164). -/
def runMay (c : Ctl) (ch : Nat) : Bool := fwRunning c || c.cal.inPause == some ch

/-- A due channel runs. -/
def incrementalRun (ch : Nat) (temp : Int) (lanes : List LaneMeas) (retrain : Option (List LaneMeas)) (c : Ctl) : Ctl :=
  if !calState c || !runMay c ch || !chActive c ch || !(chanSt c ch).calDue || !lanesFull c ch lanes then c
  else runOn ch temp lanes retrain { c with cal := { c.cal with inPause := none } }

def execIncrementalRun (ch : Fin 8) (temp : Int) (lanes : List LaneMeas) (retrain : Option (List LaneMeas)) (s : State) :
    Host.Outcome State Fault Refusal := .next (onCtl (incrementalRun ch.val temp lanes retrain) s)

/-- A device reports a CRC failure of the write of a line (R157): it is retried three times; the channel then runs ZQ calibration and one incremental
run, which finds `lanes` and, below 8 taps, `retrain`, and retries three times more; then the channel fails. -/
def writeCrc (ch line : Nat) (temp : Int) (lanes : List LaneMeas) (retrain : Option (List LaneMeas)) (c : Ctl) : Ctl :=
  if !chActive c ch ∨ getF (Reg.DRC_TOPO.WCRC_EN ch) c = 0 then c
  else
    let n := mapGet 0 (chanSt c ch).wcrc line + 1
    let c := updChan ch (fun k => { k with wcrc := mapSet 0 k.wcrc line n }) c
    if 7 ≤ n then channelFail ch 4 c
    else
      let c := addF (Reg.DRC_WCRC.RETRIES ch) c
      if n = 4 then runOn ch temp lanes retrain (addF (Reg.DRC_WCRC.RECAL ch) c) else c

def execWriteCrcAlert (a : CrcAlert) (s : State) : Host.Outcome State Fault Refusal :=
  .next (onCtl (writeCrc a.ch.val a.line a.temp a.lanes a.retrain) s)

/-! Flash runs (R161, R162). -/

/-- The channel is marked for the handling of R278. -/
def markFlashChannel (m : Nat) (c : Ctl) : Ctl :=
  let c := if getF (Reg.FLC_STATUS.STATE m) c = 2 then setF (Reg.FLC_STATUS.STATE m) 4 c else c
  { c with cal := { c.cal with flashMarked := setAdd c.cal.flashMarked m } }

/-- An operation gap of a NAND channel: its lanes move by at most 4 taps and 2 Vref steps. -/
def flashGap (m : Nat) (c : Ctl) : Ctl :=
  let ms := mapGet [] c.cal.applying m
  let c := ms.foldl (fun c x => stepLane 1 m 4 2 x c) c
  { c with cal := { c.cal with applying := mapSet [] c.cal.applying m (ms.filter (fun x => !laneDone 1 m c x)) } }

/-- A class 1 to 3 descriptor is pending on the channel (R161, R278). -/
def urgentPending (c : Ctl) (ch : Nat) : Bool :=
  (List.range 8).any (fun w => (wayAt c (wayKey ch w)).queue.any (fun d => decide (d.cls ≤ 3)))

/-- No operation runs on the channel, and no programming of a save or read of a restore-on-touch waits for it (R161). -/
def flashGapNow (c : Ctl) (m : Nat) : Bool :=
  (List.range 8).all (fun w => (wayAt c (wayKey m w)).running.isNone && (wayAt c (wayKey m w)).suspended.isNone) && !urgentPending c m

/-- A NAND channel's run, between its operations: an eye below 8 taps, or a lane with no passing tap, marks the channel and leaves its values. -/
def flashRun (m : Nat) (temp : Int) (lanes : List LaneMeas) (c : Ctl) : Ctl :=
  if !calState c || !fwRunning c || !c.cal.flashDue.contains m || !flashGapNow c m then c
  else
    let c := { c with cal := { c.cal with flashDue := setDel c.cal.flashDue m } }
    let c := addF (Reg.CAL_FLASH_EYE.RUNS m) (setF (Reg.CAL_FLASH_EYE.TEMP_LAST m) (fieldOf 8 temp)
      (setF (Reg.CAL_FLASH_EYE.RD_EYE m) (minOf (·.rdEye) lanes) (setF (Reg.CAL_FLASH_EYE.WR_EYE m) (minOf (·.wrEye) lanes) (setEyes lanes 1 m c))))
    let c := eyeEvent 1 m lanes c
    if eyeBelow 8 lanes then markFlashChannel m c
    else
      let c := flashGap m { c with cal := { c.cal with applying := mapSet [] c.cal.applying m lanes } }
      calStore (calRecord 1 m temp lanes c) c

def execFlashInterfaceRun (ch : Fin 64) (temp : Int) (lanes : List LaneMeas) (s : State) : Host.Outcome State Fault Refusal :=
  .next (onCtl (flashRun ch.val temp lanes) s)

/-- CAL_CTRL requests (R167): discarded while a round runs or outside the states of R158. -/
def runDram (c : Ctl) : Ctl := if calState c && !dramBusy c then (List.range 8).foldl (fun c ch => markDram ch c) c else c
def runFlash (c : Ctl) : Ctl := if calState c && !flashBusy c then (List.range 64).foldl (fun c m => markFlash m c) c else c

def execRunDram (s : State) : Host.Outcome State Fault Refusal := .next (onCtl runDram s)
def execRunFlash (s : State) : Host.Outcome State Fault Refusal := .next (onCtl runFlash s)

end Sys2Proof.Machine
end

