-- ==== Sys2Proof/Machine/Awl.lean ====
section
/-! DEFINITION. Sys2Proof/Machine/Awl.lean: the descriptor operations of the Awl engines, their ends, erase-ahead, reclamation, wear
levelling, the tables, and the checks of dies and channels (10_flash_subsystem.md). A way key is channel × 8 + way. -/
namespace Sys2Proof.Machine

/-- The core does its flash work beside saves and starts. -/
def flashRuns (c : Ctl) : Bool := c.op == .restoring || c.op == .serving || c.op == .derated || c.op == .keep

/-! Descriptors (R255-R257). -/

def descOf (op : AwlOp) (a : DescArgs) (c : Ctl) : Desc :=
  ⟨op, a.cls, a.tag, a.block, a.page, a.pslc, a.step, a.count, slotsFor c op a.pslc a.count, false, a.frame⟩

/-- Class 4 while a slot of the Last in use is not ready, 7 otherwise and for the free set. -/
def eraseClass (c : Ctl) (setB : Bool) : Nat := if setB == c.save.lastB && decide (getF Reg.DTK_SOLE.READY c < slotTotal c) then 4 else 7

/-- A row of a superblock carries a page of a carry copy (R233). -/
def carryRow (c : Ctl) (wk b row : Nat) : Bool :=
  match sbOfBlock c wk b with
  | none => false
  | some (id, _) => c.reel.copies.any (fun x => x.carry && (match mapFind c.flash.units (locOf x.group x.unit) with
      | some u => u.sb == id && decide (u.index * 128 / rowPages c ≤ row) && decide (row ≤ (u.index * 128 + 127) / rowPages c)
      | none => false))

/-- The class of the work of a descriptor (R257); 0 for a read that serves no fetch in flight. -/
def workClass (c : Ctl) (wk : Nat) (op : AwlOp) (a : DescArgs) : Nat :=
  match op with
  | .programUnit => 2
  | .programWl => if carryRow c wk a.block a.page then 5 else 6
  | .read => (match a.frame with
      | none => 6
      | some f =>
        if c.op = .saving then (if c.save.complete.contains f then 2 else 0)
        else if c.restore.touch0 = some f ∨ c.restore.touch1 = some f then 1
        else if c.restore.bg0.contains f ∨ c.restore.bg1.contains f then 3 else 0)
  | .erase => (match soleEntryOf c wk a.block with | some e => eraseClass c e.1 | none => 7)
  | _ => 7

/-- The fields of a descriptor lie in their ranges, and its class is that of its work. -/
def descOk (c : Ctl) (ch : Nat) (op : AwlOp) (a : DescArgs) : Bool :=
  decide (a.way < diesPerChan c) && decide (1 ≤ a.cls) && a.cls == workClass c (wayKey ch a.way) op a && decide (a.block < blocksPerDie c) && decide (a.page < pagesPerBlock c)
  && decide (a.step ≤ cfgF c Img.RETRY_STEPS) && decide (a.tag < 65536)

/-- An operation with no condition of its own. -/
def plainDesc (op : AwlOp) (ch : Nat) (a : DescArgs) (c : Ctl) : Ctl :=
  if descOk c ch op a then submit (wayKey ch a.way) (descOf op a c) c else c

def execReset (ch : Fin 64) (a : DescArgs) (s : State) : Host.Outcome State Fault Refusal := .next (onCtl (plainDesc .reset ch.val a) s)
def execIdentify (ch : Fin 64) (a : DescArgs) (s : State) : Host.Outcome State Fault Refusal := .next (onCtl (plainDesc .identify ch.val a) s)
def execFeature (ch : Fin 64) (a : DescArgs) (s : State) : Host.Outcome State Fault Refusal := .next (onCtl (plainDesc .feature ch.val a) s)
def execTrain (ch : Fin 64) (a : DescArgs) (s : State) : Host.Outcome State Fault Refusal := .next (onCtl (plainDesc .train ch.val a) s)

/-- A pseudo-SLC program of one page in every plane: a page is programmed at most once per erase of its block (R220). -/
def programUnit (ch : Nat) (a : DescArgs) (c : Ctl) : Ctl :=
  if (blockAt c (wayKey ch a.way) a.block).pages.testBit a.page then c else plainDesc .programUnit ch { a with pslc := true } c
def execProgramUnit (ch : Fin 64) (a : DescArgs) (s : State) : Host.Outcome State Fault Refusal := .next (onCtl (programUnit ch.val a) s)

/-- A wordline of a superblock can be programmed (R266): its row has all its pages, it has not been programmed, and a parity member follows
the data members. -/
def wlReady (c : Ctl) (wk : Nat) (a : DescArgs) : Bool :=
  match sbOfBlock c wk a.block with
  | none => false
  | some (_, x) =>
    let m := wayChan wk % 16
    let w := wayAt c wk
    decide ((a.page + 1) * rowPages c ≤ x.pages) && !x.rowsDone.testBit (a.page * 16 + m)
    && (m != a.page % 16 || (List.range 16).all (fun n => n == m || x.rowsDone.testBit (a.page * 16 + n)))
    && !(w.queue ++ w.running.toList ++ w.suspended.toList).any (fun d => d.op == .programWl && d.block == a.block && d.page == a.page)

def programWl (ch : Nat) (a : DescArgs) (c : Ctl) : Ctl := if wlReady c (wayKey ch a.way) a then plainDesc .programWl ch { a with pslc := false } c else c
def execProgramWl (ch : Fin 64) (a : DescArgs) (s : State) : Host.Outcome State Fault Refusal := .next (onCtl (programWl ch.val a) s)

/-- A read of 1 to 16 pages per plane. One of class 1 suspends a program or an erase of its die (R258). -/
def readDesc (ch : Nat) (a : DescArgs) (c : Ctl) : Ctl := if 1 ≤ a.count ∧ a.count ≤ 16 then plainDesc .read ch a c else c
def execRead (ch : Fin 64) (a : DescArgs) (s : State) : Host.Outcome State Fault Refusal := .next (onCtl (readDesc ch.val a) s)

/-- A Sole block lies in a set that holds an image (R261). -/
def inHeldSet (c : Ctl) (r : BlockRec) : Bool := (r.pool == 2 && setHeld c false) || (r.pool == 3 && setHeld c true)

/-- A superblock under reclamation keeps no allocated unit: every relocation has its map record (R271). -/
def sbEmpty (c : Ctl) (id : Nat) : Bool := c.flash.reclaiming.contains id && !c.flash.units.any (fun e => e.2.sb == id)

/-- A block may be erased: never a retired or factory bad one, nor one that holds content still needed. -/
def mayErase (c : Ctl) (wk b : Nat) : Bool :=
  let r := blockAt c wk b
  match r.pool with
  | 0 => true
  | 1 => (match sbOfBlock c wk b with | some e => sbEmpty c e.1 | none => true)
  | 2 => !inHeldSet c r
  | 3 => !inHeldSet c r
  | 4 => true
  | _ => false

/-- A Sole block is retired outside a held set only; otherwise its cause stands until the set is free (log entry 24). -/
def retireSole (wk b cause : Nat) (c : Ctl) : Ctl :=
  if inHeldSet c (blockAt c wk b) then updBlock wk b (fun r => { r with cause := cause }) c else retire wk b cause c

/-- A block that leaves service out of a superblock under reclamation needs no replacement. -/
def retireReclaimed (wk b cause : Nat) (c : Ctl) : Ctl := retire wk b cause (updBlock wk b (fun r => { r with pool := 0 }) c)

/-- When the 16 blocks of a superblock under reclamation are erased and checked, or retired, they return to the copy pool (R271). -/
def sbFinish (id : Nat) (c : Ctl) : Ctl :=
  match mapFind c.flash.sbs id with
  | none => c
  | some x =>
    let ks := (groupChans x.group).map (fun ch => wayKey ch x.way)
    let all := ks.zip x.blocks
    if sbEmpty c id && all.all (fun e => (blockAt c e.1 e.2).erased || (blockAt c e.1 e.2).pool == 5) then
      let c := all.foldl (fun c e => updBlock e.1 e.2 (fun r => if r.pool = 1 then { r with pool := 0 } else r) c) c
      let c := updFlash (fun f => { f with sbs := mapErase f.sbs id, reclaiming := f.reclaiming.filter (· != id) }) c
      logTable (x.group / 4) 1 (addF (Reg.SAV_SD_RECLAIM.ERASED (x.group / 4)) c)
    else c

/-- An erase of a block: its new count is logged first, and the erase waits for that log page (R220, R254). A block whose count is used up, or
with a retirement outstanding, is retired instead. -/
def eraseBlock (wk : Nat) (d : Desc) (c : Ctl) : Ctl :=
  let b := d.block
  if !mayErase c wk b || !canTake c wk d then c
  else
    let r := blockAt c wk b
    let reclaimed := match sbOfBlock c wk b with | some e => if r.pool = 1 then some e.1 else none | none => none
    let out := fun (cause : Nat) (c : Ctl) => match reclaimed with
      | some id => sbFinish id (retireReclaimed wk b cause c)
      | none => retire wk b cause c
    if r.cause ≠ 0 then out r.cause c
    else
      let c := countErase wk b c
      if (blockAt c wk b).erases = 0xFFFFF then out 1 c else submit wk { d with needLog := true } c

def execErase (ch : Fin 64) (a : DescArgs) (s : State) : Host.Outcome State Fault Refusal :=
  .next (onCtl (fun c => if descOk c ch.val .erase a then eraseBlock (wayKey ch.val a.way) (descOf .erase a c) c else c) s)

def execEraseCheck (ch : Fin 64) (a : DescArgs) (s : State) : Host.Outcome State Fault Refusal :=
  .next (onCtl (plainDesc .eraseCheck ch.val a) s)

/-! Ends of operations (R255, R260, R263, R266, R272-R274). -/

/-- A block has passed its erase check. A Sole block outside its list becomes a spare, or goes back to the copy pool. -/
def checkPassed (wk b : Nat) (c : Ctl) : Ctl :=
  let c := logTable (wayDie wk) 1 (updBlock wk b (fun r => { r with erased := true, failedCheck := false }) c)
  let r := blockAt c wk b
  if r.pool = 1 then (match sbOfBlock c wk b with | some e => sbFinish e.1 c | none => c)
  else if r.pool = 2 ∨ r.pool = 3 then
    let setB := r.pool == 3
    let l := soleList c wk setB
    if l.entries.contains b ∨ l.spares.contains b then c
    else if l.spares.length < cfgF c Img.SOLE_SPARE then updSole wk setB (fun l => { l with spares := l.spares ++ [b] }) c
    else updBlock wk b (fun r => { r with pool := 0 }) c
  else c

/-- The first failed check has the block erased once more; a failure after that retires it (R274). -/
def recheck (wk b : Nat) (c : Ctl) : Ctl :=
  if (blockAt c wk b).failedCheck then retireSole wk b 1 c
  else updBlock wk b (fun r => { r with erased := false, failedCheck := true }) c

/-- A slot served by an entry of the Last in use is filled. -/
def entryFilled (c : Ctl) (wk i : Nat) : Bool := (entrySlots c wk i).any (fun s => slotFilled c s)

/-- A block fails its erase check (R263, R274). -/
def checkFailed (wk b : Nat) (c : Ctl) : Ctl :=
  let c := addF (Reg.FLC_FAIL.CHECK (wayChan wk)) c
  let r := blockAt c wk b
  if inHeldSet c r then c
  else if r.pool = 2 ∨ r.pool = 3 then
    match soleEntryOf c wk b with
    | none => recheck wk b (updSole wk (r.pool == 3) (fun l => { l with spares := l.spares.filter (· != b) }) c)
    | some (setB, i) =>
      if r.erased then
        if !(soleList c wk setB).spares.isEmpty then recheck wk b (replaceSole wk b c)
        else if setB == c.save.lastB && entryFilled c wk i then c
        else recheck wk b (replaceSole wk b c)
      else recheck wk b c
  else if r.pool = 1 ∧ r.failedCheck then
    match sbOfBlock c wk b with
    | some e => sbFinish e.1 (retireReclaimed wk b 1 c)
    | none => recheck wk b c
  else recheck wk b c

/-- A page that passed only with soft decoding marks its block suspect; a second mark within 30 days retires it. -/
def suspectMark (wk b : Nat) (c : Ctl) : Ctl :=
  let r := blockAt c wk b
  let now := nowNs c / 1000000000
  if r.suspect ∧ now ≤ r.suspectAt + 2592000 then retireSole wk b 3 c
  else logTable (wayDie wk) 1 (updBlock wk b (fun r => { r with suspect := true, suspectAt := now }) c)

/-- The units of a superblock that reach into a failed row are placed again in a new one (R266). -/
def placeAgain (id row : Nat) (c : Ctl) : Ctl :=
  match mapFind c.flash.sbs id with
  | none => c
  | some x =>
    let hits := fun (i : Nat) => decide (row ≤ (i * 128 + 127) / rowPages c)
    (c.flash.units.filter (fun e => (e.2.sb == id && !e.2.programmed && hits e.2.index) || (match e.2.dest with | some (sb, i) => sb == id && hits i && !placePassed c x i | none => false))).foldl
      (fun c e =>
        let p := takePlace x.group x.reloc c
        match p.1 with
        | none => p.2
        | some (sb, i) =>
          updFlash (fun f => { f with units := f.units.map (fun (y : Nat × CopyUnit) =>
            if y.1 ≠ e.1 then y else if y.2.dest.isSome then (y.1, { y.2 with dest := some (sb, i) }) else (y.1, { y.2 with sb := sb, index := i })) }) p.2) c

/-- A member of a copy row has passed, or failed. -/
def wlPassed (wk : Nat) (d : Desc) (c : Ctl) : Ctl :=
  match sbOfBlock c wk d.block with
  | none => c
  | some (id, _) =>
    markProgrammed (updSb id (fun x => { x with rowsDone := bitSet x.rowsDone (d.page * 16 + wayChan wk % 16) })
      (updBlock wk d.block (fun r => { r with erased := false, pages := bitSet r.pages d.page }) c))
def wlFailed (wk : Nat) (d : Desc) (c : Ctl) : Ctl :=
  let c := addF (Reg.FLC_FAIL.PROGRAM (wayChan wk)) (updBlock wk d.block (fun r => { r with erased := false, cause := 2, pages := bitSet r.pages d.page }) c)
  match sbOfBlock c wk d.block with
  | none => c
  | some (id, _) => placeAgain id d.page (closeSbAt id d.page c)

/-- What a completion does: STATUS 0 pass, 1 operation failed, 3 aborted. A read carries the pages that passed at a retry step, passed only with
soft decoding, and were rebuilt from parity. -/
def opEnd (wk : Nat) (d : Desc) (status retried soft rebuilt : Nat) (c : Ctl) : Ctl :=
  let ch := wayChan wk
  if status = 3 then abortedOp wk d c
  else match d.op with
  | .programUnit =>
    let c := updBlock wk d.block (fun r => { r with erased := false, pages := bitSet r.pages d.page }) c
    if status = 0 then c else addF (Reg.FLC_FAIL.PROGRAM ch) (updBlock wk d.block (fun r => { r with cause := 2 }) c)
  | .programWl => if status = 0 then wlPassed wk d c else wlFailed wk d c
  | .erase =>
    if status = 0 then
      submit wk { d with op := .eraseCheck, needLog := false, slots := slotsFor c .eraseCheck d.pslc 1 }
        (updBlock wk d.block (fun r => { r with pslc := d.pslc, erased := false, pages := 0 }) c)
    else
      let c := addF (Reg.FLC_FAIL.ERASE ch) c
      (match sbOfBlock c wk d.block with
        | some e => if (blockAt c wk d.block).pool = 1 then sbFinish e.1 (retireReclaimed wk d.block 1 c) else retireSole wk d.block 1 c
        | none => retireSole wk d.block 1 c)
  | .eraseCheck => if status = 0 then checkPassed wk d.block c else checkFailed wk d.block c
  | .read =>
    let c := setF (Reg.FLC_RETRY.RETRIED ch) (min 0xFFFF (getF (Reg.FLC_RETRY.RETRIED ch) c + retried)) c
    let c := setF (Reg.FLC_RETRY.SOFT ch) (min 0xFFFF (getF (Reg.FLC_RETRY.SOFT ch) c + soft)) c
    let c := if d.frame.isNone then c else
      setF Reg.SAV_RST_REBUILT.RETRIED (min 0xFFFF (getF Reg.SAV_RST_REBUILT.RETRIED c + retried + soft))
        (setF Reg.SAV_RST_REBUILT.REBUILT (min 0xFFFF (getF Reg.SAV_RST_REBUILT.REBUILT c + rebuilt)) c)
    if 0 < soft then suspectMark wk d.block c else c
  | .identify => if status = 0 then c else failWay wk c
  | .reset => c
  | .feature => c
  | .train => c

/-- A timeout (R260): the die is reset and the operation issued once more; a second one fails the die, which in Saving is dropped instead. -/
def opTimeout (wk : Nat) (c : Ctl) : Ctl :=
  let w := wayAt c wk
  match w.running with
  | none => c
  | some d =>
    let c := addF (Reg.FLC_FAIL.TIMEOUT (wayChan wk)) c
    if !w.timedOut then updWay wk (fun w => { w with timedOut := true }) c
    else
      let c := setBuf (wayChan wk) (bufUsed c (wayChan wk) - d.slots) (updWay wk (fun w => { w with running := none, timedOut := false }) c)
      let c := abortedOp wk d c
      if c.op = .saving then c else failWay wk c

/-- A completion of the operation in progress on a way: its buffer slots are returned, but for a failed unit program, whose data the rewrite
needs; `wait` is the time in µs that a class 1 read waited for its die. The gap applies lane adjustments (R161), and the way goes on. -/
def opComplete (wk status wait retried soft rebuilt : Nat) (c : Ctl) : Ctl :=
  match (wayAt c wk).running with
  | none => c
  | some d =>
    if status = 2 then opTimeout wk c
    else
      let ch := wayChan wk
      let keep := d.op == .programUnit && status == 1
      let c := updWay wk (fun w => { w with running := none, timedOut := false, held := if keep then w.held ++ [d.tag] else w.held }) c
      let c := if keep then c else setBuf ch (bufUsed c ch - d.slots) c
      let c := addF (Reg.FLC_OPS.COUNT ch) c
      let c := if d.cls = 1 ∧ d.op = .read then setF (Reg.FLC_SUSPEND.MAX_US ch) (min 0xFFFF (max wait (getF (Reg.FLC_SUSPEND.MAX_US ch) c))) c else c
      flashGap ch (runWay wk (opEnd wk d status retried soft rebuilt c))

def execDescriptorCompletion (ch : Fin 64) (way status wait retried soft rebuilt : Nat) (s : State) : Host.Outcome State Fault Refusal :=
  .next (onCtl (opComplete (wayKey ch.val way) status wait retried soft rebuilt) s)

def execOperationTimeout (ch : Fin 64) (way : Nat) (s : State) : Host.Outcome State Fault Refusal :=
  .next (onCtl (opTimeout (wayKey ch.val way)) s)

/-! Erase-ahead and checks of Sole blocks (R261-R263). -/

/-- An erase or a check of the block stands in the way's work. -/
def eraseBusy (c : Ctl) (wk b : Nat) : Bool :=
  let w := wayAt c wk
  (w.queue ++ w.running.toList ++ w.suspended.toList).any (fun d => d.block == b && (d.op == .erase || d.op == .eraseCheck))

/-- The entry of a set that is to be erased next: of those neither erased nor in work, the one that serves the lowest slot. -/
def nextErase (c : Ctl) (wk : Nat) (setB : Bool) : Option Nat :=
  if setHeld c setB then none
  else
    let todo := (soleList c wk setB).entries.zipIdx.filter (fun e => !(blockAt c wk e.1).erased && !eraseBusy c wk e.1)
    let key := fun (e : Nat × Nat) => ((entrySlots c wk e.2).head?).getD (slotTotal c)
    (todo.foldl (fun (best : Option (Nat × Nat)) e => match best with
      | none => some e
      | some x => if key e < key x then some e else some x) none).map (·.1)

/-- A block of a set that is to become a spare, or a refill from the copy pool when the list is short of spares. -/
def nextSpare (c : Ctl) (wk : Nat) (setB : Bool) : Option (Nat × Bool) :=
  if setHeld c setB then none
  else
    let l := soleList c wk setB
    let pool := if setB then 3 else 2
    let loose := (List.range (blocksPerDie c)).filter (fun b => (blockAt c wk b).pool == pool && !l.entries.contains b && !l.spares.contains b)
    match loose.find? (fun b => !eraseBusy c wk b) with
    | some b => some (b, false)
    | none => if l.spares.length + loose.length < cfgF c Img.SOLE_SPARE then (youngest c wk).map (fun b => (b, true)) else none

def soleErase (wk b cls : Nat) (c : Ctl) : Ctl := eraseBlock wk ⟨.erase, cls, 0, b, 0, true, 0, 0, 0, true, none⟩ c

def eraseAhead (wk : Nat) (c : Ctl) : Ctl :=
  if !flashRuns c then c
  else
    let a := c.save.lastB
    match nextErase c wk a, nextErase c wk (!a) with
    | some b, _ => soleErase wk b (eraseClass c a) c
    | none, some b => soleErase wk b (eraseClass c (!a)) c
    | none, none =>
      let take := fun (setB : Bool) (b : Nat) (fresh : Bool) (c : Ctl) =>
        let c := if fresh then logTable (wayDie wk) 1 (updBlock wk b (fun r => { r with pool := if setB then 3 else 2, erased := false }) c) else c
        soleErase wk b (eraseClass c setB) c
      match nextSpare c wk a, nextSpare c wk (!a) with
      | some (b, fresh), _ => take a b fresh c
      | none, some (b, fresh) => take (!a) b fresh c
      | none, none => c

def execEraseAhead (ch : Fin 64) (way : Nat) (s : State) : Host.Outcome State Fault Refusal :=
  .next (onCtl (eraseAhead (wayKey ch.val way)) s)

/-- The daily check of an erased block of a Sole list. -/
def soleCheck (wk : Nat) (setB : Bool) (entry : Nat) (c : Ctl) : Ctl :=
  match (soleList c wk setB).entries[entry]? with
  | none => c
  | some b =>
    if flashRuns c && !setHeld c setB && (blockAt c wk b).erased then
      submit wk ⟨.eraseCheck, 7, 0, b, 0, true, 0, 1, slotsFor c .eraseCheck true 1, false, none⟩ c
    else c

def execSolePeriodicCheck (ch : Fin 64) (way : Nat) (setB : Bool) (entry : Nat) (s : State) : Host.Outcome State Fault Refusal :=
  .next (onCtl (soleCheck (wayKey ch.val way) setB entry) s)

/-! The copy area (R266, R271, R276). -/

/-- The open row of a group's Reel or relocation superblock is completed with zero pages. -/
def rowPad (g : Nat) (reloc : Bool) (c : Ctl) : Ctl :=
  match openSb c g reloc with
  | some (id, x) =>
    let n := rowPages c
    if flashRuns c && decide (x.pages % n ≠ 0) then updSb id (fun x => { x with pages := min (pagesPerBlock c * n) ((x.pages + n - 1) / n * n) }) c else c
  | none => c

def execCopyRowPad (group : Fin 8) (reloc : Bool) (s : State) : Host.Outcome State Fault Refusal :=
  .next (onCtl (rowPad group.val reloc) s)

/-- The erase counts of a superblock's blocks, added up. -/
def sbErases (c : Ctl) (x : Superblock) : Nat :=
  (((groupChans x.group).map (fun ch => wayKey ch x.way)).zip x.blocks).foldl (fun n e => n + (blockAt c e.1 e.2).erases) 0
def sbAllocated (c : Ctl) (id : Nat) : Nat := (c.flash.units.filter (fun e => e.2.sb == id)).length

/-- A superblock is reclaimed: each of its allocated units takes a place in the relocation superblock. -/
def reclaimSb (id : Nat) (c : Ctl) : Ctl :=
  match mapFind c.flash.sbs id with
  | none => c
  | some x =>
    let c := updSb id (fun x => { x with closed := true }) (updFlash (fun f => { f with reclaiming := f.reclaiming ++ [id] }) c)
    let c := (((groupChans x.group).map (fun ch => wayKey ch x.way)).zip x.blocks).foldl (fun c e => updBlock e.1 e.2 (fun r => { r with erased := false }) c) c
    (c.flash.units.filter (fun e => e.2.sb == id)).foldl (fun c e =>
      let p := takePlace x.group true c
      updFlash (fun f => { f with units := f.units.map (fun (y : Nat × CopyUnit) => if y.1 = e.1 then (y.1, { y.2 with dest := p.1 }) else y) }) p.2) c

/-- The closed superblock of a group with the fewest allocated units; ties go to the lowest erase count. -/
def emptiest (c : Ctl) (g : Nat) : Option Nat :=
  ((c.flash.sbs.filter (fun e => e.2.group == g && e.2.closed && !c.flash.reclaiming.contains e.1)).foldl
    (fun (best : Option (Nat × Superblock)) e => match best with
      | none => some e
      | some x =>
        let a := sbAllocated c e.1
        let b := sbAllocated c x.1
        if a < b ∨ (a = b ∧ sbErases c e.2 < sbErases c x.2) then some e else some x) none).map (·.1)

/-- A group with fewer than 8 free superblocks reclaims; so does one with a failed die, whose live units are relocated (R264). -/
def reclaimGroup (g : Nat) (c : Ctl) : Ctl :=
  if flashRuns c && dieInService c (g / 4) && groupExists c g && (decide (freeSbs c g < 8) || groupFailed c g) then
    (match emptiest c g with | some id => reclaimSb id c | none => c)
  else c

def execReclamationStart (group : Fin 8) (s : State) : Host.Outcome State Fault Refusal := .next (onCtl (reclaimGroup group.val) s)

/-- The copy-pool blocks of a die, the least and the most erased of them. -/
def copyBlocks (c : Ctl) (wk : Nat) : List Nat :=
  (List.range (blocksPerDie c)).filter (fun b => decide ((blockAt c wk b).pool ≤ 1))
def spread (c : Ctl) (wk : Nat) : Nat :=
  let l := (copyBlocks c wk).map (fun b => (blockAt c wk b).erases)
  match l with
  | [] => 0
  | x :: xs => xs.foldl max x - xs.foldl min x

def wearLevel (wk : Nat) (c : Ctl) : Ctl :=
  if flashRuns c && dieInService c (wayDie wk) && decide (cfgF c Img.WEAR_SPREAD < spread c wk) then
    let low := (copyBlocks c wk).foldl (fun (best : Option Nat) b => match best with
      | none => some b
      | some x => if (blockAt c wk b).erases < (blockAt c wk x).erases then some b else some x) none
    match low.bind (sbOfBlock c wk) with
    | some (id, _) => if c.flash.reclaiming.contains id then c else reclaimSb id c
    | none => c
  else c

def execWearLevelling (ch : Fin 64) (way : Nat) (s : State) : Host.Outcome State Fault Refusal :=
  .next (onCtl (wearLevel (wayKey ch.val way)) s)

/-! The tables (R254, R268, R271). -/

/-- A map record becomes durable for a unit: a programmed copy is logged, a programmed relocation takes effect. -/
def logUnit (c : Ctl) (u : CopyUnit) : CopyUnit :=
  match u.dest with
  | some (sb, i) => if unitPassed c sb i then { u with sb := sb, index := i, dest := none, programmed := true, logged := true } else { u with logged := u.logged || u.programmed }
  | none => { u with logged := u.logged || u.programmed }

/-- The log pages of a save die are programmed on both halves; erases that waited for them go on. -/
def logProgram (d : Nat) (c : Ctl) : Ctl :=
  if !dieInService c d || !flashRuns c then c
  else
    let moved := (c.flash.units.filter (fun e => decide (e.1 / 4 % 2 = d) && (match e.2.dest with | some (sb, i) => unitPassed c sb i | none => false))).length
    let r := drawN c
    let c := setF (Reg.SAV_SD_TABLES.LOG_PCT d) (r.1 % 101) r.2
    let c := setF (Reg.SAV_SD_RECLAIM.RELOCATED d) (min 0xFFFF (getF (Reg.SAV_SD_RECLAIM.RELOCATED d) c + moved)) c
    let c := updFlash (fun f => { f with units := f.units.map (fun (e : Nat × CopyUnit) => if e.1 / 4 % 2 = d then (e.1, logUnit c e.2) else e) }) c
    let c := updFlash (fun f => if d = 0 then { f with log0 := 0 } else { f with log1 := 0 }) c
    (dieWays c d).foldl (fun c wk => runWay wk (updWay wk (fun w => { w with queue := w.queue.map (fun q => { q with needLog := false }) }) c)) c

def execTableLogProgram (d : Fin 2) (s : State) : Host.Outcome State Fault Refusal := .next (onCtl (logProgram d.val) s)

/-- A new checkpoint is written on both halves when the log has passed 50 %. -/
def checkpointWrite (d : Nat) (c : Ctl) : Ctl :=
  if dieInService c d && flashRuns c && decide (50 < getF (Reg.SAV_SD_TABLES.LOG_PCT d) c) then
    setF (Reg.SAV_SD_TABLES.LOG_PCT d) 0 (setF (Reg.SAV_SD_TABLES.MIRRORED d) 1
      (updFlash (fun f => if d = 0 then { f with ckpt0 := true } else { f with ckpt1 := true }) c))
  else c

def execCheckpointWrite (d : Fin 2) (s : State) : Host.Outcome State Fault Refusal := .next (onCtl (checkpointWrite d.val) s)

/-! Checks of dies and channels (R278, R279). -/

/-- The program-time check of a die: 8 pseudo-SLC units on a free copy-pool block, which is then erased back to the pool. It passes when the
median busy time, in 10 ns, is at most 1.25 × t_c. -/
def timeCheck (wk median : Nat) (c : Ctl) : Ctl :=
  match (if flashRuns c && dieInService c (wayDie wk) && (wayAt c wk).state == 1 && !wayFailed c wk then youngest c wk else none) with
  | none => c
  | some b =>
    let ok := decide (4 * median ≤ 5 * getF Reg.SAV_TIMING.T_C c)
    let c := updBlock wk b (fun r => { r with erased := false, pages := r.pages ||| 255 }) c
    eraseBlock wk ⟨.erase, 7, 0, b, 0, true, 0, 0, 0, true, none⟩ (updWay wk (fun w => { w with median := min 0xFFFF median, passed := ok, lag := !ok }) c)

def execProgramTimeCheck (ch : Fin 64) (way median : Nat) (s : State) : Host.Outcome State Fault Refusal :=
  .next (onCtl (timeCheck (wayKey ch.val way) median) s)

/-- A marked channel is trained: `lanes` are the values of a passing run. The third failure fails the channel. -/
def retrain (ch : Nat) (pass : Bool) (lanes : List LaneMeas) (c : Ctl) : Ctl :=
  if !flashRuns c || !dieInService c (ch / 32) || flcState c ch != 4 || urgentPending c ch then c
  else if pass then
    let c := { c with cal := { c.cal with flashMarked := setDel c.cal.flashMarked ch } }
    setF (Reg.FLC_STATUS.STATE ch) 2 (updFlash (fun f => { f with trainFails := mapErase f.trainFails ch }) (loadLanes 1 ch lanes c))
  else
    let n := mapGet 0 c.flash.trainFails ch + 1
    let c := updFlash (fun f => { f with trainFails := mapSet 0 f.trainFails ch n }) c
    if n < 3 then c
    else
      let c := { c with cal := { c.cal with flashMarked := setDel c.cal.flashMarked ch } }
      let c := (List.range 8).foldl (fun c w => updWay (wayKey ch w) (fun w => { w with queue := [], running := none, suspended := none, held := [] }) c) c
      let c := logEvent 0x0702 7 3 ch (setF (Reg.FLC_STATUS.STATE ch) 5 (setBuf ch 0 c))
      (List.range (diesPerChan c)).foldl (fun c w => if failedPeers c (wayKey ch w) = 2 then
        logEvent 0x0705 7 3 (ch / 32 * (setCount c / 2) + w * 2 + ch / 16 % 2) c else c) c

def execChannelRetrain (ch : Fin 64) (pass : Bool) (lanes : List LaneMeas) (s : State) : Host.Outcome State Fault Refusal :=
  .next (onCtl (retrain ch.val pass lanes) s)

end Sys2Proof.Machine
end

