-- ==== Sys2Proof/Machine/Eflash.lean ====
section
/-! DEFINITION. Sys2Proof/Machine/Eflash.lean: the commands of the embedded-flash controller and its host port (R427-R434). -/
namespace Sys2Proof.Machine

/-! Host port (R428, R429). -/

/-- A host-port command runs or waits for its bank. -/
def hostBusy (c : Ctl) : Bool :=
  c.efl.waiting.isSome || (c.efl.bank1.running.toList ++ c.efl.bank1.susp).any (fun o => o.host)

def unlocked (c : Ctl) : Bool := getF Reg.EFL_HSTATUS.UNLOCKED c == 1
/-- Any other host-port write breaks the unlock sequence. -/
def keyBreak (c : Ctl) : Ctl := updEfl (fun e => { e with keyStep := false }) c

/-- EFL_HKEY: 0x3A7C and then 0xC5E1 unlock; another value locks. -/
def hostKey (v : Nat) (c : Ctl) : Ctl :=
  if !fwRunning c then c
  else if v % 65536 = 0x3A7C then updEfl (fun e => { e with keyStep := true }) c
  else if v % 65536 = 0xC5E1 then
    if c.efl.keyStep then setF Reg.EFL_HSTATUS.UNLOCKED 1 (keyBreak c) else c
  else setF Reg.EFL_HSTATUS.UNLOCKED 0 (keyBreak c)

def execEflHkey (v : Word) (s : State) : Host.Outcome State Fault Refusal := .next (onCtl (hostKey v.toNat) s)

def execEflUnlockTimeout (s : State) : Host.Outcome State Fault Refusal := .next (onCtl (setF Reg.EFL_HSTATUS.UNLOCKED 0) s)

/-- EFL_HBUF: a word is appended, lowest byte first; a full buffer takes none. -/
def hostBuf (v : Nat) (c : Ctl) : Ctl :=
  if !fwRunning c ∨ hostBusy c then c
  else
    let c := keyBreak c
    if c.efl.hbuf.length < 512 then updEfl (fun e => { e with hbuf := e.hbuf ++ leBytes v 4 }) c else c

def execEflHbuf (v : Word) (s : State) : Host.Outcome State Fault Refusal := .next (onCtl (hostBuf v.toNat) s)

/-- EFL_HADDR. -/
def hostAddr (v : Nat) (c : Ctl) : Ctl := if !fwRunning c ∨ hostBusy c then c else setF Reg.EFL_HADDR.OFFSET v (keyBreak c)

def hostOffset (c : Ctl) : Nat := getF Reg.EFL_HADDR.OFFSET c
def hostBytes (c : Ctl) (a n : Nat) : List Byte := memReadList 0xFF c.ef.cells a n

def setHdata (bs : List Byte) (c : Ctl) : Ctl :=
  [0, 1, 2, 3].foldl (fun c i => setF (Reg.EFL_HDATA.DATA i) (leNat ((bs.drop (i * 4)).take 4)) c) c

/-- What the ECC of a word read at an array address finds is counted; an uncorrectable word is an event (R425, R444, R454). -/
def countEcc (addr : Nat) (r : EccRead) (c : Ctl) : Ctl :=
  match r with
  | .clean => c
  | .corrected => addF Reg.EFL_ECC.CORRECTED c
  | .uncorrectable => logEvent 0x1001 16 2 (addr % 8388608) (addF Reg.EFL_ECC.UNCORRECTABLE c)

/-- The frame of a host-port command: discarded while BUSY. -/
def hostCmd (f : Ctl → Ctl) (c : Ctl) : Ctl := if !fwRunning c ∨ hostBusy c then c else f (keyBreak c)

/-- READ of one word, served like a fetch, which waited `stall` µs. -/
def hostRead (ecc : EccRead) (stall : Nat) : Ctl → Ctl := hostCmd (fun c =>
  let a := hostOffset c
  if a % 16 ≠ 0 then hostEnd 2 c
  else
    let ecc := if erasing c (hostBase + a) then EccRead.uncorrectable else ecc
    let c := countEcc (hostBase + a) ecc (suspendBank 1 stall c)
    if ecc = .uncorrectable then hostEnd 7 (setHdata (List.replicate 16 0xFF) c) else hostEnd 0 (setHdata (hostBytes c a 16) c))

def execEflRead (got : WordRead) (s : State) : Host.Outcome State Fault Refusal := .next (onCtl (hostRead got.ecc got.stall) s)

/-- A checked program or erase starts, or waits for its bank. -/
def hostStart (o : EflOp) (c : Ctl) : Ctl := bankNext (updEfl (fun e => { e with waiting := some o }) c)

/-- PROGRAM: the requirements are checked in the order of their codes 1, 2, 4 and 3 (log entry 29). -/
def hostProgram : Ctl → Ctl := hostCmd (fun c =>
  let a := hostOffset c
  let n := c.efl.hbuf.length
  if !unlocked c then hostEnd 1 c
  else if a % 16 ≠ 0 ∨ n % 16 ≠ 0 ∨ n = 0 ∨ 512 < a % 512 + n then hostEnd 2 c
  else if !mayProgram c then hostEnd 4 c
  else if (hostBytes c a n).any (fun b => b != 0xFF) then hostEnd 3 c
  else hostStart ⟨false, true, hostBase + a, c.efl.hbuf, 0⟩ c)

def execEflProgram (s : State) : Host.Outcome State Fault Refusal := .next (onCtl hostProgram s)

/-- ERASE of one sector. -/
def hostErase : Ctl → Ctl := hostCmd (fun c =>
  let a := hostOffset c
  if !unlocked c then hostEnd 1 c
  else if a % 4096 ≠ 0 then hostEnd 2 c
  else if !mayProgram c then hostEnd 4 c
  else hostStart ⟨true, true, hostBase + a, [], 0⟩ c)

def execEflErase (s : State) : Host.Outcome State Fault Refusal := .next (onCtl hostErase s)

def hostBlank : Ctl → Ctl := hostCmd (fun c =>
  let a := hostOffset c
  if a % 4096 ≠ 0 then hostEnd 2 c
  else if (memSlice c.ef.cells a 4096).isEmpty then hostEnd 0 c else hostEnd 5 c)

def execEflBlankCheck (s : State) : Host.Outcome State Fault Refusal := .next (onCtl hostBlank s)

def hostClearBuf : Ctl → Ctl := hostCmd (fun c => hostEnd 0 (updEfl (fun e => { e with hbuf := [] }) c))

def execEflClearBuf (s : State) : Host.Outcome State Fault Refusal := .next (onCtl hostClearBuf s)

/-- EFL_HCMD written as a register: other values are discarded. A READ started so meets no error and no wait (log entry 144). -/
def hostCommand (cmd : Nat) (c : Ctl) : Ctl :=
  match cmd % 16 with
  | 1 => hostRead .clean 0 c
  | 2 => hostProgram c
  | 3 => hostErase c
  | 4 => hostBlank c
  | 5 => hostClearBuf c
  | _ => c

/-! Fetches and ends of operations (R429, R432, R433). -/

/-- A fetch of the array at an address: what runs in its bank is suspended, and `stall` is how long the fetch waited, in µs. -/
def fetch (addr stall : Nat) (ecc : EccRead) (c : Ctl) : Ctl :=
  if !hubPowered c ∨ 0x800000 ≤ addr then c
  else
    let b := addr / 4194304
    let ecc := if erasing c addr then EccRead.uncorrectable else ecc
    countEcc addr ecc (suspendBank b stall c)

def execEflFetch (addr stall : Nat) (ecc : EccRead) (s : State) : Host.Outcome State Fault Refusal := .next (onCtl (fetch addr stall ecc) s)

/-- No fetch has been pending for 1 µs: the last suspended operation goes on. An erase suspended by a save trigger does not (R434). -/
def resume (b : Nat) (c : Ctl) : Ctl :=
  let k := bankOf c b
  match k.running, k.susp with
  | none, o :: rest => if o.erase && (c.op == .saving || c.op == .saved) then c else setBank b { k with running := some o, susp := rest } c
  | _, _ => c

def execEflResume (bank : Fin 2) (s : State) : Host.Outcome State Fault Refusal := .next (onCtl (resume bank.val) s)

/-- A program or an erase and its verify end. `failAt` is the word at which a program failed after its retries, or says that an erase failed
twice. -/
def opDone (b : Nat) (failAt : Option Nat) (c : Ctl) : Ctl :=
  let k := bankOf c b
  match k.running with
  | none => c
  | some o =>
    let c := setBank b { k with running := none } c
    if !o.host then
      let next := match c.ef.clearing, failAt with
        | some n, none => if n + 1 < 128 then some (n + 1) else none
        | x, _ => x
      bankNext (updEf (fun e => { e with clearing := next, stale := if next.isNone then [] else e.stale }) c)
    else
      let a := o.addr - hostBase
      let c := if o.erase then
          match failAt with
          | none => hostEnd 0 (updEf (fun e => { e with cells := memClear e.cells a 4096 }) c)
          | some _ => hostEnd 6 (eflUnfinished o c)
        else
          let c := updEfl (fun e => { e with hbuf := [] }) c
          match failAt with
          | none => hostEnd 0 (updEf (fun e => { e with cells := memWriteList 0xFF e.cells a o.data }) c)
          | some n =>
            let r := drawBytes 16 c
            hostEnd 6 (updEf (fun e => { e with cells := memWriteList 0xFF (memWriteList 0xFF e.cells a (o.data.take (n * 16))) (a + n * 16) r.1 }) r.2)
      bankNext c

def execEflOperationDone (bank : Fin 2) (failAt : Option Nat) (s : State) : Host.Outcome State Fault Refusal :=
  .next (onCtl (opDone bank.val failAt) s)

/-- The controller clock runs at 200 MHz from W3 on (R430). -/
def eflWaits (low : Bool) (c : Ctl) : Nat := if c.op = .waking ∧ !wakeDone c 3 then 0 else if low then 4 else 3

/-- The band that VS[0] of `vs` mV gives (R430): L below 995 mV, H from 1,000 mV on, where it has stayed for 1 ms, and between them the band in force. -/
def bandLow (vs : Nat) (c : Ctl) : Bool := if vs < 995 then true else if 1000 ≤ vs then false else getF Reg.EFL_STATUS.BAND_L c == 1

def waitBand (vs : Nat) (c : Ctl) : Ctl :=
  let low := bandLow vs c
  if hubPowered c then setF Reg.EFL_STATUS.WS (eflWaits low c) (setF Reg.EFL_STATUS.BAND_L (b2n low) c) else c

def execEflWaitBand (vs : Nat) (s : State) : Host.Outcome State Fault Refusal := .next (onCtl (waitBand vs) s)

end Sys2Proof.Machine
end

