-- ==== Sys2Proof/Machine/Energy.lean ====
section
/-! DEFINITION. Sys2Proof/Machine/Energy.lean: the commands of the energy store (12_energy_store.md): measurement, charge
interval, capacity, usable energy and charger. Charges are in 10 µA·s, currents of the charger in µA. -/
namespace Sys2Proof.Machine

/-! Measurement (R311, R312, R314). -/

/-- The charger states of NRG_STATUS.CHG_STATE. -/
def chgState (c : Ctl) : Nat := getF Reg.NRG_STATUS.CHG_STATE c

def setChg (n : Nat) (c : Ctl) : Ctl :=
  let was := getF Reg.NRG_STATUS.CHG_STATE c
  let c := setF Reg.NRG_STATUS.CHG_STATE n c
  if (n = 5 ∨ n = 7) ∧ was ≠ n then sbAlertSource 7 c else c

/-- I_MIN = I_CHG ÷ 16, in µA (R325). -/
def chgMin (c : Ctl) : Nat := getF Reg.NRG_CHG_CFG.I_CHG c * 1000 / 16

/-- The store is a LiFePO4 battery. -/
def isLfp (c : Ctl) : Bool := getF Reg.NRG_CFG.CHEM c == 1

/-- Limit an interval end to 0 .. C (R314). -/
def clampQ (cap : Nat) (v : Int) : Int := max 0 (min v cap)

/-- Put an anchor: point value and interval (R315). -/
def anchor (q lo hi : Int) (c : Ctl) : Ctl :=
  setF Reg.NRG_Q.Q (fieldOf 40 q)
    { c with nrg := { c.nrg with q := q, qLo := clampQ c.nrg.cap lo, qHi := clampQ c.nrg.cap hi } }

/-- The full anchor of R315. -/
def fullAnchor (c : Ctl) : Ctl :=
  let n : Int := c.nrg.cap
  anchor n (n - n / 200) n c

/-- Add the charge of one or two milliseconds of a current to the counter and to the interval, and widen it (R312, R314). -/
def countCharge (code : Int) (ms : Nat) (c : Ctl) : Ctl :=
  let sh := getF Reg.NRG_CFG.SHUNT c
  if sh = 0 then c else
    let d : Int := 16777216 * sh
    let n := code * 12000000 + c.nrg.rem
    let dq := n / d
    let w := c.nrg.wRem + 2000000 * ms + dq.natAbs * cfgF c Img.GAIN_ERR * sh
    let wq : Int := (w / (sh * 10000) : Nat)
    let q := c.nrg.q + dq
    setF Reg.NRG_Q.Q (fieldOf 40 q)
      { c with nrg := { c.nrg with
          rem := n % d, count := signedOf 40 (fieldOf 40 (c.nrg.count + dq)), wRem := w % (sh * 10000), q := q
          qLo := clampQ c.nrg.cap (c.nrg.qLo + dq - wq), qHi := clampQ c.nrg.cap (c.nrg.qHi + dq + wq) } }

/-- Current in mA of a converter code (R311: 24 bits over ±60 mV). -/
def codeMa (sh : Nat) (code : Int) : Int := if sh = 0 then 0 else code * 120000000 / (16777216 * sh)

/-- Resistance in use: the median of the last 16 measurements, R_INT_NOM below 4 of them (R320). -/
def insertSorted (x : Nat) : List Nat → List Nat
  | [] => [x]
  | y :: ys => if x ≤ y then x :: y :: ys else y :: insertSorted x ys

def rintInUse (c : Ctl) : Nat :=
  let s := c.nrg.rints.foldr insertSorted []
  if s.length < 4 then cfgF c Img.R_INT_NOM else s.getD (s.length / 2) 0

/-- R_int from a step of the current by at least C/10 (R320). -/
def rintMeasure (ma0 ma1 : Int) (mv0 mv1 : Nat) (c : Ctl) : Ctl :=
  let di := ma1 - ma0
  let dv : Int := (mv1 : Int) - mv0
  if di = 0 ∨ di.natAbs * 3600000 < c.nrg.cap then c else
    let c := { c with nrg := { c.nrg with rints := ((dv * 10000 / di).toNat :: c.nrg.rints).take 16 } }
    setF Reg.NRG_RINT.SAMPLES c.nrg.rints.length (setF Reg.NRG_RINT.R_INT (rintInUse c) c)

/-! Open-circuit curve (R309, R316, R322). -/

/-- Entry `n` of the OCV table at the store, in mV. -/
def ocvMv (c : Ctl) (n : Nat) : Nat := cfgF c (Img.OCV n) * getF Reg.NRG_CFG.CELLS c

/-- The charge whose rest voltage is `mv`, rounded down or up, searching the segments below `n`. -/
def ocvChargeFrom (c : Ctl) (up : Bool) (mv : Nat) : Nat → Nat
  | 0 => 0
  | n + 1 =>
    let v := ocvMv c n
    let d := ocvMv c (n + 1) - v
    if v ≤ mv then
      if d = 0 then 0 else ((n * d + (mv - v)) * c.nrg.cap + (if up then 20 * d - 1 else 0)) / (20 * d)
    else ocvChargeFrom c up mv n

/-- The charge whose open-circuit voltage is `mv` (R316): through the OCV table, or V ÷ V_FULL for a supercapacitor. -/
def ocvCharge (c : Ctl) (up : Bool) (mv : Nat) : Nat :=
  if isLfp c then (if ocvMv c 20 ≤ mv then c.nrg.cap else ocvChargeFrom c up mv 20)
  else
    let vf := getF Reg.NRG_LIMITS.V_FULL c
    if vf = 0 then 0 else min c.nrg.cap ((mv * c.nrg.cap + (if up then vf - 1 else 0)) / vf)

/-- The sum of the pairs of OCV entries of the segments below `n`. -/
def ocvSum (c : Ctl) : Nat → Nat
  | 0 => 0
  | n + 1 => ocvSum c n + ocvMv c n + ocvMv c (n + 1)

/-- E(Q) of R322: the open-circuit energy from empty to charge q, in 10⁻⁸ J. -/
def ocvEnergy (c : Ctl) (q : Nat) : Nat :=
  let cap := c.nrg.cap
  if cap = 0 then 0
  else if isLfp c then
    let i := min 19 (20 * q / cap)
    let r := 20 * q - i * cap
    let v := ocvMv c i
    (cap * ocvSum c i + 2 * v * r + (ocvMv c (i + 1) - v) * r * r / cap) / 40
  else q * q * getF Reg.NRG_LIMITS.V_FULL c / (2 * cap)

/-- I_save of R322 in mA. -/
def iSave (c : Ctl) : Nat :=
  saveCurrent (getF Reg.DTK_SAVE_POWER.WATTS c) (cfgF c Img.ETA) (getF Reg.NRG_LIMITS.V_CUT c)

/-- Q_cut of R322 for a current in mA: the smallest charge whose voltage less I × R_int is V_CUT. -/
def qCut (c : Ctl) (ma : Nat) : Nat :=
  ocvCharge c true (getF Reg.NRG_LIMITS.V_CUT c + (ma * rintInUse c + 9999) / 10000)

/-- E_use of R322 in 0.1 J, with the cold derating; 0 while the store is absent (R324). -/
def eUse (c : Ctl) : Nat :=
  if getF Reg.NRG_STATUS.ABSENT c = 1 then 0 else
    let lo := c.nrg.qLo.toNat
    let qc := qCut c (iSave c)
    if lo ≤ qc then 0 else
      let gain := (ocvEnergy c lo - ocvEnergy c qc) * cfgF c Img.ETA / 1000
      let loss := iSave c * rintInUse c * (lo - qc) / 10000
      let e := (gain - loss) / 10000000
      let t : Int := if getF Reg.NRG_STATUS.NTC_FAULT c = 1 then signedOf 8 (cfgF c Img.DIS_TMIN)
        else signedOf 8 (getF Reg.NRG_STATUS.TEMP c)
      if t < 0 then e * (1000 - cfgF c Img.COLD_PCT * t.natAbs) / 1000 else e

/-- E_need(D) of R323 in 0.1 J, saturating. -/
def eNeed (c : Ctl) (d : Nat) : Nat :=
  let r := getF Reg.SAV_RATE.R_EFF c
  if r = 0 then 0xFFFFFF else
    min 0xFFFFFF (getF Reg.DTK_SAVE_POWER.WATTS c * (2500 + (d + sShadow c) * 2097152 / r) * 15 / 1000000)

/-! Learning (R316, R318, R319, R321). -/

/-- HEALTH and the store wear figure (R321), with the end-of-life Warning once per Waking. -/
def updateHealth (c : Ctl) : Ctl :=
  let nom := cfgF c Img.C_NOM * 10000
  if nom = 0 then c else
    let h := min 100 (100 * c.nrg.cap / nom)
    let eol := cfgF c Img.EOL_HEALTH
    let wear := if eol < 100 then min 100 (100 * (100 - h) / (100 - eol)) else 0
    let c := setF Reg.NRG_E_USE.WEAR wear (setF Reg.NRG_CAPACITY.HEALTH h
      (setF Reg.NRG_CAPACITY.C (c.nrg.cap / 10000) c))
    if h ≤ eol ∧ !c.nrg.eolSent then
      sbAlertSource 7 <| logEvent 0x0904 9 2 (h + getF Reg.NRG_LEARN.RESULT c * 256) { c with nrg := { c.nrg with eolSent := true } }
    else c

/-- Write the learned capacity (R318): C in use, kept in embedded flash. -/
def setCapacity (cap result pct : Nat) (c : Ctl) : Ctl :=
  let c := { c with nrg := { c.nrg with cap := cap, lastLearn := nowNs c, qHi := clampQ cap c.nrg.qHi, qLo := clampQ cap c.nrg.qLo } }
  let c := { c with ef := { c.ef with capacity := some cap, learnCount := satInc 8 c.ef.learnCount, lastLearn := nowNs c } }
  updateHealth (setF Reg.NRG_LEARN.DAYS 0 (setF Reg.NRG_LEARN.COUNT c.ef.learnCount
    (setF Reg.NRG_LEARN.LAST_PCT pct (setF Reg.NRG_LEARN.RESULT result c))))

/-- Learn the capacity from two rested rest points (R318). -/
def capacityLearn (a b : RestPt) (c : Ctl) : Ctl :=
  let cap := c.nrg.cap
  let dq := max a.q b.q - min a.q b.q
  if dq * 100 < 35 * cap ∨ 3 * cap < (a.hi - a.lo) * 100 ∨ 3 * cap < (b.hi - b.lo) * 100 ∨ dq = 0 then
    if c.nrg.held then setF Reg.NRG_LEARN.RESULT 4 c else c
  else
    let nom := cfgF c Img.C_NOM * 10000
    let new := (b.count - a.count).natAbs * cap / dq
    let pct := min 255 (if nom = 0 then 0 else new * 100 / nom)
    if new * 2 < nom ∨ 11 * nom < 10 * new then
      let c := setF Reg.NRG_LEARN.LAST_PCT pct (setF Reg.NRG_LEARN.RESULT 3 c)
      logEvent 0x0904 9 2 (getF Reg.NRG_CAPACITY.HEALTH c + 3 * 256) c
    else if new < cap then
      let c := setCapacity new 1 pct c
      logEvent 0x0904 9 2 (getF Reg.NRG_CAPACITY.HEALTH c + 1 * 256) c
    else setCapacity (min ((cap + new) / 2) (11 * nom / 10)) 2 pct c

/-- A reading of the rest voltage (R316): the rest interval is intersected with the counted one, or replaces it when they are disjoint. -/
def restAnchor (rested : Bool) (mv : Nat) (c : Ctl) : Ctl :=
  let tol := if isLfp c then (if rested then 5 else 20) * getF Reg.NRG_CFG.CELLS c else getF Reg.NRG_LIMITS.V_FULL c / 200
  let lo := ocvCharge c false (mv - tol)
  let hi := ocvCharge c true (mv + tol)
  let q := ocvCharge c false mv
  let nlo := max c.nrg.qLo lo
  let nhi := min c.nrg.qHi hi
  let c := if nlo ≤ nhi then anchor q nlo nhi c else anchor q lo hi (addF Reg.NRG_EVENTS.DISJOINT c)
  if rested then
    let p : RestPt := ⟨q, lo, hi, c.nrg.count, c.uptime⟩
    let c := match c.nrg.rested with
      | some a => capacityLearn a p c
      | none => c
    { c with nrg := { c.nrg with rested := some p, held := if getF Reg.NRG_STATUS.LEARNING c = 1 then c.nrg.held else false } }
  else c

/-- A rest point (R316). -/
def restPoint (rested : Bool) (mv : Nat) (c : Ctl) : Ctl := restAnchor rested mv (addF Reg.NRG_EVENTS.REST_POINTS c)

/-- The conditions of R319 on which a learn cycle starts. -/
def learnReady (c : Ctl) : Bool :=
  isLfp c && c.op == .serving && dieInService c 0 && dieInService c 1 && chgState c == 4
  && getF Reg.NRG_STATUS.LEARNING c == 0
  && (match c.nrg.rested with | some p => decide (c.uptime ≤ p.at_ + 600000000000) | none => false)
  && decide (signedOf 8 (cfgF c Img.DIS_TMIN) ≤ signedOf 8 (getF Reg.NRG_STATUS.TEMP c))
  && decide (signedOf 8 (getF Reg.NRG_STATUS.TEMP c) ≤ signedOf 8 (cfgF c Img.DIS_TMAX))

/-- Start a learn cycle: BACKUP_EN high, the charger off and held until a rest point after the end. -/
def learnStart (c : Ctl) : Ctl :=
  if learnReady c then
    let c := setChg 0 (setF Reg.NRG_STATUS.BACKUP 1 (setF Reg.NRG_STATUS.LEARNING 1 c))
    { c with nrg := { c.nrg with held := true, learnFrom := c.nrg.count, target := 0 } }
  else c

/-! Charger (R325, R326, R327). -/

/-- An off condition of R325 holds (the missing target is CHARGER_TARGET_TIMEOUT). -/
def chgOffCond (c : Ctl) : Bool :=
  getF Reg.NRG_STATUS.BACKUP c == 1 || getF Reg.HEEL_SAVE_CAUSE.LATCHED c == 1 || !fwRunning c

/-- The charger leaves its state for OFF, except from FAULT (R325). -/
def chgOff (c : Ctl) : Ctl :=
  let c := { c with nrg := { c.nrg with target := 0 } }
  if chgState c = 7 then c else setChg 0 c

/-- The store temperature lies within CHG_TMIN to CHG_TMAX less a margin, and the thermistor is good. -/
def chgTempOk (margin : Int) (c : Ctl) : Bool :=
  let t := signedOf 8 (getF Reg.NRG_STATUS.TEMP c)
  getF Reg.NRG_STATUS.NTC_FAULT c == 0 && decide (signedOf 8 (cfgF c Img.CHG_TMIN) + margin ≤ t)
  && decide (t + margin ≤ signedOf 8 (cfgF c Img.CHG_TMAX))

/-- The store is at or below its recharge level (R325). -/
def atRecharge (c : Ctl) : Bool :=
  getF Reg.NRG_STATUS.ABSENT c == 1
  || (if isLfp c then decide (c.nrg.q * 100 ≤ 97 * (c.nrg.cap : Int))
      else decide (getF Reg.NRG_VOLTAGE.STORE c * 100 ≤ 98 * getF Reg.NRG_LIMITS.V_FULL c))

/-- PRE or CC, with the target at I_MIN (the first row of R325). -/
def chgBegin (c : Ctl) : Ctl :=
  let pre := getF Reg.NRG_STATUS.ABSENT c == 1
    || (isLfp c && decide (getF Reg.NRG_VOLTAGE.STORE c < 2800 * getF Reg.NRG_CFG.CELLS c))
  setChg (if pre then 1 else 2) { c with nrg := { c.nrg with target := chgMin c, iH := chgMin c } }

/-- Headroom H of R327 in mV. -/
def headroom (c : Ctl) : Int := (getF Reg.NRG_VOLTAGE.INPUT c : Int) - cfgF c Img.VIN_FALL_REF

/-- The band of R327: I_H falls by 12.5 % below 0.70 V and rises by I_CHG ÷ 64 above 0.80 V. -/
def bandIH (c : Ctl) : Nat :=
  let ich := getF Reg.NRG_CHG_CFG.I_CHG c * 1000
  if headroom c < 700 then max (chgMin c) (c.nrg.iH - c.nrg.iH / 8)
  else if 800 < headroom c then min ich (c.nrg.iH + ich / 64)
  else c.nrg.iH

/-- The input-power term of R326, in µA. -/
def powerLimit (c : Ctl) : Nat :=
  let v := getF Reg.NRG_VOLTAGE.STORE c
  let ich := getF Reg.NRG_CHG_CFG.I_CHG c * 1000
  if v = 0 then ich else getF Reg.NRG_CHG_CFG.P_IN_MAX c * cfgF c Img.CHG_EFF * 1000000 / v

/-- The target current of R326 in CC and CV, and the limit flags. -/
def chgTarget (cvOut : Nat) (c : Ctl) : Ctl :=
  let ich := getF Reg.NRG_CHG_CFG.I_CHG c * 1000
  let iH := bandIH c
  let lim := getF Reg.NRG_CTRL.CHG_LIMIT c * 1000
  let a := min ich (if lim = 0 then ich else lim)
  let b := if chgState c = 3 then min a (cvOut * 1000) else a
  let p := powerLimit c
  let m := min b (min p iH)
  let t := max (chgMin c) (min m (c.nrg.target + ich / 64))
  setF Reg.NRG_STATUS.LIMIT_P (b2n (p == m && decide (p < b))) (setF Reg.NRG_STATUS.LIMIT_H (b2n (iH == m && decide (iH < b)))
    { c with nrg := { c.nrg with target := t, iH := iH } })

/-- The 1 ms update of the charger by M1 (R325, R326, R327). An off condition goes before a temperature outside the window (R328, log entry 101). -/
def chargerUpdate (cvOut : Nat) (c : Ctl) : Ctl :=
  if chgState c = 7 then { c with nrg := { c.nrg with target := 0 } }
  else if chgOffCond c then chgOff c
  else if !chgTempOk 0 c then setChg 6 { c with nrg := { c.nrg with target := 0 } }
  else match chgState c with
    | 0 =>
      if getF Reg.HUB_CFG_LOCK.LOCK c = 1 ∧ !c.nrg.held then
        if atRecharge c then chgBegin c else setChg 4 { c with nrg := { c.nrg with target := 0 } }
      else c
    | 1 => { c with nrg := { c.nrg with target := chgMin c } }
    | 2 => chgTarget cvOut c
    | 3 => chgTarget cvOut c
    | _ => { c with nrg := { c.nrg with target := 0 } }

/-- The voltage transitions of R325: PRE to CC, CC at V_FULL, and DONE at the recharge level; ABSENT clears (R324). -/
def chgVoltage (c : Ctl) : Ctl :=
  let v := getF Reg.NRG_VOLTAGE.STORE c
  match chgState c with
  | 1 =>
    let c := if 1000 ≤ v then setF Reg.NRG_STATUS.ABSENT 0 c else c
    if 2800 * getF Reg.NRG_CFG.CELLS c ≤ v ∧ 1000 ≤ v then setChg 2 c else c
  | 2 =>
    if getF Reg.NRG_LIMITS.V_FULL c ≤ v then
      if isLfp c then setChg 3 c else fullAnchor (setChg 4 { c with nrg := { c.nrg with target := 0 } })
    else c
  | 4 => if atRecharge c ∧ !chgOffCond c then
      setChg 2 { c with nrg := { c.nrg with target := chgMin c, iH := chgMin c } } else c
  | _ => c

/-- The integration of R328 and the lowest voltage while a save draws on the store: from save start until BACKUP_EN falls. -/
def saveEnergy (ma : Int) (mv : Nat) (c : Ctl) : Ctl :=
  if (c.op = .saving ∨ c.op = .saved) ∧ getF Reg.NRG_STATUS.BACKUP c = 1 then
    let e := c.nrg.saveE + mv * ma.natAbs
    let vm := min 255 (mv / 100)
    let v0 := getF Reg.NRG_LAST_SAVE.V_MIN c
    let c := { c with nrg := { c.nrg with saveE := e } }
    setF Reg.NRG_LAST_SAVE.ENERGY (min 0xFFFFFF (e / 100000000))
      (setF Reg.NRG_LAST_SAVE.V_MIN (if v0 = 0 then vm else min v0 vm) c)
  else c

/-- Rest (R316): the store is at rest while the current is below C/100; the minutes of continuous rest. -/
def restTrack (ma : Int) (c : Ctl) : Ctl :=
  if ma.natAbs * 36000000 < c.nrg.cap then
    let t := c.nrg.restFrom.getD c.uptime
    setF Reg.NRG_STATUS.REST_MIN (min 255 ((c.uptime - t) / 60000000000)) (setF Reg.NRG_STATUS.RESTING 1
      { c with nrg := { c.nrg with restFrom := some t } })
  else setF Reg.NRG_STATUS.REST_MIN 0 (setF Reg.NRG_STATUS.RESTING 0 { c with nrg := { c.nrg with restFrom := none } })

/-- The SOC figures of NRG_SOC. -/
def updateSoc (c : Ctl) : Ctl :=
  let cap := c.nrg.cap
  if cap = 0 then c else
    setF Reg.NRG_SOC.SOC (min 1000 (c.nrg.q.toNat * 1000 / cap))
      (setF Reg.NRG_SOC.SOC_LO (c.nrg.qLo.toNat * 1000 / cap) (setF Reg.NRG_SOC.SOC_HI (c.nrg.qHi.toNat * 1000 / cap) c))

/-- The 1 ms sample of the converter: current code, store and input voltage in mV (R311, R312, R314, R319, R320, R325, R328). -/
def preciseSample (code : Int) (storeMv inputMv : Nat) (c : Ctl) : Ctl :=
  if !hubPowered c then c else
    let sh := getF Reg.NRG_CFG.SHUNT c
    let net := code - c.nrg.offset
    let ma := codeMa sh net
    let ma0 := codeMa sh c.nrg.prevCode
    let mv0 := c.nrg.prevMv
    let c := if c.nrg.gap then countCharge ((c.nrg.prevCode + net) / 2) 1 c else c
    let c := countCharge net 1 { c with nrg := { c.nrg with gap := false } }
    let c := if mv0 = 0 then c else rintMeasure ma0 ma mv0 storeMv c
    let c := setF Reg.NRG_CURRENT.MA (fieldOf 32 ma) (setF Reg.NRG_VOLTAGE.STORE storeMv (setF Reg.NRG_VOLTAGE.INPUT inputMv c))
    let c := { c with nrg := { c.nrg with prevCode := net, prevMv := storeMv } }
    let c := updateSoc (restTrack ma (saveEnergy ma storeMv (chgVoltage c)))
    if getF Reg.NRG_STATUS.LEARNING c = 1 ∧ 40 * (c.nrg.cap : Int) ≤ (c.nrg.learnFrom - c.nrg.count) * 100 then learnEnd c else c

def execPreciseSample (code : Int) (storeMv inputMv : Nat) (s : State) : Host.Outcome State Fault Refusal :=
  .next (onCtl (preciseSample code storeMv inputMv) s)

/-- R311: the converter shorts its inputs for 1 ms and takes the reading as the new offset; the millisecond is counted later. -/
def execOffsetCalibration (code : Int) (s : State) : Host.Outcome State Fault Refusal :=
  .next (onCtl (fun c => if hubPowered c then { c with nrg := { c.nrg with offset := code, gap := true } } else c) s)

/-- The store temperature every 100 ms (R311, R324, R325, R329). -/
def storeTemp (t : Int) (c : Ctl) : Ctl :=
  if !hubPowered c then c else
    let bad := decide (t < -40) || decide (125 < t)
    let was := getF Reg.NRG_STATUS.NTC_FAULT c
    let c := setF Reg.NRG_STATUS.TEMP (fieldOf 8 t) (setF Reg.NRG_STATUS.NTC_FAULT (b2n bad) c)
    let c := if bad ∧ was = 0 then logEvent 0x0905 9 2 0 c else c
    let low := decide (t < signedOf 8 (cfgF c Img.DIS_TMIN))
    let out := !bad && (low || decide (signedOf 8 (cfgF c Img.DIS_TMAX) < t))
    let c := if out ∧ !c.nrg.tempOut then logEvent 0x0906 9 2 (b2n (!low) + fieldOf 8 t * 256) c else c
    let c := { c with nrg := { c.nrg with tempOut := out } }
    if chgState c = 7 ∨ chgOffCond c then c
    else if !chgTempOk 0 c then setChg 6 { c with nrg := { c.nrg with target := 0 } }
    else if chgState c = 6 ∧ chgTempOk 3 c then setChg 0 c
    else c

def execStoreTempSample (t : Int) (s : State) : Host.Outcome State Fault Refusal := .next (onCtl (storeTemp t) s)

/-- Over-voltage (R313): PWM low and FAULT; a fourth trip within one Waking latches it. -/
def overVoltage (c : Ctl) : Ctl :=
  if !hubPowered c then c else
    let c := addF Reg.NRG_EVENTS.OV_TRIPS (setChg 7 { c with nrg := { c.nrg with target := 0 } })
    let n := getF Reg.NRG_EVENTS.OV_TRIPS c
    if n = 4 then logEvent 0x0902 9 3 (n * 256) c else c

def execOverVoltage (s : State) : Host.Outcome State Fault Refusal := .next (onCtl overVoltage s)

/-- A rested rest point of R316 at the store voltage given in mV. -/
def execRestPoint (storeMv : Nat) (s : State) : Host.Outcome State Fault Refusal :=
  .next (onCtl (fun c => if hubPowered c && getF Reg.NRG_STATUS.RESTING c == 1 then restPoint true storeMv c else c) s)

/-- NRG_CTRL.LEARN (R319): discarded when a start condition fails. -/
def execLearn (s : State) : Host.Outcome State Fault Refusal := .next (onCtl learnStart s)

/-- NRG_CTRL.LEARN_STOP (R319). -/
def execLearnStop (s : State) : Host.Outcome State Fault Refusal := .next (onCtl learnEnd s)

/-- An automatic learn cycle falls due LEARN_DAYS days after the last accepted learning (R319). -/
def execLearnCycleDue (s : State) : Host.Outcome State Fault Refusal :=
  .next (onCtl (fun c => if cfgF c Img.LEARN_DAYS = 0 then c else learnStart c) s)

/-- M1 recomputes E_use (R322, R323) and the days since the last learning, and ends a learn cycle at its floor (R319). -/
def eUseRecompute (c : Ctl) : Ctl :=
  if !(hubPowered c && fwRunning c) then c else
    let e := eUse c
    let n := eNeed c (getF Reg.DTK_DIRTY.D c)
    let c := setF Reg.NRG_E_USE.E_USE (min 0xFFFFFF e) (setF Reg.NRG_E_NEED.E_NEED n
      (setF Reg.NRG_E_NEED.RATIO (if n = 0 then 255 else min 255 (e * 16 / n)) c))
    let c := setF Reg.NRG_LEARN.DAYS (min 255 ((nowNs c - c.nrg.lastLearn) / 86400000000000)) c
    if getF Reg.NRG_STATUS.LEARNING c = 1 ∧ e ≤ 2 * eNeed c (getF Reg.DTK_BUDGET_CFG.VALUE c) then learnEnd c else c

def execEUseRecompute (s : State) : Host.Outcome State Fault Refusal := .next (onCtl eUseRecompute s)

/-- M1's 1 ms update of the charger, with the output of its CV loop in mA (R326). -/
def execChargerTargetUpdate (cvOut : Nat) (s : State) : Host.Outcome State Fault Refusal :=
  .next (onCtl (fun c => if hubPowered c && fwRunning c then chargerUpdate cvOut c else c) s)

/-- The fast guard of R327 halves the target, not below I_MIN. -/
def execHeadroomGuard (s : State) : Host.Outcome State Fault Refusal :=
  .next (onCtl (fun c =>
    if 1 ≤ chgState c ∧ chgState c ≤ 3 then
      let t := max (chgMin c) (c.nrg.target / 2)
      { c with nrg := { c.nrg with target := t, iH := min c.nrg.iH t } }
    else c) s)

/-- M1 has written no target for 5 ms: an off condition (R325). -/
def execChargerTargetTimeout (s : State) : Host.Outcome State Fault Refusal := .next (onCtl chgOff s)

/-- Current below C/20 for 60 s in CV: DONE and a full anchor (R315, R325). -/
def execCvTermination (s : State) : Host.Outcome State Fault Refusal :=
  .next (onCtl (fun c => if chgState c = 3 then fullAnchor (setChg 4 { c with nrg := { c.nrg with target := 0 } }) else c) s)

/-- Headroom below 0.6 V at I_MIN for 10 ms: HOLD, with a Warning at most once an hour (R325, R327). -/
def holdEntry (c : Ctl) : Ctl :=
  if 1 ≤ chgState c ∧ chgState c ≤ 3 then
    let c := addF Reg.NRG_EVENTS.HOLDS (setChg 5 { c with nrg := { c.nrg with target := 0 } })
    let due := match c.nrg.holdWarn with | none => true | some t => decide (t + 3600000000000 ≤ c.uptime)
    if due then logEvent 0x0901 9 2 (fieldOf 16 (headroom c) * 65536) { c with nrg := { c.nrg with holdWarn := some c.uptime } }
    else c
  else c

def execHoldEntry (s : State) : Host.Outcome State Fault Refusal := .next (onCtl holdEntry s)

/-- Headroom at or above 1.0 V for 1 s in HOLD: PRE or CC again (R325). -/
def execHoldExit (s : State) : Host.Outcome State Fault Refusal :=
  .next (onCtl (fun c => if chgState c = 5 ∧ !chgOffCond c then chgBegin c else c) s)

/-- The store below V_FULL for 60 s in FAULT, with at most 3 trips: OFF (R325). -/
def execChargerFaultClear (s : State) : Host.Outcome State Fault Refusal :=
  .next (onCtl (fun c =>
    if chgState c = 7 ∧ getF Reg.NRG_EVENTS.OV_TRIPS c ≤ 3 ∧ getF Reg.NRG_STATUS.ABSENT c = 0 then setChg 0 c else c) s)

/-- 60 s of precharge of an absent store end (R324): it has come up, or the charger enters FAULT, which then holds with ABSENT. -/
def execPrechargeTimeout (storeMv : Nat) (s : State) : Host.Outcome State Fault Refusal :=
  .next (onCtl (fun c =>
    if getF Reg.NRG_STATUS.ABSENT c = 1 ∧ chgState c ≠ 7 then
      if 1000 ≤ storeMv then setF Reg.NRG_STATUS.ABSENT 0 (setF Reg.NRG_VOLTAGE.STORE storeMv c)
      else logEvent 0x0902 9 3 (getF Reg.NRG_EVENTS.OV_TRIPS c * 256) (setChg 7 { c with nrg := { c.nrg with target := 0 } })
    else c) s)

/-- The cut-off anchor of R315, for the store current at that instant. -/
def cutoffAnchor (c : Ctl) : Ctl :=
  let q : Int := qCut c (signedOf 32 (getF Reg.NRG_CURRENT.MA c)).natAbs
  let w : Int := c.nrg.cap / 50
  setF Reg.NRG_STATUS.CUTOFF 1 (anchor q (q - w) (q + w) c)

end Sys2Proof.Machine
end

