-- ==== Sys2Proof/Machine/Perud.lean ====
section
/-! DEFINITION. Sys2Proof/Machine/Perud.lean: the commands of the Perud links and the guest port (14_perud_fabric_and_guest_port.md). -/
namespace Sys2Proof.Machine

/-! Bring-up (R352). -/

/-- At least one module of a link reports the adapter active: TRAIN to HELLO. -/
def linkTrained (k : Nat) (m0 m1 x80 x81 : Bool) (rate : Nat) (c : Ctl) : Ctl :=
  if linkSt c k = 1 ∧ (m0 ∨ m1) then
    let c := setF (Reg.PRD_LK_STATUS.M0_UP k) (b2n m0) (setF (Reg.PRD_LK_STATUS.M1_UP k) (b2n m1)
      (setF (Reg.PRD_LK_STATUS.M0_X8 k) (b2n x80) (setF (Reg.PRD_LK_STATUS.M1_X8 k) (b2n x81)
      (setF (Reg.PRD_LK_STATUS.RATE k) rate c))))
    let c := if k = 2 then setF Reg.GST_STATUS.DEGRADED (b2n (!(m0 && m1))) c else c
    let c := if m0 && m1 then c else logEvent 0x0C01 12 2 (k + (if m0 then 1 else 0) * 256) c
    sendHello k (setLinkSt k 2 (updLink k (fun _ => Link.init) c))
  else c

def execLinkTrained (k : Fin 3) (m0 m1 x80 x81 : Bool) (rate : Nat) (s : State) : Host.Outcome State Fault Refusal :=
  .next (onCtl (linkTrained k m0 m1 x80 x81 rate) s)

/-- A link fails in Waking: the die is missing in W9, or W10 has failed (R64). -/
def linkFails (k : Nat) (c : Ctl) : Ctl :=
  let c := setLinkSt k 0 c
  if c.op = .waking then
    if k = 2 then w10Fail c
    else { c with waking := { c.waking with missing := bitSet c.waking.missing k } }
  else c

/-- No module is active within 100 ms (R352); outside Waking the training of the guest link is retried until GUEST_RETRAIN_EXPIRY (R370). -/
def execTrainTimeout (k : Fin 3) (s : State) : Host.Outcome State Fault Refusal :=
  .next (onCtl (fun c => if linkSt c k = 1 ∧ (k ≠ 2 ∨ c.op = .waking) then linkFails k c else c) s)

/-- The role a partner names (R359). -/
def roleOf (k : Nat) : Nat := k + 1

def helloGood (k version role guestId : Nat) (c : Ctl) : Bool :=
  version == 1 && role == roleOf k
  && (k != 2 || cfgF c Img.GUEST_ID == 0 || guestId == cfgF c Img.GUEST_ID)

/-- HELLO is received: HELLO_ACK and CREDIT, or the link goes DOWN. -/
def hello (k version role guestId : Nat) (c : Ctl) : Ctl :=
  if linkSt c k = 2 then
    let c := if k = 2 then setF Reg.GST_ID.GUEST_ID guestId c else c
    if helloGood k version role guestId c then
      let c := sendLink k .helloAck [1, 0, if k = 2 then gstEra c else 0] [] (setLinkSt k 3 c)
      let c := updLink k (fun l => { l with rxSeq := 0, dropping := false }) c
      creditsSent k c
    else linkFails k (if k = 2 ∧ c.op = .waking then c else logEvent 0x0C01 12 2 k c)
  else c

def execHello (k : Fin 3) (version role guestId : Nat) (s : State) : Host.Outcome State Fault Refusal :=
  .next (onCtl (hello k version role guestId) s)

/-- HELLO_ACK is received: the partner has accepted the hub's HELLO. -/
def helloAck (k version role guestId : Nat) (c : Ctl) : Ctl :=
  if (linkSt c k = 2 ∨ linkSt c k = 3) ∧ helloGood k version role guestId c then
    creditsSent k (updLink k (fun l => { l with helloAcked := true }) c)
  else c

def execHelloAck (k : Fin 3) (version role guestId : Nat) (s : State) : Host.Outcome State Fault Refusal :=
  .next (onCtl (helloAck k version role guestId) s)

/-- CREDIT sets the initial credits of a class that the partner receives (R360, R361). -/
def credit (k cls count : Nat) (c : Ctl) : Ctl :=
  if linkSt c k < 3 then c
  else if k = 2 then
    if cls = 4 then setF Reg.GST_CREDITS.MMIO count (updGuest (fun g => { g with mmioCr := count }) c)
    else if cls = 7 then
      let c := setF Reg.GST_CREDITS.EVT count (updGuest (fun g => { g with evtCr := count }) c)
      pumpEvt c.guest.evtWait.length c
    else protoError 2 c
  else { c with prd := { c.prd with sdCredits := mapSet 0 c.prd.sdCredits (k * 16 + cls) count } }

def execCredit (k : Fin 3) (cls count : Nat) (s : State) : Host.Outcome State Fault Refusal := .next (onCtl (credit k cls count) s)

/-- READY of the guest completes W10, if it has advertised enough credits (R352, R380). -/
def ready (c : Ctl) : Ctl :=
  if linkSt c 2 = 4 ∧ c.op = .waking ∧ !c.waking.guestFailed then
    if getF Reg.GST_CREDITS.MMIO c < cfgF c Img.MMIO_CREDITS_MIN ∨ getF Reg.GST_CREDITS.EVT c < 4 then
      w10Fail c
    else
      let c := if getF Reg.GST_STATUS.DEGRADED c = 1 then logEvent 0x0C01 12 2 2 c else c
      setF Reg.GST_STATUS.PORT 2 (updGuest (fun g => { g with ready := true, tempAt := some c.uptime }) c)
  else c

def execReady (s : State) : Host.Outcome State Fault Refusal := .next (onCtl ready s)

/-! Port reset (R369). -/

/-- PORT_RESET from the guest: intake closes, the hub answers once the next era is free, and the link returns to HELLO in that era. -/
def portReset (cause : Nat) (c : Ctl) : Ctl :=
  if gstPort c = 0 ∨ gstPort c = 5 ∨ linkSt c 2 < 4 then c else
    portResetStart false cause c

def execPortReset (cause : Nat) (s : State) : Host.Outcome State Fault Refusal := .next (onCtl (portReset cause) s)

def execPortResetAck (s : State) : Host.Outcome State Fault Refusal :=
  .next (onCtl (fun c => if c.guest.resetting.isSome ∧ c.guest.owes = none then portResetDone c else c) s)

/-- No PORT_RESET_ACK within 10 ms: GS_RESET_N low for 1 ms, and the link goes on from TRAIN. -/
def execPortResetAckTimeout (s : State) : Host.Outcome State Fault Refusal :=
  .next (onCtl (fun c =>
    if c.guest.resetting.isSome ∧ c.guest.owes = none then
      setLinkSt 2 1 (portResetDone (send ⟨.pins, .portReset, [], []⟩ c))
    else c) s)

/-- A write of GST_CTRL (R382): 0x6A11 starts a port reset. -/
def gstCtrl (key : Nat) (c : Ctl) : Ctl :=
  if key = 0x6A11 ∧ gstPort c ≠ 0 ∧ gstPort c ≠ 5 ∧ c.guest.resetting = none then
    portResetStart true (if gstPort c = 4 then 3 else 2) c
  else c

def execGstCtrl (key : Nat) (s : State) : Host.Outcome State Fault Refusal := .next (onCtl (gstCtrl key) s)

/-! Guest errors (R370). -/

def execErr (fatal : Bool) (code : Nat) (s : State) : Host.Outcome State Fault Refusal :=
  .next (onCtl (fun c => if !linkLive c 2 then c else if fatal then contain 3 c else logEvent 0x0D02 13 1 (code * 256) c) s)

def execGsAlert (s : State) : Host.Outcome State Fault Refusal := .next (onCtl (contain 4) s)

def execTempTimeout (s : State) : Host.Outcome State Fault Refusal :=
  .next (onCtl (fun c => if c.guest.ready then contain 5 c else c) s)

def execGuestRetrainExpiry (s : State) : Host.Outcome State Fault Refusal :=
  .next (onCtl (fun c => if linkSt c 2 ≤ 1 then contain 1 c else c) s)

/-- TEMP (R372): the last and the highest temperature, the Warning at 95 °C, containment at 105 °C, a save trigger at 115 °C. -/
def temp (t : Int) (c : Ctl) : Ctl :=
  if !linkLive c 2 then c else
    let first := c.guest.tempAt.isNone
    let c := setF Reg.GST_TEMP.TEMP (fieldOf 8 t) c
    let c := if first || decide (signedOf 8 (getF Reg.GST_TEMP.MAX c) < t) then setF Reg.GST_TEMP.MAX (fieldOf 8 t) c else c
    let c := intTaken (updGuest (fun g => { g with tempAt := some c.uptime }) c)
    let d := 3 + fieldOf 8 t * 256
    let due := match c.guest.warnAt with | none => true | some u => decide (u + 60000000000 ≤ c.uptime)
    let c := if 95 ≤ t && due then
        sbAlertSource 6 (logEvent 0x0B02 11 2 d (updGuest (fun g => { g with warnAt := some c.uptime }) c)) else c
    let c := if 105 ≤ t then contain 6 c else c
    if 115 ≤ t then saveTrigger 6 (logEvent 0x0B04 11 4 d c) else c

def execTemp (t : Int) (s : State) : Host.Outcome State Fault Refusal := .next (onCtl (temp t) s)

/-- INT (R360, R362, R367): delivered once every guest write ahead of it has committed; one more than the 16 credits is a protocol error. -/
def guestInt (v : Nat) (c : Ctl) : Ctl :=
  if !linkLive c 2 ∨ gstPort c = 4 ∨ !c.guest.ready then c else
    let w := (c.pipe.qg.filter (fun r => r.op != .rd)).length
    if 16 ≤ c.guest.ints.length then protoError 2 c else
    if w = 0 then deliverInt (v % 32) c else updGuest (fun g => { g with ints := g.ints ++ [(v % 32, w)] }) c

def execInt (v : Nat) (s : State) : Host.Outcome State Fault Refusal := .next (onCtl (guestInt v) s)

/-! Messages that the guest takes. -/

/-- The first message of a kind on its way to the guest. -/
def takeGuest (p : Msg → Bool) (c : Ctl) : Option Msg × Ctl :=
  match c.guest.toGuest.find? p with
  | none => (none, c)
  | some m => (some m, updGuest (fun g => { g with toGuest := g.toGuest.erase m }) c)

/-- The guest takes a response: its TID is free again; an unmatched one is discarded and counted as late (R368, R369). -/
def takeResponse (kind : MsgKind) (tid : Nat) (c : Ctl) : Ctl :=
  match takeGuest (fun m => m.kind == kind && m.args.head? == some tid) c with
  | (none, c) => c
  | (some m, c) =>
    let tag := tid + 1024 * m.args.getD 1 0
    if c.guest.tids.contains tag then updGuest (fun g => { g with tids := g.tids.erase tag }) c
    else addF (Reg.PRD_LK_LATE.LATE 2) c

def execCmp (tid : Nat) (s : State) : Host.Outcome State Fault Refusal := .next (onCtl (takeResponse .cmpGuest tid) s)
def execData (tid : Nat) (s : State) : Host.Outcome State Fault Refusal := .next (onCtl (takeResponse .dataGuest tid) s)
def execDerr (tid : Nat) (s : State) : Host.Outcome State Fault Refusal := .next (onCtl (takeResponse .derrGuest tid) s)

/-- The guest takes the oldest EVT; EVT ERA voids every request it had outstanding (R362, R369). -/
def takeEvt (c : Ctl) : Ctl :=
  match takeGuest (fun m => m.kind == .evt) c with
  | (none, c) => c
  | (some m, c) => if m.args.getD 2 0 = 2 then
      updGuest (fun g => { g with tids := g.tids.filter (fun t => t / 1024 == m.args.getD 3 0) }) c else c

def execEvt (s : State) : Host.Outcome State Fault Refusal := .next (onCtl takeEvt s)

/-! Guest memory requests (R363, R364). -/

/-- What every MRD, MWR and MWRP passes on arrival: era, credit and TID (R360, R368, R369, R370). One that meets intake closed again is discarded
unanswered (R369). -/
def guestRequest (write : Bool) (tid era ga hint : Nat) (op : ReqOp) (data : List Byte) (mask : Nat) (poison : Bool) (c : Ctl) : Ctl :=
  if !linkLive c 2 ∨ gstPort c = 4 then c
  else if era ≠ gstEra c then addF (Reg.PRD_LK_LATE.LATE 2) c
  else if c.guest.opened ∧ getF Reg.HUB_DOMAIN_STATUS.GUEST_OPEN c = 0 then c
  else if (if write then c.guest.mwr else c.guest.mreq) = 0 then protoError 2 c
  else if c.guest.tids.contains (tid + 1024 * era) then protoError 2 c
  else
    let c := hubWake (updGuest (fun g => { g with tids := g.tids ++ [tid + 1024 * era] }) c)
    let c := updGuest (fun g => if write then { g with mwr := g.mwr - 1 } else { g with mreq := g.mreq - 1 }) c
    if getF Reg.GST_WIN.SIZE c * 268435456 ≤ ga then
      guestCredit .guest (if write then 2 else 1) (guestReply (if write then .cmpGuest else .derrGuest) (tid + 1024 * era) 1 0 0 [] c)
    else
      enqueue .guest ⟨op, tid + 1024 * era, getF Reg.GST_WIN.BASE c * 268435456 + ga / 64 * 64, data, mask, poison,
        if hint = 3 then 0 else hint, false⟩ c

def execMrd (tid era ga hint : Nat) (s : State) : Host.Outcome State Fault Refusal :=
  .next (onCtl (guestRequest false tid era ga hint .rd [] 0 false) s)

def execMwr (tid era ga hint : Nat) (data : List Byte) (poison : Bool) (s : State) : Host.Outcome State Fault Refusal :=
  .next (onCtl (guestRequest true tid era ga hint .wr data 0 poison) s)

def execMwrp (tid era ga hint : Nat) (data : List Byte) (mask : Nat) (poison : Bool) (s : State) : Host.Outcome State Fault Refusal :=
  .next (onCtl (guestRequest true tid era ga hint .wrPtl data mask poison) s)

/-! BAR 4 (R366). -/

/-- BAR 4 reaches the guest: the link is ACTIVE and the port neither parked nor contained. -/
def barActive (c : Ctl) : Bool :=
  guestPresent c && getF Reg.GST_BAR.LOG2 c != 0 && linkLive c 2 && c.guest.ready && gstPort c != 4 && c.guest.resetting == none

/-- The 8-byte pieces of an access of `n` bytes at `off`: their offsets. -/
def barPieces (off n : Nat) : List Nat :=
  if n = 0 then [] else (List.range ((off + n - 1) / 8 - off / 8 + 1)).map (fun i => (off / 8 + i) * 8)

/-- The byte enables of the piece at `p`. -/
def pieceBe (off n p : Nat) : Nat :=
  (List.range 8).foldl (fun m i => if off ≤ p + i ∧ p + i < off + n then bitSet m i else m) 0

def bar4Read (h : HeadId) (tag off n : Nat) (c : Ctl) : Ctl :=
  let c := if (headOf c h).linkUp then leaveL1 h c else c
  if barActive c then
    let ps := barPieces off n
    let id := c.guest.nextRead
    hubWake (updGuest (fun g => { g with
      nextRead := id + 1, reads := g.reads ++ [⟨id, h, tag, ps.length, 0, []⟩]
      mmioQ := g.mmioQ ++ ps.map (fun p => ⟨some id, p, pieceBe off n p, []⟩) }) c)
  else send ⟨.head h, .bar4Data, [tag, 1], []⟩ c

def execBar4Read (h : HeadId) (tag off n : Nat) (s : State) : Host.Outcome State Fault Refusal := .next (onCtl (bar4Read h tag off n) s)

/-- The bytes of a piece of a write: the byte of each enabled lane, 0 elsewhere. -/
def pieceData (off p : Nat) (data : List Byte) : List Byte :=
  (List.range 8).map (fun i => if off ≤ p + i then data.getD (p + i - off) 0 else 0)

def bar4Write (off : Nat) (data : List Byte) (c : Ctl) : Ctl :=
  if barActive c then
    let more := (barPieces off data.length).map (fun p => (⟨none, p, pieceBe off data.length p, pieceData off p data⟩ : MmioPiece))
    hubWake (updGuest (fun g => { g with mmioQ := g.mmioQ ++ more }) c)
  else updGuest (fun g => { g with barDiscards := g.barDiscards + 1 }) c

def execBar4Write (off : Nat) (data : List Byte) (s : State) : Host.Outcome State Fault Refusal := .next (onCtl (bar4Write off data) s)

/-- A TID of 0 to 63 that is neither in use nor in quarantine (R368). -/
def freeTid (c : Ctl) : Option Nat :=
  firstFrom (fun t => !(c.guest.mmrds.any (fun m => m.tid == t)) && !c.guest.quarantine.contains t) 0 64

/-- The oldest piece goes to the guest and is taken by it, when it is of the kind asked for and has its MMIO credit (R360, R362). -/
def mmioSend (isRead : Bool) (c : Ctl) : Ctl :=
  match c.guest.mmioQ with
  | [] => c
  | p :: rest =>
    if p.read.isSome != isRead || c.guest.mmioCr == 0 || !linkLive c 2 then c else
      match p.read with
      | none => sendLink 2 .mmwr [0, gstEra c, p.offset, p.be] p.data
          (updGuest (fun g => { g with mmioQ := rest, mmioCr := g.mmioCr - 1 }) c)
      | some id =>
        match freeTid c with
        | none => c
        | some t => sendLink 2 .mmrd [t, gstEra c, p.offset, p.be] []
            (updGuest (fun g => { g with mmioQ := rest, mmioCr := g.mmioCr - 1, mmrds := g.mmrds ++ [⟨t, id, p.offset⟩] }) c)

/-- The guest takes the piece it has been sent. -/
def takeMmio (kind : MsgKind) (c : Ctl) : Ctl := (takeGuest (fun m => m.kind == kind) c).2

def execMmrd (s : State) : Host.Outcome State Fault Refusal := .next (onCtl (fun c => takeMmio .mmrd (mmioSend true c)) s)
def execMmwr (s : State) : Host.Outcome State Fault Refusal := .next (onCtl (fun c => takeMmio .mmwr (mmioSend false c)) s)

/-- MMCPL: the piece is in; with the last one the host read completes. An unmatched one is late (R366, R368). -/
def mmcpl (tid era status : Nat) (data : List Byte) (c : Ctl) : Ctl :=
  if !linkLive c 2 then c else
    match c.guest.mmrds.find? (fun m => m.tid == tid), era == gstEra c with
    | some m, true =>
      let c := updGuest (fun g => { g with mmrds := g.mmrds.erase m }) c
      match c.guest.reads.find? (fun r => r.id == m.read) with
      | none => c
      | some r =>
        let r' : BarRead := { r with left := r.left - 1, status := max r.status status, data := mapPut r.data m.offset data }
        if r'.left = 0 then barDone r' r'.status c
        else updGuest (fun g => { g with reads := g.reads.map (fun x => if x.id = r.id then r' else x) }) c
    | _, _ => addF (Reg.PRD_LK_LATE.LATE 2) c

def execMmcpl (tid era status : Nat) (data : List Byte) (s : State) : Host.Outcome State Fault Refusal :=
  .next (onCtl (mmcpl tid era status data) s)

/-- An MMRD gets no MMCPL within MMIO_TIMEOUT: Completer Abort, logged through AER, and its TID goes into quarantine (R366, R368). -/
def mmioTimeout (tid : Nat) (c : Ctl) : Ctl :=
  match c.guest.mmrds.find? (fun m => m.tid == tid) with
  | none => c
  | some m =>
    let c := addF Reg.GST_COUNTS.MMIO_TIMEOUTS (updGuest (fun g => { g with mmrds := g.mmrds.erase m, quarantine := g.quarantine ++ [tid] }) c)
    match c.guest.reads.find? (fun r => r.id == m.read) with
    | none => c
    | some r => barDone r 2 (updHead r.head (fun d => { d with aer := r.tag :: d.aer }) c)

def execMmioTimeout (tid : Nat) (s : State) : Host.Outcome State Fault Refusal := .next (onCtl (mmioTimeout tid) s)

def execTidQuarantineEnd (tid : Nat) (s : State) : Host.Outcome State Fault Refusal :=
  .next (onCtl (updGuest (fun g => { g with quarantine := g.quarantine.filter (fun t => t != tid) })) s)

/-! Flits (R354-R356). -/

/-- A flit whose 256 bytes have a bad CRC is dropped with every later flit until the replayed one; NAK goes out once (R355, R356). -/
def flitCrcError (k : Nat) (flit : List Byte) (c : Ctl) : Ctl :=
  if linkSt c k = 0 ∨ flitGood flit then c else
    let c := addF (Reg.PRD_LK_CRC.CRC_ERR k) c
    if (linkOf c k).dropping then c
    else sendLink k .nak [(linkOf c k).rxSeq] [] (updLink k (fun l => { l with dropping := true }) c)

def execFlitCrcError (flit : BadFlit) (s : State) : Host.Outcome State Fault Refusal := .next (onCtl (flitCrcError flit.link flit.bytes) s)

/-- The distance from one sequence number to another, modulo 4,096. -/
def seqDist (a b : Nat) : Nat := (b + 4096 - a % 4096) % 4096

/-- The flits that an ACKSEQ covers leave the replay buffer; progress returns the replay count to 0. -/
def ackFlits (k ackSeq : Nat) (c : Ctl) : Ctl :=
  updLink k (fun l => match l.unacked with
    | [] => l
    | f :: _ =>
      let d := seqDist f.seq ackSeq
      if d < l.unacked.length then { l with unacked := l.unacked.drop (d + 1), replays := 0 } else l) c

/-- Resend every flit held, in order (R356). -/
def replay (k : Nat) (c : Ctl) : Ctl :=
  let l := linkOf c k
  if l.unacked = [] then c else
    let c := l.unacked.foldl (fun c f => send f.msg c) c
    addF (Reg.PRD_LK_CRC.REPLAYS k) (updLink k (fun l => { l with replays := l.replays + 1 }) c)

def execNak (k : Fin 3) (ackSeq : Nat) (s : State) : Host.Outcome State Fault Refusal :=
  .next (onCtl (fun c => if linkSt c k = 0 then c else replay k (ackFlits k ackSeq c)) s)

def execReplayTimeout (k : Fin 3) (s : State) : Host.Outcome State Fault Refusal :=
  .next (onCtl (fun c => if linkSt c k = 0 then c else replay k c) s)

/-- A flit replayed four times without progress: both modules retrain, and the replay resumes. -/
def execReplayRetrain (k : Fin 3) (s : State) : Host.Outcome State Fault Refusal :=
  .next (onCtl (fun c =>
    if 4 ≤ (linkOf c k).replays then
      replay k (updLink k (fun l => { l with replays := 0 }) (addF (Reg.PRD_LK_TRAIN.RETRAINS k) (send ⟨.link k, .retrain, [], []⟩ c)))
    else c) s)

/-- A module that does not retrain within 10 ms is down; the second loss takes the link DOWN (R352, R356, R370). -/
def moduleLoss (k : Nat) (upper : Bool) (c : Ctl) : Ctl :=
  let f := if upper then Reg.PRD_LK_STATUS.M1_UP k else Reg.PRD_LK_STATUS.M0_UP k
  if getF f c = 0 then c else
    let c := logEvent 0x0C01 12 2 (k + b2n upper * 256) (addF (Reg.PRD_LK_TRAIN.LOSSES k) (setF f 0 c))
    let both := getF (Reg.PRD_LK_STATUS.M0_UP k) c = 0 ∧ getF (Reg.PRD_LK_STATUS.M1_UP k) c = 0
    if k = 2 then
      if both then
        let c := addF Reg.GST_COUNTS.RESETS (guestCloseIntake c)
        setLinkSt 2 1 (setF Reg.GST_STATUS.DEGRADED 0 (portResetDone c))
      else setF Reg.GST_STATUS.DEGRADED 1 c
    else if both then dieLeaves k 1 (setLinkSt k 0 c) else c

def execModuleLoss (k : Fin 3) (upper : Bool) (s : State) : Host.Outcome State Fault Refusal := .next (onCtl (moduleLoss k upper) s)

/-- Credits returned by the partner (R354, R361). -/
def returnCredit (k : Nat) (x : Nat × Nat) (c : Ctl) : Ctl :=
  if k = 2 then
    if x.1 = 4 then updGuest (fun g => { g with mmioCr := g.mmioCr + x.2 }) c
    else if x.1 = 7 then
      let c := updGuest (fun g => { g with evtCr := g.evtCr + x.2 }) c
      pumpEvt c.guest.evtWait.length c
    else c
  else { c with prd := { c.prd with sdCredits := mapUpd 0 c.prd.sdCredits (k * 16 + x.1) (· + x.2) } }

/-- A flit with a good CRC and empty slots: accepted in sequence, once; its ACKSEQ and its credit returns are acted on (R354, R356). -/
def idleFlit (k fseq ackSeq : Nat) (cra crb : Nat × Nat) (c : Ctl) : Ctl :=
  if linkSt c k < 3 then c
  else if fseq = (linkOf c k).rxSeq then
    let c := updLink k (fun l => { l with rxSeq := (l.rxSeq + 1) % 4096, dropping := false }) c
    returnCredit k crb (returnCredit k cra (ackFlits k ackSeq c))
  else c

def execIdleFlit (k : Fin 3) (fseq ackSeq : Nat) (cra crb : Nat × Nat) (s : State) : Host.Outcome State Fault Refusal :=
  .next (onCtl (idleFlit k fseq ackSeq cra crb) s)

/-! Sleep (R374-R376). -/

/-- The partners whose links are up. -/
def partners (c : Ctl) : List Nat := [0, 1, 2].filter (fun k => linkSt c k == 4)

/-- An erase-ahead of class 4 is pending (R257, R374). -/
def eraseWaits (c : Ctl) : Bool := c.flash.ways.any (fun e => e.2.queue.any (fun d => d.cls == 4 && d.op == .erase) || (match e.2.running with | some d => d.cls == 4 && d.op == .erase | none => false))

/-- The conditions of R374. -/
def sleepReady (c : Ctl) : Bool :=
  getF Reg.PRD_CFG.SLEEP_EN c == 1 && getF Reg.PRD_SLEEP.STATE c == 0
  && (c.op == .serving || c.op == .derated || c.op == .keep)
  && headQuiet c 0 && headQuiet c 1 && c.guest.tids == [] && c.guest.mmrds == []
  && c.reel.copies == [] && !reelCandidate c && c.welt.openPage == [] && c.cal.flashDue == []
  && !c.chans.any (fun e => e.2.calDue) && !eraseWaits c && c.welt.compact == none && c.restore.carryN == [] && c.restore.carryC == []
  && (decide (c.restore.step < 7) || (List.range (frameCount c)).all (fun f => c.dtk.restored.testBit f))

/-- The hub proposes sleep: SLP_PREP to every partner. -/
def sleepProposal (c : Ctl) : Ctl :=
  if sleepReady c then
    let n := (getF Reg.PRD_SLEEP.SLEEP_ID c + 1) % 256
    let c := setF Reg.PRD_SLEEP.STATE 1 (setF Reg.PRD_SLEEP.SLEEP_ID n { c with prd := { c.prd with acks := [], heldWake := false, entered := false } })
    (partners c).foldl (fun c k => sendLink k .slpPrep [n] [] c) c
  else c

def execSleepProposal (s : State) : Host.Outcome State Fault Refusal := .next (onCtl sleepProposal s)

/-- A partner takes SLP_PREP: it acknowledges unless it has a request outstanding toward the hub. -/
def execSlpPrep (k : Fin 3) (busy : Bool) (s : State) : Host.Outcome State Fault Refusal :=
  .next (onCtl (fun c =>
    if getF Reg.PRD_SLEEP.STATE c = 1 then updLink k (fun l => { l with partner := if busy then 0 else 1 }) c else c) s)

/-- SLP_ACK: with every partner's in, and R374 still holding, SLP_GO goes out; otherwise the proposal is cancelled. -/
def slpAck (k n : Nat) (c : Ctl) : Ctl :=
  if getF Reg.PRD_SLEEP.STATE c = 1 ∧ n = getF Reg.PRD_SLEEP.SLEEP_ID c then
    let c := { c with prd := { c.prd with acks := setAdd c.prd.acks k } }
    if (partners c).all (fun p => c.prd.acks.contains p) then
      if sleepReady (setF Reg.PRD_SLEEP.STATE 0 c) then
        (partners c).foldl (fun c p => sendLink p .slpGo [n] [] c) (setF Reg.PRD_SLEEP.STATE 2 c)
      else sleepCancel c
    else c
  else c

def execSlpAck (k : Fin 3) (n : Nat) (s : State) : Host.Outcome State Fault Refusal := .next (onCtl (slpAck k n) s)

def execSlpNak (_k : Fin 3) (n : Nat) (s : State) : Host.Outcome State Fault Refusal :=
  .next (onCtl (fun c => if getF Reg.PRD_SLEEP.STATE c = 1 ∧ n = getF Reg.PRD_SLEEP.SLEEP_ID c then sleepCancel c else c) s)

def execSleepAckTimeout (s : State) : Host.Outcome State Fault Refusal :=
  .next (onCtl (fun c => if getF Reg.PRD_SLEEP.STATE c = 1 then sleepCancel c else c) s)

/-- A partner takes SLP_GO and enters L1 (the guest) or standby (a save die). -/
def execSlpGo (k : Fin 3) (s : State) : Host.Outcome State Fault Refusal :=
  .next (onCtl (fun c => if getF Reg.PRD_SLEEP.STATE c = 2 then updLink k (fun l => { l with partner := 2 }) c else c) s)

def execSlpCancel (k : Fin 3) (s : State) : Host.Outcome State Fault Refusal :=
  .next (onCtl (updLink k (fun l => { l with partner := 0 })) s)

/-- SLP_WAKE: before SLP_GO it cancels; after SLP_GO it is held (R376). -/
def execSlpWake (_k : Fin 3) (n : Nat) (s : State) : Host.Outcome State Fault Refusal :=
  .next (onCtl (fun c => if n = getF Reg.PRD_SLEEP.SLEEP_ID c then hubWake c else c) s)

/-- The last link reports entry complete; a held wake starts the exit of every link. -/
def sleepEntryComplete (c : Ctl) : Ctl :=
  if getF Reg.PRD_SLEEP.STATE c = 2 ∧ !c.prd.entered then
    let g := linkSt c 2 = 4
    let c := (partners c).foldl (fun c k => updLink k (fun l => { l with partner := 2 }) (setLinkSt k 5 c)) c
    let c := if g then setF Reg.GST_STATUS.ASLEEP 1 c else c
    let c := addF Reg.PRD_SLEEP.SLEEPS { c with prd := { c.prd with entered := true } }
    if c.prd.heldWake then setF Reg.PRD_SLEEP.STATE 3 c else c
  else c

def execSleepEntryComplete (s : State) : Host.Outcome State Fault Refusal := .next (onCtl sleepEntryComplete s)

/-- Traffic at either end has ended sleep and the links are active again. -/
def sleepExit (c : Ctl) : Ctl :=
  if (getF Reg.PRD_SLEEP.STATE c = 2 ∨ getF Reg.PRD_SLEEP.STATE c = 3) ∧ c.prd.entered then
    let c := [0, 1, 2].foldl (fun c k => if linkSt c k = 5 then updLink k (fun l => { l with partner := 0 }) (setLinkSt k 4 c) else c) c
    setF Reg.GST_STATUS.ASLEEP 0 (setF Reg.PRD_SLEEP.STATE 0 { c with prd := { c.prd with acks := [], heldWake := false, entered := false } })
  else c

def execSleepExit (s : State) : Host.Outcome State Fault Refusal := .next (onCtl sleepExit s)

/-- The guest requests L1 outside an agreement: the hub refuses. -/
def execGuestL1Request (s : State) : Host.Outcome State Fault Refusal :=
  .next (onCtl (fun c => if getF Reg.PRD_SLEEP.STATE c = 2 then c else send ⟨.link 2, .l1Refused, [], []⟩ c) s)

end Sys2Proof.Machine
end

