-- ==== Sys2Proof/Machine/Pipeline.lean ====
section
/-! DEFINITION. Sys2Proof/Machine/Pipeline.lean: the commands of the request pipeline (05_memory_pipeline.md): the M2S messages of a head, one
grant of the arbiter, and the throttle's trickle. -/
namespace Sys2Proof.Machine

/-- The 64 bytes of a line from the data of a message; what the message leaves out is 0. -/
def lineBytes (data : List Byte) : List Byte := overlay data fullMask []

/-- A request that no committed decoder of its head covers is answered at Decode (R126): counted, and put into at most one event record
per head and second, with the count since the last record that was made. -/
def undecoded (h : HeadId) (op : ReqOp) (tag : Nat) (c : Ctl) : Ctl :=
  let n := mapGet 0 c.pipe.undecNew h.val + 1
  let c := addF (if h = 0 then Reg.MEM_UNDECODED.H0 else Reg.MEM_UNDECODED.H1) c
  let due := match mapFind c.pipe.undecAt h.val with | none => true | some t => decide (t + 1000000000 ≤ c.uptime)
  let c := { c with pipe := { c.pipe with undecNew := mapPut c.pipe.undecNew h.val n } }
  let k := if due then logEvent 0x0201 2 1 (h.val + n * 65536) c else c
  let c := if k.evr.rseq = c.evr.rseq then k
    else { k with pipe := { k.pipe with undecNew := mapPut k.pipe.undecNew h.val 0, undecAt := mapPut k.pipe.undecAt h.val k.uptime } }
  match op with
  | .rd => respondRead (srcOfHead h) tag onesLine true c
  | .specRd => c
  | _ => respondCmp (srcOfHead h) tag c

/-- A head delivers a request (R109, R111, R112): with intake open and a credit it enters its source queue, decoded. A request cancels the
head's pending GPF trigger (R94) and wakes the fabric (R376). -/
def headRequest (h : HeadId) (op : ReqOp) (tag hpa : Nat) (data : List Byte) (mask : Nat) (poison : Bool) (c : Ctl) : Ctl :=
  if !intakeOpen c h || !headCredit c h (isWrite op) then c
  else
    let c := hubWake (leaveL1 h c)
    let c := if c.cxl.gpf = some h then { c with cxl := { c.cxl with gpf := none } } else c
    match hpaToDpa c h hpa with
    | none => undecoded h op (tag % dropTag) c
    | some (dpa, d) =>
      enqueue (srcOfHead h) ⟨op, tag % dropTag, dpa, data, mask, poison, if op = .specRd then 0 else hintOf c h d, false⟩ c

def execMemRd (h : HeadId) (tag hpa : Nat) (s : State) : Host.Outcome State Fault Refusal :=
  .next (onCtl (headRequest h .rd tag hpa [] 0 false) s)

def execMemRdData (h : HeadId) (tag hpa : Nat) (s : State) : Host.Outcome State Fault Refusal :=
  .next (onCtl (headRequest h .rd tag hpa [] 0 false) s)

def execMemWr (h : HeadId) (tag hpa : Nat) (data : List Byte) (poison : Bool) (s : State) : Host.Outcome State Fault Refusal :=
  .next (onCtl (headRequest h .wr tag hpa (lineBytes data) fullMask poison) s)

def execMemWrPtl (h : HeadId) (tag hpa : Nat) (data : List Byte) (mask : Nat) (poison : Bool) (s : State) : Host.Outcome State Fault Refusal :=
  .next (onCtl (headRequest h .wrPtl tag hpa (lineBytes data) (mask % 2 ^ 64) poison) s)

def execMemInv (h : HeadId) (tag hpa : Nat) (s : State) : Host.Outcome State Fault Refusal :=
  .next (onCtl (headRequest h .inv tag hpa [] 0 false) s)

def execMemInvNt (h : HeadId) (tag hpa : Nat) (s : State) : Host.Outcome State Fault Refusal :=
  .next (onCtl (headRequest h .inv tag hpa [] 0 false) s)

def execMemSpecRd (h : HeadId) (hpa : Nat) (s : State) : Host.Outcome State Fault Refusal :=
  .next (onCtl (headRequest h .specRd 0 hpa [] 0 false) s)

/-- Any other M2S opcode: a protocol error through the CXL RAS capability, and discarded (R111). -/
def protocolError (h : HeadId) (opcode : Nat) (c : Ctl) : Ctl :=
  if (headOf c h).linkUp then send ⟨.head h, .protocolError, [opcode], []⟩ (updHead h (fun d => { d with ras := opcode :: d.ras }) (leaveL1 h c)) else c

def execM2sProtocolError (h : HeadId) (opcode : Nat) (s : State) : Host.Outcome State Fault Refusal :=
  .next (onCtl (protocolError h opcode) s)

/-- One grant of the arbiter: Commit, Track and Schedule follow without a stall (R115). -/
def execArbitrateGrant (s : State) : Host.Outcome State Fault Refusal := .next (onCtl arbitrate s)

/-- Tokens join the bucket, which holds at most 256 of them, in the states in which the throttle applies (R130). -/
def addTokens (n : Nat) (c : Ctl) : Ctl := if throttled c then setF Reg.MEM_THROTTLE_STATUS.TOKENS (min 256 (tokens c + n)) c else c

/-- The TRICKLE tokens of a millisecond are spread evenly over it (R130): those of the running one that time has brought so far (log entry 63). -/
def trickleDue (c : Ctl) : Nat :=
  let n := getF Reg.MEM_THROTTLE_CFG.TRICKLE c
  min n (n * (c.uptime - c.pipe.trickleAt) / 1000000)

def trickleElapse (c : Ctl) : Ctl :=
  let due := trickleDue c
  if due ≤ c.pipe.trickled then c else addTokens (due - c.pipe.trickled) { c with pipe := { c.pipe with trickled := due } }

/-- A millisecond has ended: its tokens that are still to come join the bucket, and the next one begins. -/
def trickle (c : Ctl) : Ctl :=
  let c' := addTokens (getF Reg.MEM_THROTTLE_CFG.TRICKLE c - c.pipe.trickled) c
  { c' with pipe := { c'.pipe with trickled := 0, trickleAt := c.uptime } }

def execThrottleTrickle (s : State) : Host.Outcome State Fault Refusal := .next (onCtl trickle s)

/-- Time during which a source head is held with reason 2 or 3 adds to the hold time of its channel, in units of 512 ns (R128, R133). -/
def holdElapse (ns : Nat) (c : Ctl) : Ctl :=
  [Source.h0, Source.h1, Source.guest].foldl (fun c s =>
    match queueOf c s with
    | [] => c
    | r :: _ =>
      let why := holdReason c s r
      if why = 2 ∨ why = 3 then
        let ch := chanOf c r.dpa
        let t := mapGet 0 c.pipe.chHold ch + ns
        setF (Reg.MEM_CH_HOL.UNITS ch) (min (2 ^ 32 - 1) (t / 512)) { c with pipe := { c.pipe with chHold := mapPut c.pipe.chHold ch t } }
      else c) c

end Sys2Proof.Machine
end

