-- ==== Sys2Proof/Machine/Rails.lean ====
section
/-! DEFINITION. Sys2Proof/Machine/Rails.lean: the commands of the power sequencer (13_power_sequencing.md). -/
namespace Sys2Proof.Machine

/-- UP_DELAY has elapsed since the previous slot was READY: the next slot of the up order is enabled, unless the order is held;
an aborted slot waits until it has fallen (R338, R341). -/
def upDelayElapsed (c : Ctl) : Ctl :=
  if c.op = .waking ∧ wakeDone c 5 ∧ getF Reg.PSQ_STATUS.ORDER_HELD c = 0 ∧ !allSlots.any (slotRising c) then
    match c.psq.up with
    | [] => c
    | n :: _ => if (railOf c n).aborted && !(railOf c n).fallen then c else setF Reg.PSQ_STATUS.SLOT n (railEnable n c)
  else c

def execUpDelayElapsed (s : State) : Host.Outcome State Fault Refusal := .next (onCtl upDelayElapsed s)

/-- The INRUSH time of a slot elapses: RAMP (R336). -/
def execInrushElapsed (slot : Nat) (s : State) : Host.Outcome State Fault Refusal :=
  .next (onCtl (fun c => if (railOf c slot).st = .inrush then updRail slot (fun r => { r with st := .ramp }) c else c) s)

/-- A slot in RAMP becomes READY with VS in its window: its ramp time (in 10 µs units) is recorded, a held up order goes on, slot 1 follows slot 0. -/
def slotReady (slot vs ramp : Nat) (c : Ctl) : Ctl :=
  if (railOf c slot).st = .ramp ∧ !vsBelow (railCfg c slot) vs ∧ !vsAbove (railCfg c slot) vs then
    let c := updRail slot (fun r => { r with st := .ready, vs := vs, ramp := min 65535 ramp }) c
    if c.op = .waking then
      let c := setF Reg.PSQ_STATUS.ORDER_HELD 0 { c with psq := { c.psq with up := c.psq.up.filter (fun n => n != slot) } }
      if slot = 0 then railEnable 1 c else c
    else c
  else c

def execSlotReady (slot vs ramp : Nat) (s : State) : Host.Outcome State Fault Refusal := .next (onCtl (slotReady slot vs ramp) s)

/-- The operating states of the second column of R339. -/
def inService (o : OpState) : Bool :=
  match o with
  | .restoring => true | .serving => true | .derated => true | .keep => true
  | _ => false

/-- GROUP response (R339): the slots of the group go down; the die or the guest they feed leaves, by the state. -/
def groupResponse (g : Nat) (c : Ctl) : Ctl :=
  let gs := groupSlots c g
  let c := { c with psq := { c.psq with up := c.psq.up.filter (fun n => !gs.contains n) } }
  let c := startDown (.group g) gs c
  if g = 3 then
    if c.op = .waking then w10Fail c
    else if inService c.op then guestClose c else c
  else
    if c.op = .waking then { c with waking := { c.waking with missing := bitSet c.waking.missing (g - 1) } }
    else dieLeaves (g - 1) 1 c

/-- SYSTEM response (R339). -/
def systemResponse (slot : Nat) (c : Ctl) : Ctl :=
  if c.op = .waking then wakeFail 2 (if slot ≤ 1 then 1 else 6) (some slot) c
  else if inService c.op then restart c else c

/-- Responses once no retry is left (R339, R340). -/
def exhausted (slot : Nat) (c : Ctl) : Ctl :=
  let g := (railCfg c slot).group
  let c := updRail slot (fun r => { r with st := .off, retrying := false }) c
  if c.op = .waking ∨ g = 0 then systemResponse slot c else groupResponse g c

/-- The response to the fault of a slot (R339). -/
def railResponse (slot : Nat) (c : Ctl) : Ctl :=
  let k := railCfg c slot
  let live := c.op == .waking || inService c.op
  match k.response with
  | 0 => setF Reg.PSQ_STATUS.ORDER_HELD 0 { c with psq := { c.psq with up := c.psq.up.filter (fun n => n != slot) } }
  | 1 =>
    if !live then updRail slot (fun r => { r with st := .off }) c
    else if (railOf c slot).retriesUsed < k.retries then
      updRail slot (fun r => { r with retrying := true, offElapsed := false, fallen := false, retriesUsed := r.retriesUsed + 1 }) c
    else exhausted slot c
  | 2 => groupResponse k.group c
  | _ => systemResponse slot (if (railOf c slot).st = .fault then updRail slot (fun r => { r with st := .off }) c else c)

/-- Abort the slots in INRUSH or RAMP other than the failing one (R341). -/
def abortRising (slot : Nat) (c : Ctl) : Ctl :=
  allSlots.foldl (fun c n => if n != slot && slotRising c n then
    updRail n (fun r => { r with st := .off, en := false, aborted := true, fallen := false }) c else c) c

/-- A fault response runs: a down order of a group, or a retry (R341). -/
def respRuns (c : Ctl) : Bool :=
  c.psq.downs.any (fun o => match o.why with | .group _ => true | _ => false) || allSlots.any (fun n => (railOf c n).retrying)

/-- The response to a fault begins: the slots in INRUSH or RAMP are aborted, and the up order is held (R338, R341). -/
def beginResponse (slot : Nat) (c : Ctl) : Ctl :=
  railResponse slot (abortRising slot (if c.op = .waking then setF Reg.PSQ_STATUS.ORDER_HELD 1 c else c))

/-- The responses that have waited for another to finish, unless that one has turned the slot off (R341). -/
def runDeferred : List Nat → Ctl → Ctl
  | [], c => c
  | n :: rest, c =>
    if respRuns c then c
    else
      let c := { c with psq := { c.psq with deferred := rest } }
      runDeferred rest (if ((railOf c n).st = .fault ∨ (railOf c n).st = .held) ∧ (wholeDown c).isNone then beginResponse n c else c)

def settleResponses (c : Ctl) : Ctl := runDeferred c.psq.deferred c

/-- SECOND of a record. -/
def withSecond (slot d : Nat) (f : RailRec) : RailRec := { f with second := some slot, delay := min 255 d }

/-- A second slot is written into the record of the first, and into its copy at position 0; a record that is itself a second's is passed over
(R341, R346). -/
def markSecond (slot d : Nat) (c : Ctl) : Ctl :=
  match c.psq.ring with
  | f :: rest =>
    let own := match rest with | g :: _ => g.second.isSome && g.second == f.slot | [] => false
    if f.type = 1 ∧ f.slot.isSome ∧ f.slot ≠ some slot ∧ f.second = none ∧ own = false then
      { c with psq := { c.psq with ring := withSecond slot d f :: rest, pinned := c.psq.pinned.map (fun p => if p = f then withSecond slot d p else p) } }
    else c
  | [] => c

/-- A qualified fault of a slot (R335, R336, R339, R341): causes 1 power-good timeout, 2 under-voltage, 3 short, 4 power-good lost,
5 over-voltage; `delay` is the time after the first fault in 8 µs units when it qualifies within 1 ms of one. -/
def slotFault (slot cause vs : Nat) (delay : Option Nat) (c : Ctl) : Ctl :=
  let r := railOf c slot
  let k := railCfg c slot
  let applies := if cause = 5 then r.st = .inrush ∨ r.st = .ramp ∨ r.st = .ready ∨ r.st = .held
    else if cause = 1 then r.st = .ramp else r.st = .ready
  if applies ∧ vsShows k cause vs then
    let keepOn := k.saveNeeded && k.response == 3 && cause != 5 && cause != 1 && c.op != .waking
    let c := updRail slot (fun r => { r with vs := vs, cause := cause, count := min 65535 (r.count + 1) }) c
    let c := match delay with
      | some d => markSecond slot d c
      | none => c
    let c := railLog 1 cause (some slot) c
    let c := logEvent 0x0A01 10 3 (slot + cause * 256 + k.response * 65536) c
    let c := sbAlertSource 5 c
    let c := setF Reg.PSQ_FAULTS.FAULTED (bitSet (getF Reg.PSQ_FAULTS.FAULTED c) slot) c
    let c := if cause = 5 then setF Reg.PSQ_FAULTS.OV (bitSet (getF Reg.PSQ_FAULTS.OV c) slot) c else c
    let c := if keepOn then updRail slot (fun r => { r with st := .held }) c
      else updRail slot (fun r => { r with st := .fault, en := false }) c
    if (wholeDown c).isSome then updRail slot (fun r => { r with st := .off }) c
    else if delay.isSome && respRuns c then { c with psq := { c.psq with deferred := c.psq.deferred ++ [slot] } }
    else beginResponse slot c
  else c

def execSlotFault (slot cause vs : Nat) (delay : Option Nat) (s : State) : Host.Outcome State Fault Refusal :=
  .next (onCtl (slotFault slot cause vs delay) s)

/-- PG_TIMEOUT elapses without ready: FAULT with cause power-good timeout (R336). -/
def execPgTimeout (slot vs : Nat) (s : State) : Host.Outcome State Fault Refusal := .next (onCtl (slotFault slot 1 vs none) s)

/-- Re-enter INRUSH for a retry once RETRY_OFF has elapsed and VS has fallen (R340). -/
def retryEnter (slot : Nat) (c : Ctl) : Ctl :=
  let r := railOf c slot
  if r.retrying ∧ r.offElapsed ∧ r.fallen then settleResponses (railEnable slot c) else c

/-- VS of a slot has fallen (R335, R336, R340). -/
def slotFallen (slot : Nat) (c : Ctl) : Ctl :=
  let r := railOf c slot
  if r.st = .falling then settleResponses (slotOff slot false c)
  else if r.st = .fault ∨ r.aborted then retryEnter slot (updRail slot (fun r => { r with fallen := true }) c)
  else c

def execSlotFallen (slot : Nat) (s : State) : Host.Outcome State Fault Refusal := .next (onCtl (slotFallen slot) s)

/-- FALL_TIMEOUT elapses since RAIL_EN went low: OFF and counted in a down order, the end of the retries after a fault
(R336, R340, R344). -/
def fallTimeout (slot : Nat) (c : Ctl) : Ctl :=
  let r := railOf c slot
  if r.st = .falling then settleResponses (slotOff slot true c)
  else if r.st = .fault ∧ r.retrying ∧ !r.fallen then settleResponses (exhausted slot c)
  else c

def execFallTimeout (slot : Nat) (s : State) : Host.Outcome State Fault Refusal := .next (onCtl (fallTimeout slot) s)

def execRetryOffElapsed (slot : Nat) (s : State) : Host.Outcome State Fault Refusal :=
  .next (onCtl (fun c =>
    if (railOf c slot).retrying then retryEnter slot (updRail slot (fun r => { r with offElapsed := true }) c) else c) s)

/-- 60 s in READY return the retry count to 0 (R340). -/
def execRetryCountReset (slot : Nat) (s : State) : Host.Outcome State Fault Refusal :=
  .next (onCtl (fun c => if (railOf c slot).st = .ready then updRail slot (fun r => { r with retriesUsed := 0 }) c else c) s)

/-- An edge of WDI, `gap` ms after the one before (R345). -/
def execWdiEdge (gap : Nat) (s : State) : Host.Outcome State Fault Refusal :=
  .next (onCtl (fun c =>
    if getF Reg.PSQ_WDI_STATUS.STATE c = 0 then c
    else setF Reg.PSQ_WDI_STATUS.MAX_GAP (max (getF Reg.PSQ_WDI_STATUS.MAX_GAP c) (min 65535 gap))
      (setF Reg.PSQ_WDI_STATUS.STATE 2 (setF Reg.PSQ_WDI_STATUS.RESTARTS 0 { c with psq := { c.psq with wdiMissed := false } }))) s)

/-- A WDI edge is missed (R345): a TYPE 1 record, and a restart under WDI_RESPONSE 2 unless three in a row have been taken. -/
def wdiTimeout (c : Ctl) : Ctl :=
  if getF Reg.PSQ_WDI_STATUS.STATE c = 0 ∨ c.psq.wdiMissed then c else
    let c := logEvent 0x0A02 10 2 0 (railLog 1 7 none { c with psq := { c.psq with wdiMissed := true } })
    let n := getF Reg.PSQ_WDI_STATUS.RESTARTS c
    if getF Reg.PSQ_WDI_CFG.RESPONSE c = 2 then
      if n < 3 then restart (setF Reg.PSQ_WDI_STATUS.RESTARTS (n + 1) (setF Reg.PSQ_WDI_STATUS.STATE 1 c))
      else setF Reg.PSQ_WDI_STATUS.STATE 3 c
    else setF Reg.PSQ_WDI_STATUS.STATE 1 c

def execWdiTimeout (s : State) : Host.Outcome State Fault Refusal := .next (onCtl wdiTimeout s)

/-- VHEEL falls below 2.9 V (R347): from HEEL_HOLD, when it is charged, Heel finishes the record in progress or writes a TYPE 4
record; an uncharged capacitor leaves the record in progress unfinished. -/
def vheelLoss (inProgress : Bool) (c : Ctl) : Ctl :=
  let mark := fun (f : RailRec → RailRec) (c : Ctl) => { c with psq := { c.psq with ring := (match c.psq.ring with
    | r :: rest => f r :: rest | [] => []) } }
  let c :=
    if getF Reg.HEEL_RLOG_STATUS.HOLD_READY c = 1 then
      if inProgress then mark (fun r => { r with hold := true }) c
      else railLogPut { railRec 4 0 none c with hold := true } c
    else if inProgress then mark (fun r => { r with type := 0 }) c else c
  setF Reg.HEEL_RLOG_STATUS.HOLD_READY 0 { c with psq := { c.psq with vheelLow := true } }

def execVheelLoss (inProgress : Bool) (s : State) : Host.Outcome State Fault Refusal := .next (onCtl (vheelLoss inProgress) s)

/-- HEEL_HOLD is charged, at most 20 ms after VHEEL rises (R347). -/
def execHoldCharged (s : State) : Host.Outcome State Fault Refusal :=
  .next (onCtl (fun c => setF Reg.HEEL_RLOG_STATUS.HOLD_READY 1 { c with psq := { c.psq with vheelLow := false } }) s)

/-- A write of HEEL_RLOG_CLEAR (R349): 0x3C1E empties position 0. -/
def rlogClear (key : Nat) (c : Ctl) : Ctl :=
  if key = 0x3C1E then { c with psq := { c.psq with pinned := none } } else c

def execHeelRlogClear (key : Nat) (s : State) : Host.Outcome State Fault Refusal := .next (onCtl (rlogClear key) s)

end Sys2Proof.Machine
end

