-- ==== Sys2Proof/Machine/Recorder.lean ====
section
/-! DEFINITION. Sys2Proof/Machine/Recorder.lean: the commands of the event recorder (R435-R440). -/
namespace Sys2Proof.Machine

/-- A device event. -/
def execEventRecord (code source severity data : Nat) (s : State) : Host.Outcome State Fault Refusal :=
  .next (onCtl (fun c => if severity ≤ 4 then logEvent code source severity data c else c) s)

/-- The fold window of a key closes: a window that folded events makes a summary record. -/
def foldClose (code src : Nat) (c : Ctl) : Ctl :=
  match foldOf c code src with
  | none => c
  | some f =>
    let c := { c with evr := { c.evr with folds := c.evr.folds.filter (fun x => !(x.code == code && x.source == src)) } }
    if f.folded = 0 then c
    else evrRecord code src f.severity 4 (min 0xFFFF f.folded) (f.folded % 4294967296 + f.first * 4294967296) c

def execFoldWindowClose (code source : Nat) (s : State) : Host.Outcome State Fault Refusal := .next (onCtl (foldClose code source) s)

def flushNow (c : Ctl) : Ctl := if fwRunning c then evrFlush false c else c

/-- FLUSH_MS has passed since the first unflushed record. -/
def execEvrFlush (s : State) : Host.Outcome State Fault Refusal := .next (onCtl flushNow s)
/-- EVR_CTRL key 0x00F1. -/
def execEvrFlushCmd (s : State) : Host.Outcome State Fault Refusal := .next (onCtl flushNow s)

/-- EVR_CTRL key 0xC1EA: the recorder is erased sector by sector and starts again from position 0. -/
def evrClear (c : Ctl) : Ctl :=
  if !fwRunning c ∨ c.ef.clearing.isSome then c
  else
    let c := updEf (fun e => { e with records := [], stale := e.records, clearing := some 0, rseqKept := c.evr.rseq }) c
    bankNext (setF Reg.EVR_LOST.RESET 0 (setF Reg.EVR_LOST.BUFFER 0 (setF Reg.EVR_LOST.RESERVE 0 (setF Reg.EVR_LOST.FULL 0 c))))

def execEvrClear (s : State) : Host.Outcome State Fault Refusal := .next (onCtl evrClear s)

end Sys2Proof.Machine
end

