-- ==== Sys2Proof/Machine/RestoreOps.lean ====
section
/-! DEFINITION. Sys2Proof/Machine/RestoreOps.lean: the content that a frame's restore source gives, the writing of a restored frame, the carry
copies, and the release of images (R228, R232, R233, R237, R241-R243). -/
namespace Sys2Proof.Machine

/-! Contents of sources. -/

/-- The image that a restore map entry names. -/
def mapImage (c : Ctl) (m : RMap) : Option SaveImage := if m.carriedImage then c.images.carried else c.images.newest

/-- The pages (16 KiB) of a slot that the image itself has lost. -/
def slotLostPages (c : Ctl) (m : SaveImage) (s : Nat) : List Nat :=
  let n := unitBytes c / 16384
  let fallback := match mapFind m.table s with | some e => e.fallback | none => false
  ((List.range (unitsPerSlot c)).filter (fun u => unitLost c m fallback (placeUnit c s u))).flatMap (fun u => (List.range n).map (fun p => u * n + p))

/-- The content of a slot of an image: its units in order. -/
def slotContent (c : Ctl) (m : SaveImage) (s : Nat) : Content :=
  (List.range (unitsPerSlot c)).foldl (fun (k : Content) u =>
    let v := (mapGet UnitRec.init m.units (s * 64 + u)).content
    let b := unitBytes c
    ⟨k.cells ++ v.cells.map (fun e => (e.1 + u * b, e.2)), k.poison ++ v.poison.map (fun l => l + u * (b / 64))⟩) ⟨[], []⟩

/-- Lost pages hold all ones, and every line of a frame with a lost page is poisoned (R243). -/
def withLost (k : Content) (lost : List Nat) : Content :=
  if lost.isEmpty then k
  else ⟨lost.foldl (fun m p => if p < 128 then memWriteList 0 m (p * 16384) (List.replicate 16384 0xFF) else m) k.cells, List.range linesPerFrame⟩

/-- The content with which a frame is restored, and whether any of its pages is lost; `lost` are the pages that could not be read. -/
def sourceContent (c : Ctl) (f : Nat) (lost : List Nat) : Content × Bool :=
  let m := frameMap c f
  match m.kind with
  | 0 => (⟨[], []⟩, false)
  | 1 =>
    (match mapFind c.flash.units m.loc with
      | some u => if u.frame = f then (withLost u.content lost, !lost.isEmpty) else (withLost ⟨[], []⟩ (List.range 128), true)
      | none => (withLost ⟨[], []⟩ (List.range 128), true))
  | 4 => (withLost ⟨[], []⟩ (List.range 128), false)
  | _ =>
    match mapImage c m with
    | some i =>
      let all := lost ++ slotLostPages c i m.loc
      (withLost (slotContent c i m.loc) all, !all.isEmpty)
    | none => (withLost ⟨[], []⟩ (List.range 128), true)

/-! Writing into DRAM. -/

/-- Put content over `n` bytes from an address on: bytes and poison markers. -/
def putContent (a n : Nat) (k : Content) (s : State) : State :=
  let lines := fun (l : Nat) => decide (a / 64 ≤ l) && decide (l < (a + n) / 64)
  { s with
    dram := memPutSlice 0 (memClear s.dram a n) a k.cells
    poison := k.poison.foldl (fun p l => setAdd p (a / 64 + l)) (s.poison.filter (fun l => !lines l)) }

/-! Carry copies (R233). -/

/-- The background restore and the touch fetches run: from step 7 on, and on in Keep entered from Restoring (log entry 105). -/
def restoreRuns (c : Ctl) : Bool :=
  decide (7 ≤ c.restore.step) && (match c.op with | .restoring => true | .serving => true | .derated => true | .keep => true | _ => false)

/-- Carry copies are made and images released; not in Keep, whose entries a restore would ignore (R227). -/
def carryRuns (c : Ctl) : Bool := restoreRuns c && c.op != .keep

def carries (c : Ctl) (f : Nat) : Bool := c.restore.carryN.contains f || c.restore.carryC.contains f

/-- The save die that read a frame from an image programs its carry copy, with the pages that it could not read lost; without a free copy unit the
carry waits. -/
def carryCopy (f : Nat) (c : Ctl) : Ctl :=
  if !carryRuns c ∨ !carries c f ∨ (carryOf c f).isSome ∨ !c.dtk.restored.testBit f then c
  else
    let m := frameMap c f
    let d := mapDie c m
    match mapImage c m, ((List.range 4).map (fun j => d * 4 + (c.reel.nextGroup + j) % 4)).find? (fun g => dieInService c d && groupHasUnit c g) with
    | some i, some g =>
      let data := (sourceContent c f (mapGet [] c.restore.lostIn f)).1
      let x : Copy := ⟨f, g, 0, some data, none, false, true, i.openEpoch⟩
      let c := { c with reel := { c.reel with copies := c.reel.copies ++ [x], nextGroup := (g + 1) % 8 } }
      match freeUnit c g with
      | none => dropCarryCopy f c
      | some n =>
        let p := takePlace g false c
        (match p.1 with
          | none => dropCarryCopy f p.2
          | some (id, k) =>
            let u : CopyUnit := ⟨f, i.openEpoch, data, id, k, false, false, p.2.welt.nextJseq, none⟩
            let c := logTable d 1 (updFlash (fun y => { y with units := mapPut y.units (locOf g n) u }) p.2)
            { c with reel := { c.reel with copies := c.reel.copies.map (fun y => if y.frame = f ∧ y.carry then { y with unit := n } else y) } })
    | _, _ => c

/-! Release of images (R233). -/

/-- A frame that is still to be restored takes the image as its source. -/
def imageNeeded (c : Ctl) (carried : Bool) : Bool :=
  c.restore.map.any (fun e => (e.2.kind == 2 || e.2.kind == 3) && e.2.carriedImage == carried && !c.dtk.restored.testBit e.1)
  || (!carried && !c.restore.shadowLeft.isEmpty)

/-- Held images of which nothing more is needed are released: each frame has a durable carry entry, or has been written. The Last in use
leaves a set that holds an image. -/
def releaseCheck (c : Ctl) : Ctl :=
  if !carryRuns c then c
  else
    let n := c.images.newest.isSome && c.restore.carryN.isEmpty && !imageNeeded c false
    let k := c.images.carried.isSome && c.restore.carryC.isEmpty && !imageNeeded c true
    if n || k then placeLast (releaseImages n k c) else c

/-! Frames restored (R232, R237). -/

/-- Requests parked for a frame go to Schedule in commit order; in Saving only the writes do (R238). -/
def unpark (f : Nat) (c : Ctl) : Ctl :=
  let mine := c.pipe.parked.filter (fun p => p.frame == f)
  let c := { c with pipe := { c.pipe with parked := c.pipe.parked.filter (fun p => p.frame != f) } }
  mine.foldl (fun c p => if c.op == .saving && !isWrite p.req.op then c else scheduleReq p.src p.req c) c

/-- The frame is restored: its bit is set, its fetch ends, and what was parked for it goes on. -/
def frameRestored (f : Nat) (c : Ctl) : Ctl :=
  let r := c.restore
  let r := { r with bg0 := r.bg0.filter (· != f), bg1 := r.bg1.filter (· != f)
                    touch0 := r.touch0.filter (· != f), touch1 := r.touch1.filter (· != f) }
  let c := { c with restore := r, dtk := { c.dtk with restored := bitSet c.dtk.restored f } }
  unpark f (addF Reg.SAV_RST_FRAMES.COUNT c)

end Sys2Proof.Machine
end

