-- ==== Sys2Proof/Machine/Reel.lean ====
section
/-! DEFINITION. Sys2Proof/Machine/Reel.lean: the Reel cleaner, the Welt journal and the dirty budget (07_dirty_tracking_and_reel.md), the
effective save rate (R209), and the reports of ready slots (R262). -/
namespace Sys2Proof.Machine

/-! Selection (R181, R182). -/

def reelCopies (c : Ctl) : List Copy := c.reel.copies.filter (fun x => !x.carry)

def selectable (c : Ctl) (f : Nat) : Bool :=
  let r := frameRec c f
  (r.base == .dirty || r.base == .shadowed) && !unrestored c f

/-- A Dirty frame that counts as a cold or a band candidate. -/
def coldable (c : Ctl) (f : Nat) : Bool := (frameRec c f).base == .dirty && !unrestored c f

/-- The next candidate of R182, and the cold queue after it. -/
def candidate (c : Ctl) : Option (Nat × List Nat) :=
  match c.dtk.frames.find? (fun e => e.2.epochPend && selectable c e.1) with
  | some e => some (e.1, c.reel.cold)
  | none =>
    match c.reel.cold.dropWhile (fun f => !coldable c f) with
    | f :: rest => some (f, rest)
    | [] =>
      if reelBand c then
        match (c.dtk.frames.find? (fun e => decide (c.reel.sweepPos ≤ e.1) && coldable c e.1)).or (c.dtk.frames.find? (fun e => coldable c e.1)) with
        | some e => some (e.1, [])
        | none => none
      else none

/-- The next stripe group, round robin, of a die in service that has a free copy unit. -/
def nextGroup (c : Ctl) : Option Nat :=
  ((List.range 8).map (fun n => (c.reel.nextGroup + n) % 8)).find? (fun g => dieInService c (g / 4) && groupHasUnit c g)

/-- A copy starts: the frame goes to Cleaning by R170, its table entry takes a stripe group, and its 32,768 lines begin to be read (R183). -/
def startCopy (f g : Nat) (c : Ctl) : Ctl :=
  let r := frameRec c f
  let x : Copy := ⟨f, g, 0, none, none, r.epochPend, false, if r.epochPend then c.epg.closed.getD 0 else openEpoch c⟩
  let c := setFrame f { r with base := .cleaning, redirty := r.base == .shadowed } c
  let c := { c with reel := { c.reel with copies := c.reel.copies ++ [x], nextGroup := (g + 1) % 8 } }
  engines (startFetch .reel 0 0 (f * linesPerFrame) linesPerFrame c)

def reelSelect (c : Ctl) : Ctl :=
  if !reelRuns c ∨ !fwRunning c ∨ getF Reg.DTK_REEL_CFG.ENABLE c = 0 ∨ getF Reg.DTK_REEL_CFG.INFLIGHT c ≤ (reelCopies c).length then c
  else match candidate c, nextGroup c with
    | some (f, cold), some g => startCopy f g { c with reel := { c.reel with cold := cold } }
    | _, _ => c

def execReelSelection (s : State) : Host.Outcome State Fault Refusal := .next (onCtl reelSelect s)

/-- The hardware sweep visits the next frame; it pauses while the candidate queue is full. -/
def sweepVisit (c : Ctl) : Ctl :=
  if !reelRuns c ∨ 1024 ≤ c.reel.cold.length ∨ frameCount c = 0 then c
  else
    let f := c.reel.sweepPos
    let r := frameRec c f
    let c := { c with reel := { c.reel with sweepPos := (f + 1) % frameCount c } }
    if r.base ≠ .dirty then c
    else if r.touch then setFrame f { r with touch := false } c
    else if c.reel.cold.contains f then c
    else { c with reel := { c.reel with cold := c.reel.cold ++ [f] } }

def execColdSweepVisit (s : State) : Host.Outcome State Fault Refusal := .next (onCtl sweepVisit s)

/-! Copies (R183). -/

/-- The data of a copy reaches its save die, which takes a free logical unit and a place in the open superblock (R266, R268). -/
def copyPlace (x : Copy) (data : Content) (c : Ctl) : Ctl :=
  if !dieInService c (x.group / 4) then c
  else match freeUnit c x.group with
    | none => c
    | some n =>
      let p := takePlace x.group false c
      match p.1 with
      | none => c
      | some (id, i) =>
        let u : CopyUnit := ⟨x.frame, x.epoch, data, id, i, false, false, p.2.welt.nextJseq, none⟩
        let c := logTable (x.group / 4) 1 (updFlash (fun y => { y with units := mapPut y.units (locOf x.group n) u }) p.2)
        { c with reel := { c.reel with copies := c.reel.copies.map (fun y => if y.frame = x.frame ∧ y.carry = x.carry then { y with unit := n, content := some data } else y) } }

/-- COPY_DATA: the lines of a frame have been read, and cross Perud with their poison markers. A carry copy takes what was
restored, without a read of DRAM (R233). -/
def copyData (f : Nat) (c : Ctl) : Ctl :=
  match copyOf c f with
  | none => carryCopy f c
  | some x =>
    match (if x.content.isSome ∨ !reelRuns c then none else reelFetch c f) with
    | none => c
    | some y =>
      if y.complete then
        sendLink (x.group / 4) .copyData (f :: x.group :: y.got.poison) (contentBytes y.got 2097152) (copyPlace x y.got (dropFetch y.id c))
      else c

def execCopyData (frame : Nat) (s : State) : Host.Outcome State Fault Refusal := .next (onCtl (copyData frame) s)

/-- COPY_DONE: the unit of the Reel copy of a frame, or of its carry copy, is programmed and its map record logged; the journal writer puts the COPY
entry into the open page, unless the ring is full. -/
def copyDone (f : Nat) (c : Ctl) : Ctl :=
  match (copyOf c f).or (carryOf c f) with
  | none => c
  | some x =>
    match mapFind c.flash.units (locOf x.group x.unit) with
    | none => c
    | some u =>
      if x.content.isNone ∨ x.confirmed.isSome ∨ !u.programmed ∨ !u.logged ∨ u.frame ≠ f ∨ !canAppend c then c
      else
        let e : JEntry := { jEntry .copy f x.epoch with
          poison := !u.content.poison.isEmpty, keep := c.op == .keep, closed := x.closed, loc := locOf x.group x.unit, aux := u.content.poison.length }
        let j := c.welt.nextJseq
        let c := { c with reel := { c.reel with copies := c.reel.copies.map (fun y => if y.frame = f ∧ y.carry = x.carry then { y with confirmed := some j } else y) } }
        jAppend e c

def execCopyDone (frame : Nat) (s : State) : Host.Outcome State Fault Refusal := .next (onCtl (copyDone frame) s)

/-! Units that nothing references (R190, R270). -/

def baseLocs (m : BaseMap) : List Nat :=
  m.entries.flatMap (fun e => (if e.2.cur.kind = 1 then [e.2.cur.loc] else []) ++ (match e.2.alt with | some a => if a.kind = 1 then [a.loc] else [] | none => []))

/-- The units that R190 protects: those of the Welt state, of the last sealed epoch, of the Welt state at the Keep-entry seal, of frames still
to be restored, and of copies in progress. -/
def liveLocs (c : Ctl) : List Nat :=
  let held := match c.images.newest with | some m => if c.op = .keep then baseLocs (weltState (committedEpoch c) (fun e => decide (m.jseqDurable < e.jseq)) c.weltNv) else [] | none => []
  baseLocs (weltState (committedEpoch c) (fun _ => false) c.weltNv)
  ++ (if grpPresent c then ((newestAt (sealedEpoch c) c.welt.nextJseq c.weltNv).filter (fun e => e.2.kind == 1)).map (fun e => e.2.loc) else [])
  ++ held ++ ((c.restore.map.filter (fun e => e.2.kind == 1 && !c.dtk.restored.testBit e.1)).map (fun e => e.2.loc))
  ++ c.reel.copies.map (fun x => locOf x.group x.unit)

/-- M2 releases the units that nothing protects, and their dies free them. -/
def freeDeadUnits (c : Ctl) : Ctl :=
  if !fwRunning c then c
  else
    let live := liveLocs c
    updFlash (fun x => { x with units := x.units.filter (fun e => live.contains e.1 || !dieInService c (e.1 / 4 % 2)) }) c

/-! Journal pages and compaction (R186, R188). -/

def execJournalPageFlush (s : State) : Host.Outcome State Fault Refusal := .next (onCtl flushPage s)

/-- Mark the first page of a list that a test picks. -/
def markPage (p : JPage → Bool) (f : JPage → JPage) : List JPage → List JPage
  | [] => []
  | x :: xs => if p x then f x :: xs else x :: markPage p f xs

/-- JPAGE, with the 16 KiB of the page: the oldest page that a die in service has not received goes to it. -/
def jpageSend (d : Nat) (c : Ctl) : Ctl :=
  let lacks := fun (p : JPage) => if d = 0 then !p.got0 else !p.got1
  match c.welt.pages.find? lacks with
  | none => c
  | some p =>
    if !dieInService c d then c
    else
      let pages := markPage lacks (fun p => if d = 0 then { p with got0 := true } else { p with got1 := true }) c.welt.pages
      sendLink d .jpage [p.entries.length, p.baseGen] (RingPage.bytes ⟨p.entries, p.baseGen⟩) { c with welt := { c.welt with pages := pages } }

def execJpage (d : Fin 2) (s : State) : Host.Outcome State Fault Refusal := .next (onCtl (jpageSend d.val) s)

/-- A die reports its oldest unfinished page programmed and verified; pages leave in order. -/
def pageProgrammed (d : Nat) (c : Ctl) : Ctl :=
  let mine := fun (p : JPage) => if d = 0 then p.got0 && !p.done0 else p.got1 && !p.done1
  if !c.welt.pages.any mine then c
  else
    let pages := markPage mine (fun p => if d = 0 then { p with done0 := true } else { p with done1 := true }) c.welt.pages
    freeDeadUnits (pagesDurable pages.length { c with welt := { c.welt with pages := pages } })

/-- The highest JSEQ that a compaction may fold in: the last durable entry, and no entry beyond the newest held image (R188, log entry 27). -/
def compactLimit (c : Ctl) : Nat :=
  let last := getF Reg.DTK_WELT_JSEQ.JSEQ c
  match c.images.newest.or c.images.carried with | some m => min last m.jseqDurable | none => last

/-- The condition on which M2 compacts. -/
def compactDue (c : Ctl) : Bool :=
  decide (getF Reg.DTK_POLICY.COMPACT c * 65536 < (c.weltNv.entries.filter (fun e => decide (c.weltNv.base.covered < e.jseq))).length)
  || decide (75 ≤ ringPct c)

def compactStart (c : Ctl) : Ctl :=
  if !fwRunning c ∨ !reelRuns c ∨ c.welt.compact.isSome ∨ !compactDue c then c
  else
    let x := compactLimit c
    let m := weltState (committedEpoch c) (fun e => decide (x < e.jseq)) c.weltNv
    let m := { m with gen := c.weltNv.base.gen + 1, covered := max x c.weltNv.base.covered }
    setF Reg.DTK_WELT_STATUS.COMPACTING 1 { c with welt := { c.welt with compact := some m, compactJseq := none } }

def execCompactionStart (s : State) : Host.Outcome State Fault Refusal := .next (onCtl compactStart s)

/-- The new map is written and read back in the other base slot of each die in service: BASE_DONE is appended, as soon as the journal writer can
take it. -/
def baseWritten (c : Ctl) : Ctl :=
  match c.welt.compact, c.welt.compactJseq with
  | some m, none =>
    if !fwRunning c ∨ !canAppend c then c
    else
      let slot := 1 - c.weltNv.slot
      let c := updWelts (slotPut slot m) { c with welt := { c.welt with compactJseq := some c.welt.nextJseq } }
      jAppend { jEntry .baseDone 0 0 with aux := doneAux m.gen slot } c
  | _, _ => c

def execBaseMapWritten (s : State) : Host.Outcome State Fault Refusal := .next (onCtl baseWritten s)

/-! The effective save rate (R209). -/

/-- The stripe rows of set `k` that hold a unit of a filled slot or of a shadow slot. -/
def rowsOfSet (c : Ctl) (k : Nat) : Nat :=
  (((List.range (slotTotal c)).filter (fun s => s % setCount c == k && slotFilled c s)).flatMap (slotRows c)).eraseDups.length

def largestRows (c : Ctl) : Nat := (List.range (setCount c)).foldl (fun n k => max n (rowsOfSet c k)) 0

/-- β in units of 1/32,768. -/
def betaOf (c : Ctl) : Nat :=
  let l := largestRows c
  if l < 2 then 32768 else min 32768 (32768 * (dirtyCount c + sShadow c) * unitsPerSlot c / (setCount c * (l - 1) * 15))

/-- The ways of the dies in service. -/
def lastWays (c : Ctl) : List Nat := [0, 1].flatMap (fun d => if dieInService c d then dieWays c d else [])

/-- λ = 16/17 applies: a set of the Last in use holds a die marked lagging. -/
def lambdaOn (c : Ctl) : Bool := (lastWays c).any (fun wk => (wayAt c wk).lag)

/-- R_die in B/s, as a numerator and a denominator (R204). -/
def dieRate (c : Ctl) : Nat × Nat :=
  let n := 15 * unitBytes c * 100000000
  let d := 16 * getF Reg.SAV_TIMING.T_C c
  if d = 0 then (0, 1) else if 250000000 * d ≤ n then (250000000, 1) else (n, d)

/-- R_eff in B/s, as a numerator and a denominator. -/
def effRate (c : Ctl) : Nat × Nat :=
  let r := dieRate c
  let l := if lambdaOn c then (16, 17) else (1, 1)
  ((lastWays c).length * r.1 * betaOf c * l.1, r.2 * 32768 * l.2)

/-! The budget (R176-R178). -/

/-- B_energy: E_use in 0.1 J over 1.5 × P_save, less 2.5 ms, at R_eff, less the shadow pool. -/
def bEnergy (c : Ctl) : Nat :=
  let e := getF Reg.NRG_E_USE.E_USE c
  let p := getF Reg.DTK_SAVE_POWER.WATTS c
  let r := effRate c
  if p = 0 then 0 else (400 * e - 15 * p) * r.1 / (6000 * p * r.2 * 2097152) - sShadow c

/-- min(B_cfg, B_sole, B_energy). -/
def budgetNow (c : Ctl) : Nat := min (getF Reg.DTK_BUDGET_CFG.VALUE c) (min (soleLimit c) (bEnergy c))

/-- Energy and Sole, as limiters that M2 finds below the configured budget (R455 DERATE). -/
def limiters (c : Ctl) : Nat :=
  b2n (decide (bEnergy c < getF Reg.DTK_BUDGET_CFG.VALUE c)) + b2n (decide (soleLimit c < getF Reg.DTK_BUDGET_CFG.VALUE c)) * 2

/-- M2 writes DTK_BUDGET_FW: the age is cleared, and B follows. -/
def budgetWrite (v : Nat) (c : Ctl) : Ctl :=
  let c := setF Reg.HEEL_DEGRADE.DERATE (limiters c) c
  keepCausesNow (derateCheck (setF Reg.DTK_BUDGET_FW.VALUE v (setF Reg.DTK_BUDGET_AGE.STALE 0
    { c with dtk := { c.dtk with fwAt := some c.uptime } })))

/-- A recomputation after the first write: a lower result is written at once, a higher one once every result of a second has exceeded the
value, and then the lowest of them; the value is written again otherwise. -/
def budgetRecompute (second : Bool) (c : Ctl) : Ctl :=
  if !fwRunning c ∨ c.dtk.fwAt.isNone then c
  else
    let v := getF Reg.DTK_BUDGET_FW.VALUE c
    let r := budgetNow c
    let raise := fun (o : Option Nat) (c : Ctl) => { c with dtk := { c.dtk with raiseMin := o } }
    if r ≤ v then budgetWrite r (raise none c)
    else
      let low := match c.dtk.raiseMin with | some m => min m r | none => r
      if second && c.dtk.raiseMin.isSome then budgetWrite low (raise none c) else budgetWrite v (raise (some low) c)

def execBudgetRecompute (secondPassed : Bool) (s : State) : Host.Outcome State Fault Refusal := .next (onCtl (budgetRecompute secondPassed) s)

/-- DTK_BUDGET_AGE reaches 1,000 ms: that time has passed since M2's last write. -/
def budgetStale (c : Ctl) : Ctl :=
  match c.dtk.fwAt with
  | none => c
  | some t => if getF Reg.DTK_BUDGET_AGE.STALE c = 1 then c else staleCheck (passTo (t + 1000000000) c)

def execBudgetStale (s : State) : Host.Outcome State Fault Refusal := .next (onCtl budgetStale s)

/-- No stripe group of a die in service has a free copy unit for the cleaner (R180). -/
def noUnit (c : Ctl) : Bool := !(List.range 8).any (fun g => dieInService c (g / 4) && groupHasUnit c g)

def execNoCopyUnitTimeout (s : State) : Host.Outcome State Fault Refusal :=
  .next (onCtl (fun c => if reelRuns c && noUnit c then logEvent 0x0502 5 3 0 c else c) s)

/-- READY_MAP: a save die reports its ready bits, and the hub shows the count (R262). -/
def readyMap (d : Nat) (c : Ctl) : Ctl :=
  if dieInService c d ∧ (reelRuns c || c.op == .restoring) = true then keepCausesNow (setReady (readyBits c) c) else c

def execReadyMap (d : Fin 2) (s : State) : Host.Outcome State Fault Refusal := .next (onCtl (readyMap d.val) s)

end Sys2Proof.Machine
end

