-- ==== Sys2Proof/Machine/Restore.lean ====
section
/-! DEFINITION. Sys2Proof/Machine/Restore.lean: the steps of a restore, the restore map, the background restore, restore-on-touch, and the end of
Restoring (09_restore_and_recovery.md), with the durability of journal pages (R186, R240). -/
namespace Sys2Proof.Machine

/-! Sanitize and Secure Erase (R90, R219, R231). -/

def zeroEntries (first : Nat) : Nat → List JEntry
  | 0 => []
  | n + 1 => zeroEntries first n ++ [{ jEntry .zero n 0 with jseq := first + n }]

/-- What embedded flash holds of the media key: the key generation, and the key wrapped under the hub key (R219). -/
def wrappedKey (c : Ctl) : Nat × List Byte := (c.ef.keyGen, Config.keyWrap Config.hubKey c.ef.mediaKey)

/-- A save die takes the media key of the generation in force into its key register (R219). -/
def keyGo (d : Nat) (c : Ctl) : Ctl :=
  sendLink d .key [c.ef.keyGen] c.ef.mediaKey
    (updFlash (fun x => if d = 0 then { x with key0 := c.ef.mediaKey } else { x with key1 := c.ef.mediaKey }) c)

/-- The media key is replaced by 256 bits of the random number generator, and the new one goes to the save dies in service. -/
def newKey (c : Ctl) : Ctl :=
  let r := drawBytes 32 c
  let c := { r.2 with ef := { r.2.ef with keyGen := (r.2.ef.keyGen + 1) % 4294967296, mediaKey := r.1 } }
  [0, 1].foldl (fun c d => if dieInService c d then keyGo d c else c) c

/-- The pages of 511 entries that hold a list of entries, taken from its front. -/
def pagesFrom : Nat → List JEntry → List RingPage
  | 0, _ => []
  | n + 1, l => if l.isEmpty then [] else ⟨l.take 511, 0⟩ :: pagesFrom n (l.drop 511)

/-- The JSEQ that the next entry takes after a recovery (R185): the one that Heel has recorded, or one above the highest found in a page on a die in
service. -/
def recoveredJseq (c : Ctl) : Nat :=
  let dies := [0, 1].filterMap (fun d => if dieInService c d then some (weltDie c d) else none)
  max c.nv.welt ((pagesOf dies).foldl (fun n p => max n p.last) 0 + 1)

/-- The flash side of a Sanitize (true) or a Secure Erase: no image is held, every frame is a ZERO frame of the Welt state and Clean, the media
key is new, and the poison list is empty, because the lines behind it are zeroed. Sanitize formats the dies and restarts JSEQ. -/
def wipeFlash (sanitize : Bool) (c : Ctl) : Ctl :=
  let c := releaseImages true true (newKey c)
  let c := if sanitize then [0, 1].foldl (fun c d => if dieInService c d then formatDie d c else c) c else c
  let first := if sanitize then 1 else max c.welt.nextJseq (recoveredJseq c)
  let n := frameCount c
  let old := if sanitize then [] else c.weltNv.entries
  let base := if sanitize then BaseMap.init else c.weltNv.base
  let ring := if sanitize then [] else c.weltNv.ring
  let zeros := zeroEntries first n
  let pages := pagesFrom (n / 511 + 1) zeros
  let c := updWelts (fun w => { (if sanitize then WeltDie.init else w) with pages := (if sanitize then [] else w.pages) ++ pages }) c
  let c := setF Reg.DTK_WELT_JSEQ.JSEQ (first + n - 1) (setF Reg.DTK_DIRTY.D 0 { c with
    weltNv := { c.weltNv with base := base, entries := old ++ zeros, ring := ring ++ pages.map RingPage.last, older := if sanitize then [] else c.weltNv.older }
    welt := { Welt.init with nextJseq := first + n }
    nv := { c.nv with welt := first + n }
    dtk := { c.dtk with frames := [] }
    reel := { c.reel with copies := [], cold := [] }
    epg := { c.epg with shadow := [] }
    flash := { c.flash with units := [] }
    ef := { c.ef with poisonList := [], poisonOverflow := false, injected := [], pendingErase := 0 } })
  setReady (readyBits c) c

/-! Steps 1 to 3 (R229-R231, R396). -/

/-- An entry that was in STATE accepted is completed at the recovery; a save on demand has been applied when its trigger was latched. -/
def recoverEntry (cause : Nat) (e : JnlEntry) : JnlEntry :=
  if e.st = 0 then { e with st := 3, status := 6, rc := 0x12, applied := e.applied || (e.opcode == 0xC020 && cause == 4) } else e

/-- The command journal of the newest sealed image is loaded, with the sessions; without one it is re-formed empty. -/
def loadJournal (c : Ctl) : Ctl :=
  let base := getF Reg.HEEL_JRNL_BASE.SEQ c
  match c.images.newest.or c.images.carried with
  | some m => updMbx (fun x => { x with
      jrnl := m.jrnl.map (recoverEntry m.cause) ++ x.jrnl, nextSeq := max x.nextSeq base, loaded := true
      era0 := m.sess0.1, open0 := m.sess0.2, era1 := m.sess1.1, open1 := m.sess1.2 }) c
  | none => updMbx (fun x => { x with nextSeq := max x.nextSeq base, loaded := false, lost := true, open0 := false, open1 := false }) c

def stepImages (i : RestoreInfo) (c : Ctl) : Ctl :=
  let scanN := i.scanN && c.images.newest.isSome
  let scanC := i.scanC && c.images.carried.isSome
  let c := if scanN || scanC then setF Reg.SAV_RST_STATUS.SCAN 1 c else c
  let lostN := if c.images.newest.isSome then i.lostN else []
  let lostC := if c.images.carried.isSome then i.lostC else []
  let dirty := match c.images.newest.or c.images.carried with | some m => m.shutdownDirty | none => c.ef.shutdownDirty
  let allN := scanN && i.lostAllN
  let allC := scanC && i.lostAllC
  let position := (scanN && (i.lostAllN || !lostN.isEmpty)) || (scanC && (i.lostAllC || !lostC.isEmpty))
  let r := { c.restore with step := 2, lostFrames := lostN ++ lostC, lostAllN := allN, lostAllC := allC, lostPosition := position, wasDirty := dirty }
  setF Reg.SAV_RST_STATUS.PHASE 2 (loadJournal { c with restore := r })

/-- The limit of step 3: JSEQ_DURABLE of the newest held image. -/
def weltLimit (c : Ctl) : Option Nat := ((c.images.newest.or c.images.carried).map (fun m => m.jseqDurable))

def overLimit (o : Option Nat) (j : Nat) : Bool := match o with | some n => decide (n < j) | none => false

/-- The save dies in service hold a journal that was formatted at this Waking (R231). -/
def formattedNow (c : Ctl) : Bool :=
  anyDie c && [0, 1].all (fun d => !dieInService c d || getF (Reg.SAV_SD_TABLES.FORMATTED d) c == 1)

/-- The pages that no die in service gives: those reported unreadable, and those that only a die out of service holds (R189, R243). -/
def lostPagesOf (reported : List Nat) (c : Ctl) : List Nat :=
  let served := [0, 1].filterMap (fun d => if dieInService c d then some (weltDie c d) else none)
  let all := pagesOf [c.weltNv.die0, c.weltNv.die1]
  (all.filter (fun p => reported.contains p.first || !(pagesOf served).any (fun q => q.first == p.first))).map RingPage.first

/-- A module without a base map writes generation 1, in which every frame is zero, and waits until its BASE_DONE is durable. Its journal begins
anew with JSEQ 1 (R185, R231). -/
def firstBase (c : Ctl) : Ctl :=
  if c.welt.compact.isSome then c
  else setF Reg.DTK_WELT_STATUS.COMPACTING 1 { c with
    nv := { c.nv with welt := 1 }
    weltNv := { c.weltNv with base := BaseMap.init, slot := 1, entries := [], ring := [], older := [] }
    welt := { Welt.init with compact := some { BaseMap.init with gen := 1 } } }

/-- The Welt state is loaded from the save dies in service (R189). Entries above the limit are ignored, and stay so (log entry 25). -/
def stepWelt (i : RestoreInfo) (c : Ctl) : Ctl :=
  let served := [0, 1].filterMap (fun d => if dieInService c d then some (weltDie c d) else none)
  let lost := lostPagesOf i.lostPages c
  let read := (pagesOf served).filter (fun p => !lost.contains p.first)
  let found := if i.noBase then none else baseFound served (read.flatMap RingPage.entries)
  if found.isNone && formattedNow c then firstBase c
  else
    let lim := weltLimit c
    let base : BaseMap := match found with
      | some e => e.1
      | none => { BaseMap.init with gen := served.foldl (fun n w => max n (genHigh w)) 0 }
    let slot := match found with | some e => e.2 | none => 0
    let pages := (voidAbove lim ⟨none, none, read⟩).pages
    let entries := (pages.flatMap RingPage.entries).filter (fun e => decide (base.covered < e.jseq))
    let void := fun (w : WeltDie) => voidAbove lim w
    let gone := lost.filter (fun p => (pagesOf [c.weltNv.die0, c.weltNv.die1]).any (fun q => q.first == p && decide (base.covered < q.last)))
    let w : WeltNv := { c.weltNv with
      die0 := void c.weltNv.die0, die1 := void c.weltNv.die1, base := base, slot := slot, entries := entries
      ring := (pages.filter (fun p => decide (base.covered < p.last))).map RingPage.last }
    let high := (entries.filter (fun e => !overLimit lim e.jseq)).foldl (fun n (e : JEntry) => max n e.jseq) base.covered
    let c := { c with welt := { c.welt with nextJseq := recoveredJseq c }, weltNv := w, restore := { c.restore with step := 3, limit := lim, lostPages := gone, noBase := found.isNone } }
    setF Reg.DTK_WELT_JSEQ.JSEQ high (setF Reg.DTK_WELT_STATUS.BASE_GEN w.base.gen (setF Reg.DTK_WELT_STATUS.BASE_SLOT w.slot
      (setF Reg.DTK_WELT_STATUS.SINGLE_MIRROR (b2n (!bothDies c)) (setF Reg.SAV_RST_STATUS.PHASE 3 c))))

/-- The Welt state of step 3. -/
def weltNow (c : Ctl) : BaseMap := weltState (committedEpoch c) (fun _ => false) c.weltNv

/-! Step 4: the target (R239, R240). -/

/-- The new base map of a group-epoch target: the newest entry of each frame at or below the epoch (R240, log entry 129). -/
def epochBase (e : Nat) (c : Ctl) : BaseMap :=
  let b := c.weltNv.base
  let high := c.weltNv.entries.foldl (fun n x => max n x.jseq) b.covered
  { gen := b.gen + 1, covered := high, committedEpoch := e, sealedEpoch := e
    entries := ((newestAt e high c.weltNv).map (fun x => (x.1, (⟨x.2, none⟩ : BaseEntry)))).filter (fun x => x.2 != BaseEntry.init) }

def stepTargetEnd (c : Ctl) : Ctl :=
  let c := if c.restore.once then setF Reg.HEEL_RESTORE_TGT.TARGET 0 c else c
  { c with restore := { c.restore with step := 4 } }

def startEpochMap (m : BaseMap) (c : Ctl) : Ctl :=
  setF Reg.DTK_WELT_STATUS.COMPACTING 1 { c with
    restore := { c.restore with epochMap := some m }
    welt := { c.welt with compact := some m, compactJseq := none } }

def stepTarget (c : Ctl) : Ctl :=
  let t := c.restore.want
  if c.restore.target ≠ 0 then
    match c.restore.epochMap with
    | none => stepTargetEnd c
    | some m => if c.welt.compact.isNone then startEpochMap m c else c
  else
    let e := if t = 1 then committedEpoch c else if t = 2 then (weltNow c).sealedEpoch else 0
    let c := { c with restore := { c.restore with sealedWas := (weltNow c).sealedEpoch } }
    if t = 0 then stepTargetEnd c
    else if !grpPresent c ∨ e = 0 then stepTargetEnd (setF Reg.SAV_RST_STATUS.TARGET_FALLBACK 1 c)
    else
      let m := epochBase e c
      startEpochMap m (setF Reg.SAV_RST_EPOCH.EPOCH e (setF Reg.SAV_RST_STATUS.TARGET_USED t { c with restore := { c.restore with target := t } }))

/-- The base map of a group-epoch target is durable: every held image is released, every entry above X is void, and S and C are the epoch. -/
def targetDurable (c : Ctl) : Ctl :=
  match c.restore.epochMap with
  | none => c
  | some m =>
    if c.op = .restoring ∧ c.weltNv.base.gen = m.gen then
      let c := { c with restore := { c.restore with epochMap := none }, weltNv := { c.weltNv with older := [] } }
      placeLast (releaseImages true true (setF Reg.HEEL_COMMITTED.VALUE m.sealedEpoch (setF Reg.EPG_SEALED.VALUE m.sealedEpoch c)))
    else c

/-- JOURNAL_PAGE_DURABLE: a die reports its oldest page programmed and verified. -/
def execJournalPageDurable (d : Fin 2) (s : State) : Host.Outcome State Fault Refusal :=
  .next (onCtl (fun c => releaseCheck (targetDurable (pageProgrammed d.val c))) s)

/-! Step 5: the map (R227, R228, R243). -/

/-- The slot of an image that holds a frame. -/
def imageSlot (m : SaveImage) (f : Nat) : Option (Nat × SlotEntry) := m.table.find? (fun e => !e.2.shadow && e.2.frame == f)

/-- JSEQ of the newest entry of a frame that can be read, in the journal or folded into the base map; 0 for none. -/
def frameJseq (c : Ctl) (f : Nat) : Nat :=
  let base := if c.restore.noBase then 0 else (mapGet BaseEntry.init c.weltNv.base.entries f).cur.jseq
  c.weltNv.entries.foldl (fun n e => if (e.type == .copy || e.type == .zero) && e.frame == f then max n e.jseq else n) base

/-- The candidate with the highest position (R227), before what cannot be read is taken into account. -/
def candidateOf (c : Ctl) (w : BaseMap) (f : Nat) : RMap :=
  let own := fun (carried : Bool) (e : Nat × SlotEntry) => (⟨if e.2.fallback then 3 else 2, e.1, carried⟩ : RMap)
  let welt : RMap := let b := (mapGet BaseEntry.init w.entries f).cur; ⟨if b.kind = 1 then 1 else 0, if b.kind = 1 then b.loc else 0, false⟩
  if c.restore.target ≠ 0 then welt
  else match c.images.newest.bind (fun m => imageSlot m f) with
    | some e => own false e
    | none =>
      match c.images.carried with
      | some m => (match imageSlot m f with
          | some e => if frameJseq c f ≤ m.jseqDurable then own true e else welt
          | none => welt)
      | none => welt

/-- The case of R243 that applies to a frame at step 5. -/
def lostCase (c : Ctl) (f : Nat) (m : RMap) : Option Nat :=
  let image := m.kind == 2 || m.kind == 3
  let r := c.restore
  let j := frameJseq c f
  let beforeC := match c.images.carried with | some i => decide (j ≤ i.jseqDurable) | none => false
  if m.kind ≠ 0 ∧ !dieInService c (mapDie c m) then some 2
  else if !image && r.lostPages.any (fun p => decide (j < p) && !overLimit r.limit p) then some 3
  else if !image && r.noBase && decide (j = 0) then some 4
  else if image && r.lostFrames.contains f then some 5
  else if r.lostAllN && (!image || m.carriedImage) then some 5
  else if r.lostAllC && !image && beforeC then some 5
  else none

def stepMap (c : Ctl) : Ctl :=
  let w := weltNow c
  let all := (List.range (frameCount c)).map (fun f => let m := candidateOf c w f; (f, m, lostCase c f m))
  let map := (all.map (fun e => (e.1, if e.2.2.isSome then (⟨4, 0, false⟩ : RMap) else e.2.1))).filter (fun e => e.2 != RMap.init)
  let fromImage := fun (carried : Bool) => (map.filter (fun e => (e.2.kind == 2 || e.2.kind == 3) && e.2.carriedImage == carried)).map (fun (e : Nat × RMap) => e.1)
  let shadows := match c.images.newest with
    | some m => if c.restore.target = 0 then (m.table.filter (fun e => e.2.shadow)).map (fun (e : Nat × SlotEntry) => e.2.frame) else []
    | none => []
  let r := { c.restore with step := 5, map := map, carryN := fromImage false, carryC := fromImage true, shadowLeft := shadows }
  let c := { c with restore := r }
  let c := if (fromImage true).isEmpty then c else setF Reg.SAV_RST_STATUS.CHAIN 1 c
  all.foldl (fun c e => match e.2.2 with | some k => frameLost e.1 k c | none => c) c

/-! Steps 6 and 7 (R244, R245). -/

def lossy (c : Ctl) : Bool :=
  getF Reg.HEEL_RECOVERY.OPEN_MARK c == 1 || getF Reg.HEEL_SEAL_STATUS.LAST_UNSEALED c == 1
  || getF Reg.HEEL_RECOVERY.KEEP_WRITES c == 1 || decide (0 < getF Reg.SAV_RST_POISONED.COUNT c) || c.restore.lostPosition

def stepOutcome (c : Ctl) : Ctl :=
  let l := lossy c
  let unsealed := getF Reg.HEEL_RECOVERY.OPEN_MARK c == 1 || getF Reg.HEEL_SEAL_STATUS.LAST_UNSEALED c == 1
  let dirty := if unsealed then c.ef.shutdownDirty else c.restore.wasDirty
  let c := if getF Reg.HEEL_RECOVERY.OPEN_MARK c = 1 then setF Reg.HEEL_SEAL_STATUS.LAST_UNSEALED 1 c else c
  let c := setF Reg.HEEL_RECOVERY.NEW 1 (setF Reg.HEEL_RECOVERY.LAST_LOSSY (b2n l) (setF Reg.SAV_RST_STATUS.LOSSY (b2n l) c))
  if l && dirty then setF Reg.SAV_RST_STATUS.DSC_INC 1 { c with ef := { c.ef with dsc := (c.ef.dsc + 1) % 4294967296 } } else c

/-- The Keep causes of the router whose condition holds already when early service opens (R447): a failed channel, a sensor above 105 °C. -/
def keepCausesAtOpen (c : Ctl) : Ctl :=
  let c := if (List.range 8).any (chFailed c) then keepCause 0 c else c
  if c.heel.temps.any (fun t => decide (105 < t)) then keepCause 3 c else c

/-- Early service opens. M3 takes over the sealed epoch, and reports an epoch that was closed and never sealed as lost (R295). -/
def stepOpen (c : Ctl) : Ctl :=
  let c := setF Reg.SAV_RST_EARLY.MS (min 0xFFFF ((c.uptime - c.restore.since) / 1000000))
    (setF Reg.SAV_RST_STATUS.EARLY_OPEN 1 (setF Reg.SAV_RST_STATUS.PHASE 4 { c with restore := { c.restore with step := 7 } }))
  let c := { c with epg := { c.epg with target0 := decide (c.restore.target = 0) } }
  let c := if grpPresent c then
      let c := if c.restore.target = 0 then setF Reg.EPG_SEALED.VALUE c.restore.sealedWas c else c
      let c := setF Reg.EPG_STATE.UNRESOLVED (b2n (decide (committedEpoch c < sealedEpoch c))) c
      match c.nv.unsealed with
      | some n => report 3 0 n { c with nv := { c.nv with unsealed := none } }
      | none => c
    else c
  keepCausesAtOpen (releaseCheck (guestTryOpen c))

/-- RESTORE_STEP_COMPLETE: the next step of R229 has run; `i` says what the records and the journal showed. -/
def restoreStep (i : RestoreInfo) (c : Ctl) : Ctl :=
  if c.op ≠ .restoring ∨ !fwRunning c then c
  else if c.restore.resume ≠ 0 then
    let n := c.restore.resume
    let c := wipeFlash (n == 1) c
    let c := match c.cxl.bg with | some b => bgInterrupt b c | none => c
    { c with
      cxl := { c.cxl with bg := none, lastBg := (if n = 1 then 0x4400 else 0x4401, 0) }
      restore := { c.restore with resume := 0, since := c.uptime } }
  else match c.restore.step with
    | 0 => setF Reg.SAV_RST_STATUS.PHASE 1 { c with restore := { c.restore with step := 1 } }
    | 1 => stepImages i c
    | 2 => stepWelt i c
    | 3 => stepTarget c
    | 4 => stepMap c
    | 5 => stepOpen (stepOutcome c)
    | _ => c

def execRestoreStepComplete (i : RestoreInfo) (s : State) : Host.Outcome State Fault Refusal := .next (onCtl (restoreStep i) s)

/-! The background restore (R232). Shadow frame `j` is named frame count + j. -/

def bgList (c : Ctl) (d : Nat) : List Nat := if d = 0 then c.restore.bg0 else c.restore.bg1
def touchGot (c : Ctl) (d : Nat) : Bool := if d = 0 then c.restore.touchGot0 else c.restore.touchGot1

/-- The slot of the newest image that holds a shadow frame, and the die it lies on. -/
def shadowSlot (c : Ctl) (j : Nat) : Option (Nat × SlotEntry) :=
  c.images.newest.bind (fun m => m.table.find? (fun e => e.2.shadow && e.2.frame == j))
def shadowDie (c : Ctl) (j : Nat) : Nat :=
  match shadowSlot c j with | some e => if e.2.fallback then 1 - slotDie c e.1 else slotDie c e.1 | none => 0

/-- Map entries of one kind of source on a die that are still to be asked for. -/
def bgWaiting (c : Ctl) (d : Nat) (p : RMap → Bool) : List (Nat × RMap) :=
  c.restore.map.filter (fun e => p e.2 && mapDie c e.2 == d && !c.dtk.restored.testBit e.1 && !fetching c e.1)

/-- The entry with the lowest slot. -/
def lowestSlot (l : List (Nat × RMap)) : Option Nat :=
  (l.foldl (fun (best : Option (Nat × RMap)) e => match best with
    | none => some e
    | some x => if e.2.loc < x.2.loc then some e else some x) none).map (·.1)

/-- The next frame in the order of R232. -/
def nextBg (c : Ctl) (d : Nat) : Option Nat :=
  let slot := fun (carried : Bool) (m : RMap) => (m.kind == 2 || m.kind == 3) && m.carriedImage == carried
  let shadow := c.restore.shadowLeft.find? (fun j => shadowDie c j == d && !fetching c (frameCount c + j))
  (shadow.map (fun j => frameCount c + j)).or
    ((lowestSlot (bgWaiting c d (slot false))).or
      ((lowestSlot (bgWaiting c d (slot true))).or ((bgWaiting c d (fun m => m.kind == 1)).head?.map (·.1))))

/-- RSTR_REQ: a save die receives a background fetch request; it holds at most 31. A firmware reset
pauses the background restore (R71). -/
def rstrReq (d : Nat) (c : Ctl) : Ctl :=
  if !restoreRuns c ∨ !fwRunning c ∨ !dieInService c d ∨ 31 ≤ (bgList c d).length then c
  else match nextBg c d with
    | none => c
    | some f =>
      let r := if d = 0 then { c.restore with bg0 := c.restore.bg0 ++ [f] } else { c.restore with bg1 := c.restore.bg1 ++ [f] }
      let m := frameMap c f
      sendLink d .rstrReq [f, m.kind, m.loc, b2n m.carriedImage] [] { c with restore := r }

def execRstrReq (d : Fin 2) (s : State) : Host.Outcome State Fault Refusal := .next (onCtl (rstrReq d.val) s)

/-- Restore data is taken while the restore runs, and in Saving for the frames that the save completes (R238). -/
def fetchRuns (c : Ctl) (f : Nat) : Bool := c.op == .restoring || restoreRuns c || (c.op == .saving && c.save.complete.contains f)

def allRestored (c : Ctl) : Bool := c.restore.shadowLeft.isEmpty && (List.range (frameCount c)).all (fun f => c.dtk.restored.testBit f)

/-- With every frame restored only the carry is left. -/
def restoreTail (f : Nat) (c : Ctl) : Ctl :=
  let c := releaseCheck (carryCopy f c)
  if restoreRuns c = true ∧ allRestored c = true then setF Reg.SAV_RST_STATUS.PHASE 5 c else c

/-- The background restore is complete: every frame is restored and every held image released (R13, R233). -/
def restoreEnded (c : Ctl) : Bool := allRestored c && c.images.newest.isNone && c.images.carried.isNone

/-- Restore writes carry the Open hint (R141, log entry 128). -/
def openRows (line n : Nat) (c : Ctl) : Ctl := (List.range n).foldl (fun c i => touchRow (lineChan c (line + i)) (line + i) 1 c) c

/-- The data of a frame enters DRAM; `lost` are its pages that no die could give. -/
def fillFrame (f : Nat) (lost : List Nat) (s : State) : State :=
  let k := sourceContent s.ctl f lost
  let keep := fun (c : Ctl) => if k.2 then frameLost f 1 { c with restore := { c.restore with lostIn := mapSet [] c.restore.lostIn f lost } } else c
  onCtl (fun c => restoreTail f (frameRestored f (openRows (f * linesPerFrame) linesPerFrame (keep c)))) (putContent (f * 2097152) 2097152 k.1 s)

/-- RSTR_DATA: the hub receives the data of a background fetch. -/
def rstrData (f : Nat) (lost : List Nat) (s : State) : State :=
  let c := s.ctl
  if !fetchRuns c f || !(c.restore.bg0.contains f || c.restore.bg1.contains f) then s
  else if f < frameCount c then fillFrame f lost s
  else
    let j := f - frameCount c
    let data := match shadowSlot c j, c.images.newest with
      | some e, some m => withLost (slotContent c m e.1) lost
      | _, _ => ⟨[], []⟩
    onCtl (fun c =>
      let r := { c.restore with bg0 := c.restore.bg0.filter (· != f), bg1 := c.restore.bg1.filter (· != f), shadowLeft := c.restore.shadowLeft.filter (· != j) }
      restoreTail f (openRows (shadowBase c j / 64) linesPerFrame { c with restore := r })) (putContent (shadowBase c j) 2097152 data s)

def execRstrData (frame : Nat) (lost : List Nat) (s : State) : Host.Outcome State Fault Refusal := .next (rstrData frame lost s)

/-- TOUCH_REQ: the save die receives the request of its touch slot. -/
def touchReq (d : Nat) (c : Ctl) : Ctl :=
  match touchSlot c d with
  | none => c
  | some f =>
    if touchGot c d ∨ !fetchRuns c f ∨ !dieInService c d then c
    else
      let m := frameMap c f
      sendLink d .touchReq [f, m.kind, m.loc, b2n m.carriedImage] []
        { c with restore := if d = 0 then { c.restore with touchGot0 := true } else { c.restore with touchGot1 := true } }

def execTouchReq (d : Fin 2) (s : State) : Host.Outcome State Fault Refusal := .next (onCtl (touchReq d.val) s)

/-- TOUCH_DATA: the data of a die's touch fetch; `us` is the longest grant-to-response time of the reads parked for it. -/
def touchData (d : Nat) (lost : List Nat) (us : Nat) (s : State) : State :=
  match touchSlot s.ctl d with
  | none => s
  | some f =>
    if !touchGot s.ctl d || !fetchRuns s.ctl f then s
    else
      let read := s.ctl.pipe.parked.any (fun p => p.frame == f && !isWrite p.req.op)
      let s := fillFrame f lost s
      onCtl (fun c =>
        let c := { c with restore := if d = 0 then { c.restore with touchGot0 := false } else { c.restore with touchGot1 := false } }
        if read then setF Reg.SAV_RST_TOUCH.MAX_US (min 0xFFFF (max us (getF Reg.SAV_RST_TOUCH.MAX_US c))) c else c) s

def execTouchData (d : Fin 2) (lost : List Nat) (us : Nat) (s : State) : Host.Outcome State Fault Refusal := .next (touchData d.val lost us s)

/-- Frames with a flash source are still to be asked for. -/
def flashLeft (c : Ctl) : Bool :=
  !c.restore.shadowLeft.isEmpty
  || c.restore.map.any (fun e => (e.2.kind == 1 || e.2.kind == 2 || e.2.kind == 3) && !c.dtk.restored.testBit e.1 && !fetching c e.1)

/-- ZERO_FRAME_FILL: the hub has written a KIND 0 or 4 frame; in the background they come last (R232), on touch at once (R235), and in Saving where
the save completes the frame (R238). -/
def zeroFill (f : Nat) (s : State) : State :=
  let c := s.ctl
  let touched := c.pipe.parked.any (fun p => p.frame == f)
  if !fetchRuns c f ∨ c.restore.step < 7 ∨ frameCount c ≤ f ∨ !hubFrame c f ∨ c.dtk.restored.testBit f ∨ (!touched && c.op != .saving && (flashLeft c || !fwRunning c)) then s
  else fillFrame f [] s

def execZeroFrameFill (frame : Nat) (s : State) : Host.Outcome State Fault Refusal := .next (zeroFill frame s)

/-! The end of Restoring (R13, R233). -/

/-- Every frame is restored and every held image released: Serving, or Derated from MIN_SERVICE on. Below it the device stays in Restoring until
the budget rises or the service wait ends (R447). -/
def restoreComplete (c : Ctl) : Ctl :=
  if c.op ≠ .restoring then c else
  let c := releaseCheck c
  if c.restore.step < 7 ∨ !restoreEnded c then c
  else
    let done := fun (c : Ctl) => setF Reg.SAV_RST_STATUS.PHASE 6 { c with restore := { Restore.init with step := 7, target := c.restore.target } }
    if effB c = getF Reg.DTK_BUDGET_CFG.VALUE c then derateCheck (goState .serving (done c))
    else if getF Reg.DTK_BUDGET_MIN.VALUE c ≤ effB c then goState .derated (setF Reg.HEEL_DEGRADE.DERATE (derateBits c) (done c))
    else c

def execRestoreComplete (s : State) : Host.Outcome State Fault Refusal := .next (onCtl restoreComplete s)

end Sys2Proof.Machine
end

