-- ==== Sys2Proof/Machine/Save.lean ====
section
/-! DEFINITION. Sys2Proof/Machine/Save.lean: the commands of a save, of the lead lease and of the seal (08_save.md), and the ends of down
orders (R342). -/
namespace Sys2Proof.Machine

/-! The save pipeline of a die (R200, R201, R215). -/

/-- The save pipeline of a die can run: the die is in service, in Saving, with no down order of the module under way. -/
def saveRuns (c : Ctl) (d : Nat) : Bool := c.op == .saving && dieInService c d && (wholeDown c).isNone && (dieSave c d).started

/-- A save die receives the save-start message: its engines drop what is no save work (R259), and its pipeline starts. -/
def engineStart (wk : Nat) (c : Ctl) : Ctl :=
  let keepRead := fun (d : Desc) => d.op == .read && (match d.frame with | some f => c.save.complete.contains f | none => false)
  let w := wayAt c wk
  let queue := (w.queue.filter (fun d => d.cls == 2 || keepRead d)).map (fun d => if keepRead d then { d with cls := 2 } else d)
  let stops := fun (o : Option Desc) => match o with
    | some d => d.op == .programWl || d.op == .erase || d.op == .eraseCheck
    | none => false
  let aborted := stops w.running || stops w.suspended
  let c := if aborted then setF (Reg.FLC_STATUS.ABORTED (wayChan wk)) 1 c else c
  let hit := fun (o : Option Desc) (c : Ctl) => match o with
    | some d => abortedOp wk d c
    | none => c
  let c := hit w.suspended (hit w.running c)
  let running := if stops w.running then none else w.running
  let suspended := if stops w.suspended then none else w.suspended
  let used := ((queue ++ running.toList ++ suspended.toList).map (fun d => d.slots)).sum
  let was := ((w.queue ++ w.running.toList ++ w.suspended.toList).map (fun d => d.slots)).sum
  runWay wk (setBuf (wayChan wk) (bufUsed c (wayChan wk) - was + used)
    (updWay wk (fun w => { w with queue := queue, running := running, suspended := suspended }) c))

def saveStart (d : Nat) (c : Ctl) : Ctl :=
  if c.op ≠ .saving ∨ !dieInService c d ∨ (wholeDown c).isSome ∨ (dieSave c d).started then c
  else
    let c := updDie d (fun x => { x with started := true }) c
    let c := setF (Reg.SAV_SD_UNITS.COUNT d) 0 (setF (Reg.SAV_SD_FAIL.REWRITES d) 0 (setF (Reg.SAV_SD_FAIL.DROPPED d) 0 (setF (Reg.SAV_SD_FAIL.MISSING d) 0
      (setF (Reg.SAV_SD_STATUS.SAVING d) 1 c))))
    let c := updFlash (fun x => if d = 0 then { x with log0 := 0 } else { x with log1 := 0 }) c
    (dieWays c d).foldl (fun c wk => engineStart wk c) c

def execSaveStart (d : Fin 2) (s : State) : Host.Outcome State Fault Refusal := .next (onCtl (saveStart d.val) s)

/-- The half of the fill bitmap of a die; in the single-die Last the die takes every slot. -/
def fillHalf (c : Ctl) (d : Nat) : Nat :=
  (List.range (slotTotal c)).foldl (fun m s => if c.save.snap.testBit s && (c.save.image.singleDie || slotDie c s == d) then bitSet m s else m) 0

def saveFill (d : Nat) (c : Ctl) : Ctl :=
  if saveRuns c d ∧ (dieSave c d).fill.isNone then
    sendLink d .fill [fillHalf c d] [] (updDie d (fun x => { x with fill := some (fillHalf c d) }) c)
  else c

def execFill (d : Fin 2) (s : State) : Host.Outcome State Fault Refusal := .next (onCtl (saveFill d.val) s)

/-- The slot was confirmed on a die before the die was lost. -/
def confirmedLost (c : Ctl) (s : Nat) : Bool := match mapFind c.save.image.table s with | some e => e.confirmedLost | none => false

/-- The die saves the slot: it stands in its fill bitmap, or in the fallback the die writes for the lost one. -/
def takesSlot (c : Ctl) (d s : Nat) : Bool :=
  match (dieSave c d).fill with
  | none => false
  | some f => f.testBit s
      || (getF (Reg.SAV_SD_STATUS.FALLBACK_ACTIVE d) c == 1 && slotDie c s != d && c.save.snap.testBit s && !confirmedLost c s)

/-- Data unit number `n` of a die in the order of the pipeline: the sets of one die in turn, one unit at a time; the die's own sets come
before its fallback region. Answers the set and the data unit number within it. -/
def dieOrder (c : Ctl) (d n : Nat) : Nat × Nat :=
  let half := setCount c / 2
  let per := half * ((slotTotal c + setCount c - 1) / setCount c * unitsPerSlot c)
  let e := if n < per then d else 1 - d
  let m := n % per
  (e * half + m % half, m / half)

/-- All data units of a die that it must save, as (slot, unit), in order. -/
def dieUnits (c : Ctl) (d : Nat) : List (Nat × Nat) :=
  let total := setCount c * ((slotTotal c + setCount c - 1) / setCount c * unitsPerSlot c)
  ((List.range total).map (fun n =>
    let e := dieOrder c d n
    (slotOfIndex c e.1 e.2, e.2 % unitsPerSlot c))).filter (fun e => decide (e.1 < slotTotal c) && takesSlot c d e.1)

/-- The next unit that the fetch stage asks for. -/
def nextFetch (c : Ctl) (d : Nat) : Option (Nat × Nat) :=
  (dieUnits c d).find? (fun e => !(dieSave c d).requested.contains (placeUnit c e.1 e.2))

/-- SFETCH: the hub receives a save fetch of the next unit and reads its lines as class 2 reads. -/
def sfetch (d : Nat) (c : Ctl) : Ctl :=
  if !saveRuns c d then c
  else match nextFetch c d with
    | none => c
    | some (s, u) =>
      let c := updDie d (fun x => { x with requested := x.requested ++ [placeUnit c s u] }) c
      let c := startFetch .save d (placeUnit c s u) (slotLine c s + u * (unitBytes c / 64)) (unitBytes c / 64) c
      engines (sendLink d .sfetch [s, u] [] (if getF Reg.SAV_STATUS.PHASE c = 1 then setF Reg.SAV_STATUS.PHASE 2 c else c))

def execSfetch (d : Fin 2) (s : State) : Host.Outcome State Fault Refusal := .next (onCtl (sfetch d.val) s)

/-! Units (R201, R205-R208). -/

/-- The position whose die holds a unit: a detour on a set of die `d` moves the units of the lagging die, but one in 16, to the spares of the
others (R207). -/
def physPos (c : Ctl) (d key : Nat) : Nat :=
  match mapFind (dieSave c d).detours (keySet key) with
  | some (pos, b) => if keyPos key = pos ∧ b ≤ keyRow key / 16 ∧ keyRow key % 16 ≠ pos then keyRow key % 16 else keyPos key
  | none => keyPos key

/-- The way of position `pos` of set `k` on die `d`: of its own set, or of the fallback set that it hosts. -/
def setMember (c : Ctl) (d k pos : Nat) : Nat := if setDie c k = d then memberWay c k pos else fallbackWay c k pos

/-- The way that programs a unit on die `d`. -/
def unitWay (c : Ctl) (d key : Nat) : Nat := setMember c d (keySet key) (physPos c d key)

/-- The die-slot position at which a unit is programmed: its own, the spare of its block where it is detoured (R207), or the spare die-slot that its
rewrite has taken (R205); fallback positions follow those of the own sets (R199). -/
def unitPos (c : Ctl) (d key : Nat) : Nat :=
  let p := match mapFind (dieSave c d).tries key with
    | some (_, x) => sparePos x
    | none => if physPos c d key = keyPos key then diePos (keyRow key) else sparePos (keyRow key / 16)
  if setDie c (keySet key) = d then p else pSet c + p
def unitBlock (c : Ctl) (d key : Nat) : Option Nat :=
  (soleList c (unitWay c d key) c.save.lastB).entries[unitPos c d key / pagesPerBlock c]?

/-- The unit lies in the fallback region of die `d`. -/
def inFallback (c : Ctl) (d key : Nat) : Bool := setDie c (keySet key) != d

/-- A unit is left missing (R205, R208): a buffer slot held for its rewrite is returned (R255). -/
def leaveMissing (d key : Nat) (c : Ctl) : Ctl :=
  let img := { c.save.image with missing := c.save.image.missing ++ [imageKey (inFallback c d key) key] }
  let wk := unitWay c d key
  let c := updDie d (fun x => { x with programmed := x.programmed ++ [key] }) { c with save := { c.save with image := img } }
  let c := match (wayAt c wk).held with
    | _ :: rest => setBuf (wayChan wk) (bufUsed c (wayChan wk) - 1) (updWay wk (fun w => { w with held := rest }) c)
    | [] => c
  addF Reg.SAV_PROGRESS.MISSING (addF (Reg.SAV_SD_FAIL.MISSING d) c)

def dieKey (k pos : Nat) : Nat := k * 16 + pos

/-- The unit's die has been dropped, or is a known failed one: nothing programs it (R208, R264). -/
def unitDead (c : Ctl) (d key : Nat) : Bool := (dieSave c d).dropped.contains (unitWay c d key) || wayFailed c (unitWay c d key)

/-- A unit passes to its engine. -/
def unitIssued (d key : Nat) (c : Ctl) : Ctl :=
  let c := updDie d (fun x => { x with fetched := x.fetched ++ [key] }) c
  if unitDead c d key then leaveMissing d key c else c

/-- The slots whose units stand in a row of a set. -/
def rowSlots (c : Ctl) (k r : Nat) : List Nat := ((List.range 15).map (fun m => slotOfIndex c k (r * 15 + m))).eraseDups

/-- The last filled member of the row has passed the stripe stage: the parity unit follows. -/
def releaseParity (d k r : Nat) (c : Ctl) : Ctl :=
  let filled := (List.range 15).filter (fun m =>
    let s := slotOfIndex c k (r * 15 + m)
    decide (s < slotTotal c) && takesSlot c d s)
  let key := unitKey k r (r % 16)
  if filled.all (fun m => (dieSave c d).fetched.contains (unitKey k r (memberPos r m))) && !(dieSave c d).fetched.contains key then unitIssued d key c else c

/-- The hub returns the oldest unit asked for, its lines read: frame number, poison markers and bytes. -/
def sfetchData (d : Nat) (c : Ctl) : Ctl :=
  match (if saveRuns c d then (dieSave c d).requested.find? (fun k => !(dieSave c d).fetched.contains k) else none) with
  | none => c
  | some key =>
    match saveFetch c d key with
    | none => c
    | some x =>
      if !x.complete then c
      else
        let s := (keyUnit c key).1
        let u := (keyUnit c key).2
        let shadow := decide (firstShadow c ≤ s)
        let f := if shadow then s - firstShadow c else (slotFrame c s).getD 0
        let m := c.save.image
        let m := { m with table := mapPut m.table s ⟨f, slotDie c s != d, false, shadow⟩, units := mapPut m.units (s * 64 + u) ⟨x.got, f, shadow, false, false, none⟩ }
        let c := dropFetch x.id { c with save := { c.save with image := m } }
        let c := sendLink d .sfetchData (s :: u :: f :: b2n shadow :: x.got.poison) (contentBytes x.got (unitBytes c)) (unitIssued d key c)
        engines (releaseParity d (keySet key) (keyRow key) c)

def execSfetchData (d : Fin 2) (s : State) : Host.Outcome State Fault Refusal := .next (onCtl (sfetchData d.val) s)

/-- The first block of 16 rows in which a die has not begun any unit: those programmed, and the next one on its way. -/
def firstUntouched (c : Ctl) (d k pos : Nat) : Nat :=
  let mine := fun (key : Nat) => keySet key == k && keyPos key == pos
  let x := dieSave c d
  let begun := x.programmed.filter mine ++ (x.fetched.find? (fun key => mine key && !x.programmed.contains key)).toList
  begun.foldl (fun n key => max n (keyRow key / 16 + 1)) 0

/-- A set of a die is detoured around a position, unless it is detoured already: only the first lagging die of a set is (R206). -/
def detourSet (d pos k : Nat) (c : Ctl) : Ctl :=
  if (mapFind (dieSave c d).detours k).isSome then c
  else
    let e := (pos, firstUntouched c d k pos)
    let img := { c.save.image with detours := mapPut c.save.image.detours k e }
    setF Reg.SAV_DETOURS.SETS (bitSet (getF Reg.SAV_DETOURS.SETS c) k)
      (updDie d (fun x => { x with detours := mapPut x.detours k e }) { c with save := { c.save with image := img } })

/-- The sets that a die saves with a way: its own, and the fallback set it hosts while it writes that region (R199, R215). -/
def savedSets (c : Ctl) (d wk : Nat) : List Nat :=
  let half := setCount c / 2
  let k := wk % 8 * 2 + wayChan wk % 32 / 16
  (d * half + k) :: (if c.save.image.singleDie || getF (Reg.SAV_SD_STATUS.FALLBACK_ACTIVE d) c == 1 then [(1 - d) * half + k] else [])

/-- A die becomes lagging (R206, R207): its sets are detoured around it, and it is marked for later budgets. -/
def dieLagging (d wk : Nat) (c : Ctl) : Ctl :=
  let c := updWay wk (fun w => { w with lag := true, lagged := min 255 (w.lagged + 1) }) (logEvent 0x0603 6 2 (wayChan wk + wk % 8 * 256) c)
  (savedSets c d wk).foldl (fun c k => detourSet d (wayChan wk % 16) k c) c

/-- The run of consecutive slow units of a die, whichever of its sets they belong to. -/
def slowUnit (d wk : Nat) (slow : Bool) (c : Ctl) : Ctl :=
  let n := if slow then mapGet 0 (dieSave c d).slow wk + 1 else 0
  let c := updDie d (fun x => { x with slow := mapSet 0 x.slow wk n }) c
  if n = 3 then dieLagging d wk c else c

/-- The spare die-slot of a block on a die is taken: by a rewrite, or by a detour. -/
def spareUsed (c : Ctl) (d k pos b : Nat) : Bool :=
  (dieSave c d).spares.contains (dieKey k pos * 1048576 + b)
  || (match mapFind (dieSave c d).detours k with | some (lag, b0) => decide (b0 ≤ b) && pos != lag | none => false)

/-- A failed unit is programmed again at the next unused spare die-slot of its die, in the block of the failed position or the next one, at most
twice; otherwise it is left missing. The block that failed is retired at the next Waking (R274). -/
def rewriteUnit (d key : Nat) (c : Ctl) : Ctl :=
  let k := keySet key
  let pos := physPos c d key
  let wk := unitWay c d key
  let c := addF (Reg.FLC_FAIL.PROGRAM (wayChan wk)) c
  let c := match unitBlock c d key with | some b => updBlock wk b (fun r => { r with cause := 2 }) c | none => c
  let last := (mapFind (dieSave c d).tries key).getD (0, keyRow key / 16)
  match (if last.1 < 2 then [last.2, last.2 + 1].find? (fun x => !spareUsed c d k pos x) else none) with
  | some x => addF (Reg.SAV_SD_FAIL.REWRITES d)
      (updDie d (fun y => { y with tries := mapPut y.tries key (last.1 + 1, x), spares := y.spares ++ [dieKey k pos * 1048576 + x] }) c)
  | none => leaveMissing d key c

/-- The unit stands in the image: a data unit with its DETOUR and REWRITE bits, a parity unit by its place. -/
def recordUnit (d key : Nat) (p : Place) (c : Ctl) : Ctl :=
  let m := c.save.image
  let m := if isParity key then { m with parity := mapPut m.parity (imageKey (inFallback c d key) key) p }
    else
      let e := keyUnit c key
      let i := e.1 * 64 + e.2
      let x := mapGet UnitRec.init m.units i
      let rewrite := (mapFind (dieSave c d).tries key).isSome
      { m with units := mapPut m.units i { x with detour := physPos c d key != keyPos key && !rewrite, rewrite := rewrite, place := some p } }
  { c with save := { c.save with image := m } }

/-- The die must save the unit: it is a unit of a filled slot, or the parity of a row with one. -/
def unitWanted (c : Ctl) (d key : Nat) : Bool :=
  let takes := fun (m : Nat) => let s := slotOfIndex c (keySet key) (keyRow key * 15 + m); decide (s < slotTotal c) && takesSlot c d s
  if isParity key then (List.range 15).any takes else takes (if keyPos key < keyRow key % 16 then keyPos key else keyPos key - 1)

/-- A unit of the same die at a lower position is still to be programmed: a die programs its units in ascending position (R203). -/
def unitBefore (c : Ctl) (d key : Nat) : Bool :=
  let wk := unitWay c d key
  let keys := (savedSets c d wk).flatMap (fun k => (List.range (setRows c)).flatMap (fun r =>
    unitKey k r (wayChan wk % 16) :: (match mapFind (dieSave c d).detours k with | some (pos, _) => [unitKey k r pos] | none => [])))
  keys.any (fun x => decide (unitPos c d x < unitPos c d key) && unitWay c d x == wk && unitWanted c d x && !(dieSave c d).programmed.contains x)

/-- A pseudo-SLC unit program of the save returns its status; it was slow when it took more than 1.5 × t_c, both in 10 ns (R206). -/
def unitDone (d k r pos : Nat) (ok : Bool) (busy : Nat) (c : Ctl) : Ctl :=
  let key := unitKey k r pos
  let x := dieSave c d
  if !saveRuns c d ∨ !x.fetched.contains key ∨ x.programmed.contains key ∨ unitBefore c d key then c
  else
    let wk := unitWay c d key
    let page := unitPos c d key % pagesPerBlock c
    let c := addF (Reg.FLC_OPS.COUNT (wayChan wk)) c
    let c := match unitBlock c d key with
      | some b =>
        let c := updBlock wk b (fun y => { y with erased := false, pages := bitSet y.pages page }) c
        if ok then recordUnit d key ⟨wk, b, page, (blockAt c wk b).erases⟩ c else c
      | none => c
    let c := if ok then addF (Reg.SAV_SD_UNITS.COUNT d) (updDie d (fun y => { y with programmed := y.programmed ++ [key] }) c) else rewriteUnit d key c
    slowUnit d wk (decide (3 * getF Reg.SAV_TIMING.T_C c < 2 * busy)) c

def execUnitProgramDone (d : Fin 2) (k r pos : Nat) (ok : Bool) (busy : Nat) (s : State) : Host.Outcome State Fault Refusal :=
  .next (onCtl (unitDone d.val k r pos ok busy) s)

/-- A die that programs no unit for 10 × t_c is dropped: what remains for it, of every set it saves, is left missing. -/
def dropDie (d k pos : Nat) (c : Ctl) : Ctl :=
  let x := dieSave c d
  let wk := setMember c d k pos
  let mine := fun (key : Nat) => unitWay c d key == wk && !x.programmed.contains key
  if !saveRuns c d ∨ x.dropped.contains wk ∨ !x.fetched.any mine then c
  else
    let c := addF (Reg.SAV_SD_FAIL.DROPPED d) (updDie d (fun y => { y with dropped := y.dropped ++ [wk] }) c)
    (x.fetched.filter mine).foldl (fun c key => leaveMissing d key c) c

def execDieDropTimeout (d : Fin 2) (k pos : Nat) (s : State) : Host.Outcome State Fault Refusal := .next (onCtl (dropDie d.val k pos) s)

/-! Confirmation and the seal (R201, R214). -/

/-- Every unit that a slot needs is programmed or accounted for. -/
def slotDone (c : Ctl) (d s : Nat) : Bool :=
  let done := (dieSave c d).programmed
  (List.range (unitsPerSlot c)).all (fun u => done.contains (placeUnit c s u))
  && (slotRows c s).all (fun r => done.contains (unitKey (s % setCount c) r (r % 16)))

def allConfirmed (c : Ctl) : Bool := (List.range (slotTotal c)).all (fun s => !c.save.snap.testBit s || c.save.confirm.testBit s)

/-- With every filled slot confirmed, the lead writes the slot table and the seal record. -/
def writeRecord (c : Ctl) : Ctl :=
  if allConfirmed c then
    let c := setF Reg.SAV_STATUS.PHASE 3 c
    if getF Reg.HEEL_LEASE.OWNER c = 0 then c else { c with save := { c.save with image := { c.save.image with recorded := true } } }
  else c

def confirmSlots (d : Nat) (c : Ctl) : Ctl :=
  if !saveRuns c d then c
  else
    let new := (List.range (slotTotal c)).filter (fun s => takesSlot c d s && !c.save.confirm.testBit s && slotDone c d s)
    let bits := new.foldl bitSet c.save.confirm
    let c := setF Reg.SAV_PROGRESS.CONFIRMED (popCount bits (slotTotal c)) { c with save := { c.save with confirm := bits } }
    writeRecord c

def execConfirm (d : Fin 2) (s : State) : Host.Outcome State Fault Refusal := .next (onCtl (confirmSlots d.val) s)

/-- The save dies at the end of a save: pipelines stop, and dropped dies are failed (R260). -/
def savePipesEnd (c : Ctl) : Ctl :=
  [0, 1].foldl (fun c d =>
    let c := setF (Reg.SAV_SD_STATUS.SAVING d) 0 (setF (Reg.SAV_SD_STATUS.FALLBACK_ACTIVE d) 0 c)
    (dieSave c d).dropped.foldl (fun c wk => failWay wk c) c) c

/-- A seal request: Heel accepts it from the lease owner under the current generation. -/
def sealReq (d gen us : Nat) (c : Ctl) : Ctl :=
  if c.op ≠ .saving ∨ !dieInService c d ∨ (wholeDown c).isSome ∨ !c.save.image.recorded then c
  else
    let ok := decide (gen = getF Reg.HEEL_LEASE_GEN.GEN c) && getF Reg.HEEL_LEASE.OWNER c == d + 1
    let c := sendLink d .sealAck [gen, b2n ok] [] c
    if ok then sealImage (d + 1) us (savePipesEnd c) else c

def execSealReq (d : Fin 2) (gen us : Nat) (s : State) : Host.Outcome State Fault Refusal := .next (onCtl (sealReq d.val gen us) s)

/-! Loss of a die (R215). -/

/-- The die has units to program. -/
def unitsLeft (c : Ctl) (d : Nat) : Bool := (List.range (slotTotal c)).any (fun s => takesSlot c d s && !c.save.confirm.testBit s)

def execSaveDieLossTimeout (d : Fin 2) (s : State) : Host.Outcome State Fault Refusal :=
  .next (onCtl (fun c => if saveRuns c d.val && unitsLeft c d.val then dieLeaves d.val 3 c else c) s)

/-- A save die is lost: both modules down (`core` false), or its core has failed. -/
def execSaveDieLost (d : Fin 2) (core : Bool) (s : State) : Host.Outcome State Fault Refusal :=
  .next (onCtl (fun c => if hubPowered c then dieLeaves d.val (if core then 2 else 1) c else c) s)

/-! The lead lease (R212, R213). -/

def leaseOwner (c : Ctl) : Nat := getF Reg.HEEL_LEASE.OWNER c
def leaseRestart (c : Ctl) : Ctl := { c with heel := { c.heel with leaseAt := c.uptime } }

/-- Heel acknowledges: the die holds itself lead for 4 ms of its own clock. -/
def leaseAcked (d : Nat) (c : Ctl) : Ctl :=
  sendLink d .leaseAck [getF Reg.HEEL_LEASE_GEN.GEN c] [] (setF Reg.SAV_STATUS.LEAD d (setF (Reg.SAV_SD_STATUS.LEAD d) 1 (leaseRestart c)))

/-- Heel refuses, and names the owner. -/
def leaseRefused (d : Nat) (c : Ctl) : Ctl :=
  sendLink d .leaseRefuse [leaseOwner c] [] (addF Reg.HEEL_LEASE.REFUSED (setF (Reg.SAV_SD_STATUS.LEAD d) 0 c))

/-- The lease is granted under a new generation. -/
def leaseGrant (d : Nat) (c : Ctl) : Ctl :=
  leaseAcked d (setF Reg.HEEL_LEASE.OWNER (d + 1) (setF Reg.HEEL_LEASE_GEN.GEN (getF Reg.HEEL_LEASE_GEN.GEN c + 1) c))

def leaseRenew (d : Nat) (c : Ctl) : Ctl :=
  if !hubPowered c then c else if leaseOwner c = d + 1 then leaseAcked d c else leaseRefused d c

def execLeaseRenew (d : Fin 2) (s : State) : Host.Outcome State Fault Refusal := .next (onCtl (leaseRenew d.val) s)

/-- One claim of a die in service. -/
def leaseClaim1 (d : Nat) (c : Ctl) : Ctl :=
  if !dieInService c d then c else if leaseOwner c = 0 then leaseGrant d c else leaseRefused d c

/-- Claims that reach Heel in one cycle: S0's is taken first. -/
def leaseClaim (s0 s1 : Bool) (c : Ctl) : Ctl :=
  if !hubPowered c then c
  else
    let c := if s0 then leaseClaim1 0 c else c
    let c := if s1 then leaseClaim1 1 c else c
    if c.op = .saving ∧ getF Reg.SAV_STATUS.PHASE c = 3 then writeRecord c else c

def execLeaseClaim (s0 s1 : Bool) (s : State) : Host.Outcome State Fault Refusal := .next (onCtl (leaseClaim s0 s1) s)

/-- The lease runs out. More than 4 ms have passed since its last renewal, so that its owner no longer holds itself lead (R213). -/
def leaseExpiry (c : Ctl) : Ctl :=
  match leaseOwner c with
  | 0 => c
  | n + 1 => setF (Reg.SAV_SD_STATUS.LEAD n) 0 (setF Reg.HEEL_LEASE.OWNER 0 c)

def execLeaseExpiry (s : State) : Host.Outcome State Fault Refusal := .next (onCtl leaseExpiry s)

def execLeadHoldExpiry (d : Fin 2) (s : State) : Host.Outcome State Fault Refusal :=
  .next (onCtl (setF (Reg.SAV_SD_STATUS.LEAD d.val) 0) s)

/-! Cut-off and the end of the down order (R313, R216, R342). -/

/-- Four samples below V_CUT while BACKUP_EN is high: a save ends unsealed, a learn cycle ends. -/
def storeCutoff (c : Ctl) : Ctl :=
  if getF Reg.NRG_STATUS.BACKUP c = 0 then c
  else
    let c := cutoffAnchor c
    if c.op = .saving then (if (wholeDown c).isSome then c else endUnsealed (savePipesEnd c)) else learnEnd c

def execStoreCutoff (s : State) : Host.Outcome State Fault Refusal := .next (onCtl storeCutoff s)

/-- The last slot of a down order of the module is off: a TYPE 3 record, Dormant, and Waking at once when a restart is pending. -/
def downComplete (c : Ctl) : Ctl :=
  match wholeDown c with
  | none => c
  | some o =>
    if o.left ≠ [] then c
    else
      let c := railLogPut { railRec 3 (if o.falls = 0 then 0 else 6) o.firstFall c with falls := o.falls } c
      let c := enterDormant c
      if getF Reg.HEEL_WAKE_STATUS.RESTART_PENDING c = 1 then enterWaking c else c

/-- Entering Waking loses what DRAM held. -/
def onCtlW (f : Ctl → Ctl) (s : State) : State :=
  let c := f s.ctl
  if c.op = .waking ∧ s.ctl.op ≠ .waking then ⟨c, [], [], s.pending⟩ else { s with ctl := c }

def execDownOrderComplete (s : State) : Host.Outcome State Fault Refusal := .next (onCtlW downComplete s)

end Sys2Proof.Machine
end

