-- ==== Sys2Proof/Machine/RegValue.lean ====
section
/-! DEFINITION. Sys2Proof/Machine/RegValue.lean: the value of every register field (R3, R5, R8). A field whose value lies in the structured
state is computed from it; every other field is stored. -/
namespace Sys2Proof.Machine

/-- A computed field: the field (of index 0 in an array) and its value by index. -/
abbrev FieldValue : Type := Fld × (Nat → Ctl → Nat)

def plainValue (f : Fld) (g : Ctl → Nat) : FieldValue := (f, fun _ c => g c)
def bitValue (f : Fld) (g : Ctl → Bool) : FieldValue := (f, fun _ c => b2n (g c))

/-! HUB and HEEL (R73, R74, R107, R221, R246, R307, R331, R349, R455). -/

def valuesHub : List FieldValue := [
  bitValue Reg.HUB_CFG_STATUS.LOCKED (fun c => getF Reg.HUB_CFG_LOCK.LOCK c == 1)]

/-- HEEL_LEASE.REMAIN: the lease lasts 5 ms (R212). -/
def leaseRemain (c : Ctl) : Nat :=
  if leaseOwner c = 0 then 0 else max 1 (5 - (c.uptime - c.heel.leaseAt) / 1000000)

/-- The selected rail-log record: 0 the pinned one, then the ring from the newest on. -/
def rlogSelected (c : Ctl) : Option RailRec :=
  match getF Reg.HEEL_RLOG_SEL.INDEX c with
  | 0 => c.psq.pinned
  | n + 1 => c.psq.ring[n]?

/-- The 28 bytes of a rail-log record before its CRC (R346). A record left unfinished has TYPE 0 and bytes that are open. -/
def rlogBody (r : RailRec) : List Byte :=
  if r.type = 0 then (List.range 28).map (fun i => if i = 2 then 0 else Config.freeByte (2 ^ 40 + r.seq * 32 + i))
  else
    leBytes r.seq 2 ++ leBytes r.type 1 ++ leBytes r.cause 1 ++ leBytes (match r.slot with | some n => n % 16 + 16 | none => 0) 1
    ++ leBytes r.state 1 ++ leBytes (r.vs % 4096 + r.step * 4096) 2 ++ leBytes r.time 8 ++ leBytes r.en 2 ++ leBytes r.ready 2
    ++ leBytes r.inrush 2 ++ leBytes (match r.second with | some n => n % 16 + 16 | none => 0) 1 ++ leBytes (min 255 r.delay) 1
    ++ leBytes (r.response % 4 + r.group % 4 * 4 + r.retries % 4 * 16) 1 ++ leBytes r.falls 1 ++ leBytes (b2n r.hold) 2

/-- A word of a record of 32 bytes whose last four are the CRC of R51. -/
def recordWord (body : List Byte) (i : Nat) : Nat := leNat (((body ++ leBytes (crc32 body) 4).drop (4 * i)).take 4)

/-- An empty position reads 0, the reset value of the register (log entry 30). -/
def rlogWord (i : Nat) (c : Ctl) : Nat := match rlogSelected c with | some r => recordWord (rlogBody r) i | none => 0

def valuesHeel : List FieldValue := [
  plainValue Reg.HEEL_STATE.STATE (fun c => opCode c.op),
  plainValue Reg.HEEL_STATE.PREVIOUS (fun c => opCode c.prev),
  plainValue Reg.HEEL_LEASE.REMAIN leaseRemain,
  plainValue Reg.HEEL_TIME.VALUE heelTime,
  plainValue Reg.HEEL_RLOG_STATUS.LAST_SEQ (fun c => match c.psq.ring with | r :: _ => r.seq | [] => 0),
  bitValue Reg.HEEL_RLOG_STATUS.PINNED_VALID (fun c => c.psq.pinned.isSome),
  bitValue Reg.HEEL_RLOG_STATUS.HOLD_USED (fun c => match c.psq.ring with | r :: _ => r.hold | [] => false),
  (Reg.HEEL_RLOG_DATA.DATA 0, rlogWord)]

/-! MEM (R106, R133) and DRC (R166). -/

def decBits (h : Head) : Nat := h.decs.foldl (fun m e => bitSet m e.1) 0
/-- Memory_Active of a head (R86, R90). -/
def memActive (c : Ctl) (h : HeadId) : Bool := intakeState c && (headOf c h).linkUp && !eraseRuns c

/-- MEM_THROTTLE_STATUS.BAND; up to the lock it has its reset value (R8). -/
def throttleBand (c : Ctl) : Nat :=
  if !hubPowered c || c.op == .waking then 0 else if !throttled c then 3 else if dirtyCount c < onset c then 0 else if dirtyCount c < effB c then 1 else 2

def valuesMem : List FieldValue := [
  plainValue Reg.MEM_HDM_STATUS.H0_COMMITTED (fun c => decBits c.cxl.h0),
  plainValue Reg.MEM_HDM_STATUS.H1_COMMITTED (fun c => decBits c.cxl.h1),
  plainValue Reg.MEM_HDM_STATUS.H0_ERR (fun c => c.cxl.h0.hdmErr),
  plainValue Reg.MEM_HDM_STATUS.H1_ERR (fun c => c.cxl.h1.hdmErr),
  bitValue Reg.MEM_ACCESS_STATUS.H0_INTAKE (fun c => intakeOpen c 0),
  bitValue Reg.MEM_ACCESS_STATUS.H1_INTAKE (fun c => intakeOpen c 1),
  bitValue Reg.MEM_ACCESS_STATUS.H0_MEM_ACTIVE (fun c => memActive c 0),
  bitValue Reg.MEM_ACCESS_STATUS.H1_MEM_ACTIVE (fun c => memActive c 1),
  bitValue Reg.MEM_ACCESS_STATUS.SHUTDOWN_DIRTY (fun c => c.ef.shutdownDirty),
  bitValue Reg.MEM_ACCESS_STATUS.BG_BUSY (fun c => c.cxl.bg.isSome),
  bitValue Reg.MEM_ACCESS_STATUS.GPF_PENDING (fun c => c.cxl.gpf.isSome),
  bitValue Reg.MEM_LINK_STATUS.H0_HELD_L2 (fun c => heldL2 c 0),
  bitValue Reg.MEM_LINK_STATUS.H1_HELD_L2 (fun c => heldL2 c 1),
  plainValue Reg.MEM_DSC.COUNT (fun c => if wakeDone c 5 then c.ef.dsc else 0),
  plainValue Reg.MEM_THROTTLE_STATUS.BAND throttleBand,
  bitValue Reg.MEM_THROTTLE_STATUS.HELD_H0 (fun c => heldByBudget c .h0),
  bitValue Reg.MEM_THROTTLE_STATUS.HELD_H1 (fun c => heldByBudget c .h1),
  bitValue Reg.MEM_THROTTLE_STATUS.HELD_G (fun c => heldByBudget c .guest),
  plainValue Reg.MEM_SRC_OCC.H0 (fun c => c.pipe.q0.length),
  plainValue Reg.MEM_SRC_OCC.H1 (fun c => c.pipe.q1.length),
  plainValue Reg.MEM_SRC_OCC.G (fun c => c.pipe.qg.length),
  plainValue Reg.MEM_SRC_HOLD.H0_REASON (fun c => srcHold c .h0),
  plainValue Reg.MEM_SRC_HOLD.H1_REASON (fun c => srcHold c .h1),
  plainValue Reg.MEM_SRC_HOLD.G_REASON (fun c => srcHold c .guest)]

def valuesDrc : List FieldValue := [
  (Reg.DRC_STATUS.RQ_OCC 0, fun n c => ((chanSt c n).rq.filter (fun e => readerOwn e || readerInternal e)).length),
  (Reg.DRC_STATUS.WQ_OCC 0, fun n c => (chanSt c n).wq.length)]

/-! CAL (R167). -/

/-- The lane that CAL_LANE_SEL shows. -/
def laneShown (c : Ctl) : LaneVal :=
  let kind := getF Reg.CAL_LANE_SEL.KIND c
  mapGet LaneVal.init c.cal.lanes (laneKey kind (getF Reg.CAL_LANE_SEL.UNIT c) (if kind = 0 then getF Reg.CAL_LANE_SEL.RANK c else 0)
    (getF Reg.CAL_LANE_SEL.LANE c))

def valuesCal : List FieldValue := [
  bitValue Reg.CAL_STATUS.DRAM_BUSY dramBusy,
  bitValue Reg.CAL_STATUS.FLASH_BUSY flashBusy,
  plainValue Reg.CAL_LANE_VAL.RD_DLY (fun c => (laneShown c).rdDly),
  plainValue Reg.CAL_LANE_VAL.WR_DLY (fun c => (laneShown c).wrDly),
  plainValue Reg.CAL_LANE_VAL.RD_VREF (fun c => (laneShown c).rdVref),
  plainValue Reg.CAL_LANE_VAL.WR_VREF (fun c => (laneShown c).wrVref),
  plainValue Reg.CAL_LANE_CNT.ADJ_COUNT (fun c => (laneShown c).adj),
  plainValue Reg.CAL_LANE_TIME.LAST_TIME (fun c => (laneShown c).time),
  plainValue Reg.CAL_LANE_EYE.RD_EYE (fun c => (laneShown c).rdEye),
  plainValue Reg.CAL_LANE_EYE.WR_EYE (fun c => (laneShown c).wrEye)]

/-! DTK (R191). -/

/-- STALE_LIMIT applies and is the smallest term of B. -/
def staleBound (c : Ctl) : Bool :=
  let f := getF Reg.DTK_BUDGET_FROZEN.VALUE c
  getF Reg.DTK_BUDGET_AGE.STALE c == 1 && decide (f < getF Reg.DTK_BUDGET_FW.VALUE c) && decide (f < soleLimit c)

/-- Milliseconds since M2's last write of DTK_BUDGET_FW; 0 before its first (R178). -/
def budgetAge (c : Ctl) : Nat := match c.dtk.fwAt with | none => 0 | some t => min 4095 ((c.uptime - t) / 1000000)

/-- The 4-bit state of R169. -/
def frameCode (r : FrameRec) : Nat :=
  (match r.base with | .clean => 0 | .dirty => 1 | .cleaning => 2 | .shadowed => 3) + b2n r.redirty * 4 + b2n r.epochPend * 8

def frameShown (c : Ctl) : FrameRec :=
  let f := getF Reg.DTK_FRAME_SEL.FRAME c
  if f < frameCount c then frameRec c f else FrameRec.init

def valuesDtk : List FieldValue := [
  plainValue Reg.DTK_BUDGET_EFF.B effB,
  bitValue Reg.DTK_BUDGET_EFF.SOLE_BOUND (fun c => decide (soleLimit c < getF Reg.DTK_BUDGET_FW.VALUE c) && decide (soleLimit c ≤ effB c)),
  bitValue Reg.DTK_BUDGET_EFF.STALE_BOUND staleBound,
  plainValue Reg.DTK_BUDGET_AGE.MS budgetAge,
  plainValue Reg.DTK_COUNTS.CLEANING (fun c => min 63 (c.dtk.frames.filter (fun e => e.2.base == .cleaning)).length),
  plainValue Reg.DTK_COUNTS.EPOCH_PEND (fun c => (c.dtk.frames.filter (fun e => e.2.epochPend)).length),
  plainValue Reg.DTK_SLOTLESS.COUNT slotless,
  plainValue Reg.DTK_REEL_STATUS.ACTIVE (fun c => (reelCopies c).length),
  bitValue Reg.DTK_REEL_STATUS.RUNNING reelRuns,
  bitValue Reg.DTK_REEL_STATUS.BAND_CAP reelBand,
  bitValue Reg.DTK_REEL_STATUS.NO_UNIT (fun c => reelRuns c && noUnit c),
  plainValue Reg.DTK_REEL_STATUS.RATE (fun c => if c.reel.copies.isEmpty then 0 else Config.freeValue c.fresh),
  plainValue Reg.DTK_WELT_STATUS.RING_PCT ringPct,
  plainValue Reg.DTK_FRAME_VAL.STATE (fun c => frameCode (frameShown c)),
  bitValue Reg.DTK_FRAME_VAL.TOUCH (fun c => (frameShown c).touch),
  bitValue Reg.DTK_FRAME_VAL.SLOT_VALID (fun c => (frameShown c).slot.isSome),
  plainValue Reg.DTK_FRAME_VAL.SLOT (fun c => (frameShown c).slot.getD 0)]

/-! SAV (R222, R223, R247, R282) and FLC (R281). -/

/-- A set of the Last in use holds a die marked lagging (R206). -/
def lagSets (c : Ctl) : Nat :=
  (List.range (setCount c)).foldl (fun m k =>
    if (List.range 16).any (fun p => (wayAt c (memberWay c k p)).lag) then bitSet m k else m) 0

def valuesSav : List FieldValue := [
  plainValue Reg.SAV_RATE.R_EFF (fun c => let r := effRate c; if r.2 = 0 then 0 else r.1 / (r.2 * 10000000)),
  bitValue Reg.SAV_RATE.LAMBDA lambdaOn,
  plainValue Reg.SAV_BALANCE.BETA betaOf,
  plainValue Reg.SAV_BALANCE.L (fun c => min 65535 (largestRows c)),
  plainValue Reg.SAV_LAG_MARK.SETS lagSets,
  plainValue Reg.SAV_KEY.KEY_GEN (fun c => c.ef.keyGen),
  plainValue Reg.SAV_RST_CARRY.COUNT (fun c => c.restore.carryN.length + c.restore.carryC.length)]

/-- Detours in force on a die's sets in the current save. -/
def detourSets (c : Ctl) (d : Nat) : Nat := min 16 (dieSave c d).detours.length

/-- The block lists of one Sole set of a die. -/
def dieSoles (c : Ctl) (d : Nat) (setB : Bool) : List (Nat × SoleList) := (dieWays c d).map (fun wk => (wk, soleList c wk setB))

/-- The entries of a die's lists of the set in use that are not ready. -/
def unreadyEntries (c : Ctl) (d : Nat) : Nat :=
  ((dieSoles c d c.save.lastB).map (fun e =>
    ((List.range e.2.entries.length).filter (fun i => !posReady c c.save.lastB e.1 (i * pagesPerBlock c))).length)).sum

/-- Every block of the other set's lists is erased and checked, and the set is free. -/
def otherErased (c : Ctl) (d : Nat) : Bool :=
  !setHeld c (!c.save.lastB) && (dieSoles c d (!c.save.lastB)).all (fun e => e.2.entries.all (fun b => (blockAt c e.1 b).erased))

def leastSpares (c : Ctl) (d : Nat) : Nat := (dieSoles c d c.save.lastB).foldl (fun n e => min n e.2.spares.length) 15

/-- The stripe group `j` of a save die, by the array index of its registers: die × 4 + group. -/
def valuesSd : List FieldValue := [
  (Reg.SAV_SD_STATUS.LAG_SETS 0, fun d c => detourSets c d),
  (Reg.SAV_SD_SOLE.LAST_SET 0, fun _ c => b2n c.save.lastB),
  (Reg.SAV_SD_SOLE.OTHER_HELD 0, fun _ c => b2n (setHeld c (!c.save.lastB))),
  (Reg.SAV_SD_SOLE.OTHER_ERASED 0, fun d c => b2n (otherErased c d)),
  (Reg.SAV_SD_SOLE.SPARES_MIN 0, fun d c => leastSpares c d),
  (Reg.SAV_SD_SOLE.UNREADY 0, fun d c => unreadyEntries c d),
  (Reg.SAV_SD_WEAR.COPY_PCT 0, fun d c => copyPct c d),
  (Reg.SAV_SD_WEAR.SOLE_PCT 0, fun d c => solePct c d),
  (Reg.SAV_SD_WEAR.SPREAD 0, fun d c => min 65535 ((dieWays c d).foldl (fun n wk => max n (spread c wk)) 0)),
  (Reg.SAV_SD_GRP_LU.FREE 0 0, fun g c => freeUnits c g),
  (Reg.SAV_SD_GRP_LU.NO_UNIT 0 0, fun g c => b2n (!groupHasUnit c g)),
  (Reg.SAV_SD_GRP_LU.MEMBER_FAILED 0 0, fun g c => b2n (groupFailed c g)),
  (Reg.SAV_SD_GRP_LU.ABSENT 0 0, fun g c => b2n (!groupExists c g)),
  (Reg.SAV_SD_GRP_SB.FREE 0 0, fun g c => freeSbs c g),
  (Reg.SAV_SD_GRP_SB.CLOSED 0 0, fun g c => (c.flash.sbs.filter (fun e => e.2.group == g && e.2.closed)).length)]

/-- The way of a channel that FLC_DIE_SEL shows. -/
def wayShown (c : Ctl) (ch : Nat) : Nat := wayKey ch (getF (Reg.FLC_DIE_SEL.WAY ch) c)

def queuedDescs (c : Ctl) (ch : Nat) : Nat := ((List.range 8).map (fun w => (wayAt c (wayKey ch w)).queue.length)).sum

def blocksWith (c : Ctl) (wk : Nat) (p : BlockRec → Bool) : List Nat := (List.range (blocksPerDie c)).filter (fun b => p (blockAt c wk b))

def eraseMax (c : Ctl) (wk : Nat) (p : BlockRec → Bool) : Nat :=
  (blocksWith c wk p).foldl (fun n b => max n (blockAt c wk b).erases) 0

def wayPresent (c : Ctl) (wk : Nat) : Bool := (wayAt c wk).state != 0

def valuesFlc : List FieldValue := [
  (Reg.FLC_STATUS.QUEUED 0, fun ch c => queuedDescs c ch),
  (Reg.FLC_STATUS.BUF_FREE 0, fun ch c => 24 - bufUsed c ch),
  (Reg.FLC_DIE_STATE.STATE 0, fun ch c => (wayAt c (wayShown c ch)).state),
  (Reg.FLC_DIE_STATE.LAG_MARK 0, fun ch c => b2n (wayAt c (wayShown c ch)).lag),
  (Reg.FLC_DIE_STATE.SYSTEM 0, fun ch c => b2n (wayShown c ch % 8 == 0 && wayPresent c (wayShown c ch))),
  (Reg.FLC_DIE_STATE.GROWN 0, fun ch c => min 255 (blocksWith c (wayShown c ch) (fun r => r.pool == 5)).length),
  (Reg.FLC_DIE_STATE.GOOD 0, fun ch c => if wayPresent c (wayShown c ch) then (blocksWith c (wayShown c ch) (fun r => decide (r.pool ≤ 4))).length else 0),
  (Reg.FLC_DIE_WEAR.COPY_MAX 0, fun ch c => min 65535 (eraseMax c (wayShown c ch) (fun r => decide (r.pool ≤ 1)))),
  (Reg.FLC_DIE_WEAR.SOLE_MAX 0, fun ch c => min 65535 (eraseMax c (wayShown c ch) (fun r => r.pool == 2 || r.pool == 3))),
  (Reg.FLC_DIE_CHECK.MEDIAN 0, fun ch c => (wayAt c (wayShown c ch)).median),
  (Reg.FLC_DIE_CHECK.LAGGED 0, fun ch c => min 255 (wayAt c (wayShown c ch)).lagged),
  (Reg.FLC_DIE_CHECK.PASS 0, fun ch c => b2n (wayAt c (wayShown c ch)).passed)]

/-! EPG (R305), CLK (R306), NRG (R330). -/

/-- Shadow pages in use ÷ 512, rounded up. -/
def shadowUsed (c : Ctl) : Nat := ((c.epg.shadow.map (fun e => popCount e.2.2 512)).sum + 511) / 512

def valuesEpg : List FieldValue := [
  bitValue Reg.EPG_STATE.CLOSABLE (fun c => (closeReason (epochHigh c + 1) c).isNone),
  bitValue Reg.EPG_STATE.SEAL_PENDING (fun c => c.epg.closed.isSome),
  plainValue Reg.EPG_STATE.QUEUED (fun c => c.epg.reports.length),
  plainValue Reg.EPG_CLOSED.VALUE epochHigh,
  plainValue Reg.EPG_LEVEL.MIN (fun c => match runningFw c with | some p => p.grpMin | none => 0),
  plainValue Reg.EPG_LEVEL.MAX (fun c => match runningFw c with | some p => p.grpMax | none => 0),
  plainValue Reg.EPG_LEVEL.IN_FORCE (fun c => getF Reg.HEEL_GRP.LEVEL c),
  plainValue Reg.EPG_LEVEL.FORMAT (fun c => getF Reg.HEEL_GRP.FORMAT c),
  plainValue Reg.EPG_SHADOW.USED shadowUsed]

def valuesClk : List FieldValue := [
  plainValue Reg.CLK_TIME.NS (fun c => c.clk.time),
  plainValue Reg.CLK_STATUS.SLEW (fun c => if c.clk.slew = 0 then 0 else if 0 < c.clk.slew then 1 else 2),
  plainValue Reg.CLK_ERR.US (fun c => if clkValid c then min 0xFFFFFFFF ((clkErrNow c + 999) / 1000) else 0xFFFFFFFF),
  plainValue Reg.CLK_SLEW_LEFT.US (fun c => min 0xFFFFFFFF ((c.clk.slew.natAbs + 999999999999) / 1000000000000))]

/-! PSQ (R348). -/

def slotSel (c : Ctl) : Nat := getF Reg.PSQ_SLOT_SEL.SLOT c
def cfgShown (c : Ctl) : RailCfg := railCfg c (slotSel c)
def railShown (c : Ctl) : Rail := railOf c (slotSel c)

def railCode : RailSt → Nat
  | .off => 0 | .inrush => 1 | .ramp => 2 | .ready => 3 | .falling => 4 | .fault => 5 | .held => 6

/-- PSQ_STATUS.SLOT: the slot that a down order has in progress, else that of the up order. -/
def psqSlot (c : Ctl) : Nat := (c.psq.downs.findSome? (fun o => o.left.head?)).getD (getF Reg.PSQ_STATUS.SLOT c)

def valuesPsq0 : List FieldValue := [
  plainValue Reg.PSQ_STATUS.PHASE psqPhase,
  plainValue Reg.PSQ_STATUS.SLOT psqSlot,
  bitValue Reg.PSQ_STATUS.VIN_UP (fun c => c.heel.inputUp),
  plainValue Reg.PSQ_RAILS.EN (fun c => slotMap (fun n => (railOf c n).en)),
  plainValue Reg.PSQ_RAILS.READY (fun c => slotMap (fun n => (railOf c n).st == .ready)),
  bitValue Reg.PSQ_SLOT_CFG0.ENABLE (fun c => (cfgShown c).enable),
  bitValue Reg.PSQ_SLOT_CFG0.SAVE_NEEDED (fun c => (cfgShown c).saveNeeded),
  bitValue Reg.PSQ_SLOT_CFG0.DOWN_AT_SAVE (fun c => (cfgShown c).downAtSave),
  plainValue Reg.PSQ_SLOT_CFG0.UP_POS (fun c => (cfgShown c).upPos),
  plainValue Reg.PSQ_SLOT_CFG0.DOWN_POS (fun c => (cfgShown c).downPos),
  plainValue Reg.PSQ_SLOT_CFG0.RESPONSE (fun c => (cfgShown c).response),
  plainValue Reg.PSQ_SLOT_CFG0.GROUP (fun c => (cfgShown c).group),
  plainValue Reg.PSQ_SLOT_CFG0.RETRIES (fun c => (cfgShown c).retries),
  plainValue Reg.PSQ_SLOT_CFG0.UP_DELAY (fun c => (cfgShown c).upDelay)]

def valuesPsq : List FieldValue := valuesPsq0 ++ [
  plainValue Reg.PSQ_SLOT_CFG1.UV (fun c => (cfgShown c).uv),
  plainValue Reg.PSQ_SLOT_CFG1.OV (fun c => (cfgShown c).ov),
  plainValue Reg.PSQ_SLOT_CFG1.FALL_PCT (fun c => (cfgShown c).fallPct),
  plainValue Reg.PSQ_SLOT_CFG2.INRUSH (fun c => (cfgShown c).inrush),
  plainValue Reg.PSQ_SLOT_CFG2.PG_TIMEOUT (fun c => (cfgShown c).pgTimeout),
  plainValue Reg.PSQ_SLOT_CFG3.FALL_TIMEOUT (fun c => (cfgShown c).fallTimeout),
  plainValue Reg.PSQ_SLOT_CFG3.RETRY_OFF (fun c => (cfgShown c).retryOff),
  plainValue Reg.PSQ_SLOT_STATUS.STATE (fun c => railCode (railShown c).st),
  plainValue Reg.PSQ_SLOT_STATUS.RETRIES_USED (fun c => (railShown c).retriesUsed),
  plainValue Reg.PSQ_SLOT_STATUS.CAUSE (fun c => (railShown c).cause),
  plainValue Reg.PSQ_SLOT_STATUS.VS (fun c => (railShown c).vs),
  plainValue Reg.PSQ_SLOT_FAULTS.COUNT (fun c => min 65535 (railShown c).count),
  plainValue Reg.PSQ_SLOT_FAULTS.RAMP (fun c => min 65535 (railShown c).ramp)]

/-! GST (R382), MBX (R407), SBB (R423). -/

def valuesGst : List FieldValue := [
  plainValue Reg.GST_STATUS.OUTSTANDING (fun c => c.guest.tids.length),
  plainValue Reg.GST_TEMP.AGE (fun c => match c.guest.tempAt with | none => 0 | some t => min 255 ((c.uptime - t) / 1000000))]

def stageNow (c : Ctl) : Stage := c.mbx.stage
def fwNum (c : Ctl) (f : FwPackage → Nat) : Nat := match runningFw c with | some p => f p | none => 0

/-- Seconds left in the provisional period. -/
def provLeft (c : Ctl) : Nat := match c.mbx.provEnd with | none => 0 | some t => min 255 ((t - c.uptime + 999999999) / 1000000000)

def valuesMbx : List FieldValue := [
  plainValue Reg.MBX_SESSION.ERA_H0 (fun c => c.mbx.era0),
  bitValue Reg.MBX_SESSION.OPEN_H0 (fun c => c.mbx.open0),
  plainValue Reg.MBX_SESSION.ERA_H1 (fun c => c.mbx.era1),
  bitValue Reg.MBX_SESSION.OPEN_H1 (fun c => c.mbx.open1),
  plainValue Reg.MBX_JRNL_NEWEST.SEQ (fun c => match c.mbx.jrnl with | e :: _ => e.seq | [] => 0),
  plainValue Reg.MBX_JRNL_OLDEST.SEQ (fun c => match c.mbx.jrnl.getLast? with | some e => e.seq | none => 0),
  plainValue Reg.MBX_JRNL_STATUS.COUNT (fun c => c.mbx.jrnl.length),
  bitValue Reg.MBX_JRNL_STATUS.LOADED (fun c => c.mbx.loaded),
  bitValue Reg.MBX_JRNL_STATUS.LOST (fun c => c.mbx.lost),
  bitValue Reg.MBX_JRNL_STATUS.OPEN_ENTRIES (fun c => c.mbx.jrnl.any (fun e => e.st == 0)),
  plainValue Reg.MBX_STAGE.STATE (fun c => (stageNow c).st),
  plainValue Reg.MBX_STAGE.HEAD (fun c => (stageNow c).head.val),
  plainValue Reg.MBX_STAGE.REJECT (fun c => (stageNow c).reject),
  plainValue Reg.MBX_STAGE.IDLE_S (fun c => if (stageNow c).st = 0 then 0 else min 255 ((c.uptime - (stageNow c).last) / 1000000000)),
  plainValue Reg.MBX_STAGE_OFFSET.BYTES (fun c => (stageNow c).bytes),
  plainValue Reg.MBX_STAGE_GEN.GENERATION (fun c => if (stageNow c).st = 0 then 0 else (stageNow c).hdr.generation),
  plainValue Reg.MBX_FW_STATUS.RUNNING (fun c => c.mbx.fwSlot),
  plainValue Reg.MBX_FW_STATUS.BOOT (fun c => c.ef.bootSlot),
  plainValue Reg.MBX_FW_STATUS.SD_SLOT (fun c => c.mbx.sdSlot),
  bitValue Reg.MBX_FW_STATUS.PROVISIONAL (fun c => c.mbx.provEnd.isSome),
  bitValue Reg.MBX_FW_STATUS.ROLLED_BACK (fun c => c.mbx.rolledBack),
  bitValue Reg.MBX_FW_STATUS.BOOT_FALLBACK (fun c => c.mbx.bootFallback),
  plainValue Reg.MBX_FW_STATUS.PROV_LEFT provLeft,
  plainValue Reg.MBX_FW_FLOOR.SVN (fun c => c.ef.fwFloor),
  plainValue Reg.MBX_FW_LEVELS.SDI_MIN (fun c => fwNum c (·.sdiMin)),
  plainValue Reg.MBX_FW_LEVELS.SDI_MAX (fun c => fwNum c (·.sdiMax)),
  plainValue Reg.MBX_FW_LEVELS.SDI_RUNNING (fun c => match fwSlotOf c c.mbx.sdSlot with | some p => p.sdiLevel | none => 0),
  plainValue Reg.MBX_FW_LEVELS.FORMAT_MAX (fun c => fwNum c (·.formatMax))]

def valuesSbb : List FieldValue := [
  bitValue Reg.SBB_STATUS.LATCH_VALID (fun c => c.sbb.latch.isSome),
  bitValue Reg.SBB_STATUS.STAGED (fun c => c.sbb.staged.isSome),
  plainValue Reg.SBB_STATUS.STAGED_PTR (fun c => match c.sbb.staged with | some s => s.word % 256 | none => 0)]

/-! EFL (R441) and EVR (R442). -/

/-- The 28 bytes of an event record before its CRC (R436). -/
def evrBody (r : EvRec) : List Byte :=
  leBytes r.rseq 4 ++ leBytes r.time 8 ++ leBytes r.code 2 ++ leBytes r.severity 1 ++ leBytes r.source 1 ++ leBytes r.state 1
  ++ leBytes r.flags 1 ++ leBytes r.repeats 2 ++ leBytes r.data 8

/-- The record at a position: one that a clear has not reached yet still stands there (R440). -/
def recordAt (c : Ctl) (i : Nat) : Option EvRec :=
  match c.ef.records[i]?, c.ef.clearing with
  | some r, _ => some r
  | none, some k => if k * 128 ≤ i then c.ef.stale[i]? else none
  | none, none => none

def evrWord (i : Nat) (c : Ctl) : Nat :=
  match recordAt c (getF Reg.EVR_SEL.INDEX c) with
  | some r => recordWord (evrBody r) i
  | none => 0xFFFFFFFF

def bankBits (p : EflBank → Bool) (c : Ctl) : Nat := b2n (p c.efl.bank0) + b2n (p c.efl.bank1) * 2

def valuesEfl : List FieldValue := [
  plainValue Reg.EFL_STATUS.BUSY (bankBits (fun b => b.running.isSome)),
  plainValue Reg.EFL_STATUS.SUSP (bankBits (fun b => !b.susp.isEmpty)),
  bitValue Reg.EFL_HSTATUS.BUSY hostBusy,
  plainValue Reg.EFL_HSTATUS.BUF_BYTES (fun c => c.efl.hbuf.length)]

def valuesEvr : List FieldValue := [
  plainValue Reg.EVR_STATUS.COUNT (fun c => min 32767 c.ef.records.length),
  bitValue Reg.EVR_STATUS.RESERVE_ONLY (fun c => decide (15360 ≤ c.ef.records.length)),
  bitValue Reg.EVR_STATUS.FULL (fun c => decide (16384 ≤ c.ef.records.length)),
  bitValue Reg.EVR_STATUS.CLEARING (fun c => c.ef.clearing.isSome),
  plainValue Reg.EVR_STATUS.BUFFERED (fun c => c.evr.buffer.length),
  (Reg.EVR_DATA.DATA 0, evrWord)]

/-! The map of blocks (R3). -/

/-- The block number of a management address: bits [23:16]. -/
def blockOf (mpa : Nat) : Nat := mpa / 65536

/-- The part of the SAV block, or of FLC, that belongs to a save die. -/
def dieOfMpa (mpa : Nat) : Option Nat :=
  if blockOf mpa = 6 ∧ 0x8000 ≤ mpa % 65536 then some (mpa % 65536 / 0x4000 - 2)
  else if blockOf mpa = 7 then some (mpa % 65536 / 0x8000) else none

/-- The address of the same register with array index 0, and the index. -/
def regIndex (mpa : Nat) : Nat × Nat :=
  let o := mpa % 65536
  match blockOf mpa with
  | 2 => if 0x120 ≤ o ∧ o < 0x140 then (0x20120, (o - 0x120) / 4) else (mpa, 0)
  | 3 => if o < 0x8000 then (0x30000 + o % 0x1000, o / 0x1000) else (mpa, 0)
  | 4 => if 0x40 ≤ o ∧ o < 0x60 then (0x40040, (o - 0x40) / 4) else if 0x100 ≤ o ∧ o < 0x200 then (0x40100, (o - 0x100) / 4) else (mpa, 0)
  | 6 =>
    if o < 0x8000 then (mpa, 0)
    else
      let p := o % 0x4000
      let d := o / 0x4000 - 2
      if 0x110 ≤ p ∧ p < 0x130 then (0x68110 + (p - 0x110) % 8, d * 4 + (p - 0x110) / 8) else (0x68000 + p, d)
  | 7 => (0x70000 + o % 0x400, o / 0x400)
  | 11 => if 0xB0 ≤ o ∧ o < 0xD0 then (0xB00B0, (o - 0xB0) / 4) else (mpa, 0)
  | 12 => if 0x40 ≤ o ∧ o < 0x70 then (0xC0040 + o % 0x10, o / 0x10 - 4) else (mpa, 0)
  | 16 => if 0x30 ≤ o ∧ o < 0x40 then (0x100030, (o - 0x30) / 4) else (mpa, 0)
  | 17 => if 0x20 ≤ o ∧ o < 0x40 then (0x110020, (o - 0x20) / 4) else (mpa, 0)
  | _ => (mpa, 0)

/-- The register map of a block. -/
def blockRows : Nat → List RegRow
  | 1 => rowsHUB | 2 => rowsMEM | 3 => rowsDRC | 4 => rowsCAL | 5 => rowsDTK | 6 => rowsSAV ++ rowsSAVSD | 7 => rowsFLC | 8 => rowsEPG
  | 9 => rowsNRG | 10 => rowsPSQ | 11 => rowsHEEL | 12 => rowsPRD | 13 => rowsGST | 14 => rowsMBX | 15 => rowsSBB | 16 => rowsEFL
  | 17 => rowsEVR | 18 => rowsCLK | _ => []

def blockValues : Nat → List FieldValue
  | 1 => valuesHub | 2 => valuesMem | 3 => valuesDrc | 4 => valuesCal | 5 => valuesDtk | 6 => valuesSav ++ valuesSd | 7 => valuesFlc
  | 8 => valuesEpg | 10 => valuesPsq | 11 => valuesHeel | 13 => valuesGst | 14 => valuesMbx | 15 => valuesSbb | 16 => valuesEfl
  | 17 => valuesEvr | 18 => valuesClk | _ => []

/-- The row of the register map for an address. -/
def regRow (mpa : Nat) : Option RegRow := (blockRows (blockOf mpa)).find? (fun r => r.mpa == (regIndex mpa).1)

/-- The MPA lies in a block of R3. -/
def mpaInBlock (mpa : Nat) : Bool := decide (0x10000 ≤ mpa) && decide (mpa ≤ 0x12FFFF)

/-- The register belongs to the firmware domain (R68). -/
def fwBlock (mpa : Nat) : Bool := blockOf mpa == 14 || blockOf mpa == 16 || blockOf mpa == 17

/-- The registers of a DRAM channel that the configuration leaves unpopulated (R166). Before W5 has named the populated channels every channel shows
its reset values (log entry 125). -/
def unpopulated (mpa : Nat) (c : Ctl) : Bool :=
  blockOf mpa == 3 && (List.range 8).any (chPopulated c) && !chPopulated c (mpa / 0x1000 % 16)

/-- The value of a field: computed or stored. In a firmware reset the firmware-domain registers read their reset values (R71); those of a
save die out of service read 0 (R223, R281), those of an unpopulated DRAM channel (R166), the EPG block of a
module without section 0x000C (R305), and the GST block without a guest (R382). -/
def fieldValue (mpa : Nat) (lo w : Nat) (c : Ctl) : Nat :=
  let dead := match dieOfMpa mpa with
    | some d => !dieInService c d
    | none => unpopulated mpa c || (blockOf mpa == 8 && !grpPresent c) || (blockOf mpa == 13 && !guestPresent c)
  if dead then 0
  else match (blockValues (blockOf mpa)).find? (fun v => v.1.mpa == (regIndex mpa).1 && v.1.lo == lo) with
    | some v => if fwBlock mpa && !fwRunning c then mapGet 0 resetRegs (mpa * 64 + lo) else v.2 (regIndex mpa).2 c % 2 ^ w
    | none => mapGet 0 c.rf (mpa * 64 + lo)

/-- The value of a register, a wide pair whole; write-only fields read 0 (R4). -/
def regWhole (mpa : Nat) (c : Ctl) : Nat :=
  match regRow mpa with
  | none => 0
  | some r => r.fields.foldl (fun n f => n + (if f.2.2 = .wo then 0 else fieldValue mpa f.1 f.2.1 c) * 2 ^ f.1) 0

/-- The value of a 32-bit register as it stands, without side effect. -/
def regValue (mpa : Nat) (c : Ctl) : Nat := regWhole mpa c % 2 ^ 32

end Sys2Proof.Machine
end

