-- ==== Sys2Proof/Machine/RegOps.lean ====
section
/-! DEFINITION. Sys2Proof/Machine/RegOps.lean: reads and writes of whole management registers (R3-R7, R456), and what the key registers
start: wake, save, restart, firmware reset and the configuration lock. -/
namespace Sys2Proof.Machine

/-! Key registers (R65, R70, R71, R74, R221). -/

/-- HEEL_WAKE_CMD: 0x7A7E in Dormant wakes (R14). -/
def heelWakeKey (v : Nat) (c : Ctl) : Ctl := if c.op = .dormant ∧ v % 65536 = 0x7A7E then enterWaking c else c

/-- HEEL_SAVE_CMD: 0x5AFE raises a trigger with cause 5. -/
def heelSaveKey (v : Nat) (c : Ctl) : Ctl :=
  if v % 65536 ≠ 0x5AFE then c
  else match c.op with
    | .restoring => saveTrigger 5 c
    | .serving => saveTrigger 5 c
    | .derated => saveTrigger 5 c
    | .keep => saveTrigger 5 c
    | _ => c

/-- HUB_RESTART: 0xA5A5 requests a restart. -/
def hubRestartKey (v : Nat) (c : Ctl) : Ctl := if v % 65536 = 0xA5A5 then restart c else c

/-- HUB_FW_RESET: 0x5A5A starts a firmware reset. -/
def hubFwResetKey (v : Nat) (c : Ctl) : Ctl := if v % 65536 = 0x5A5A then fwReset 0 c else c

/-! W12 (R61, R65). -/

/-- A Waking goes on: it has not failed, and no thermal trip holds its steps. -/
def wakeGoes (c : Ctl) : Bool := c.op == .waking && !c.waking.failed

/-- Write register fields from the active copy; the fields of a section that the copy lacks keep their reset values. -/
def writeTargets (m : ImageCopy) (l : List (ImgFld × Fld)) (c : Ctl) : Ctl :=
  l.foldl (fun c e => if imgHas m e.1.sec then setF e.2 (imgGet m e.1) c else c) c

/-- The steps before W12 have completed, or W10 has failed or does not run. -/
def lockReady (c : Ctl) : Bool :=
  wakeGoes c && !c.waking.thermalHold && fwRunning c && wakeDone c 8 && wakeDone c 9 && (wakeDone c 10 || c.waking.guestFailed || !guestPresent c)

/-- M0 sets the configuration lock: the last fields from the active copy, M2's first budget (R177), FAULT_N and the Keep causes released
(R62, R455), the provisional period begun (R404), an erase that was cut off shown as running again (R80, R90), and Restoring entered. -/
def configurationLock (c : Ctl) : Ctl :=
  if !lockReady c then c
  else
    let c := match c.cfg with | some m => writeTargets m lockTargets c | none => c
    let c := setF Reg.HUB_CFG_LOCK.LOCK 1 (budgetWrite (budgetNow c) c)
    let c := setF Reg.HEEL_WAKE_STATUS.RESULT 1 (setF Reg.HEEL_WAKE_STATUS.STEP 0 (setF Reg.HEEL_WAKE_STATUS.SLOT 0
      (setF Reg.HEEL_WAKE_STATUS.SLOT_VALID 0 (setF Reg.HEEL_WAKE_STATUS.NEW 1 c))))
    let c := setF Reg.HEEL_DEGRADE.KEEP 0 (setF Reg.HEEL_DEGRADE.RELEASE_PENDING 0 c)
    let c := if grpPresent c then setF Reg.EPG_STATE.MEMBER 1 c else c
    let role := getF Reg.EPG_CFG.ROLE c
    let c := if role = 1 then setF Reg.EPG_PULSE.STATE 1 c else if role = 2 then setF Reg.EPG_PULSE.STATE 3 c else c
    let prov := if c.ef.provisional then some (c.uptime + 60000000000) else none
    let bg := if c.ef.pendingErase = 0 then c.cxl.bg else some ⟨if c.ef.pendingErase = 1 then 0x4400 else 0x4401, 0, 0, none⟩
    goState .restoring { c with
      cxl := { c.cxl with bg := bg }
      heel := { c.heel with faultLow := false }
      waking := { c.waking with done := bitSet c.waking.done 12 }
      mbx := { c.mbx with provEnd := prov }
      restore := { Restore.init with
        resume := c.ef.pendingErase, since := c.uptime, want := getF Reg.HEEL_RESTORE_TGT.TARGET c, once := getF Reg.HEEL_RESTORE_TGT.ONCE c == 1 } }

/-! Reads (R4, R5, R6, R456). -/

def pathIdx : Path → Nat
  | .bar2 => 0
  | .sideband => 1
  | .core n => 2 + n.val

/-- The latch of a HI register on a path. -/
def latchKey (p : Path) (mpa : Nat) : Nat := mpa * 8 + pathIdx p

/-- SBB_IND_ADDR and SBB_IND_DATA serve the sideband only (R416). -/
def indOnly (p : Path) (mpa : Nat) : Bool := (mpa == 0xF0008 || mpa == 0xF000C) && p != .sideband

/-- A 32-bit read. A LO register gives the live low part and latches the high part; a HI register gives its path's latch. The averaged
rate in DTK_REEL_STATUS is a free value, drawn at each read (log entry 31). -/
def regRead (p : Path) (mpa : Nat) (c : Ctl) : Nat × Ctl :=
  if indOnly p mpa then (0, c)
  else match regRow mpa with
    | none => (0, c)
    | some r =>
      match r.kind with
      | .hi => (mapGet 0 c.latches (latchKey p mpa), c)
      | .lo =>
        let v := regWhole mpa c
        (v % 2 ^ 32, { c with latches := mapSet 0 c.latches (latchKey p (mpa + 4)) (v / 2 ^ 32) })
      | .plain => (regValue mpa c, if mpa = 0x50034 then { c with fresh := c.fresh + 1 } else c)

/-- The register can be reached over a path (R7): a core reaches it while its firmware runs, that of a save die's core while the die is in service. -/
def mpaReachable (p : Path) (mpa : Nat) (c : Ctl) : Bool :=
  match p with
  | .bar2 => c.cxl.h0.linkUp || c.cxl.h1.linkUp
  | .sideband => c.op != .off && (blockOf mpa == 11 || getF Reg.HEEL_SB_STATUS.HUB_SERVING c == 1)
  | .core n => hubPowered c && (if n.val < 4 then fwRunning c else dieInService c (n.val - 4))

/-- Only M0 writes HUB_CFG_LOCK (R65), and only M2 writes DTK_BUDGET_FW (R191). -/
def regRestricted (p : Path) (mpa : Nat) : Bool :=
  (mpa == 0x1001C && p != .core 0) || (mpa == 0x50014 && p != .core 2)

/-! Writes (R4). -/

def cfgLocked (c : Ctl) : Bool := getF Reg.HUB_CFG_LOCK.LOCK c == 1

/-- A write of one stored field by its access code. -/
def fieldWrite (mpa v : Nat) (f : Nat × Nat × Acc) (c : Ctl) : Ctl :=
  let fld : Fld := ⟨mpa, f.1, f.2.1⟩
  let x := bitsOf v f.1 f.2.1
  match f.2.2 with
  | .ro => c
  | .wo => c
  | .rw => setF fld x c
  | .rwl => if cfgLocked c then c else setF fld x c
  | .w1c => setF fld (getF fld c - (getF fld c &&& x)) c

/-- A write of every field of a register by its access code. -/
def plainWrite (mpa v : Nat) (c : Ctl) : Ctl :=
  match regRow mpa with
  | none => c
  | some r => if r.kind = .plain then r.fields.foldl (fun c f => fieldWrite mpa v f c) c else c

/-- MEM_PIPE_QOS: a weight of 0 is taken as 1 (R133). -/
def qosWrite (v : Nat) (c : Ctl) : Ctl :=
  setF Reg.MEM_PIPE_QOS.W_H0 (max 1 (bitsOf v 0 4)) (setF Reg.MEM_PIPE_QOS.W_H1 (max 1 (bitsOf v 4 4)) (setF Reg.MEM_PIPE_QOS.W_G (max 1 (bitsOf v 8 4)) c))

/-- DRC_SCRUB_CFG: a PERIOD outside 1 to 168 is discarded (R166). -/
def scrubWrite (ch v : Nat) (c : Ctl) : Ctl :=
  let c := setF (Reg.DRC_SCRUB_CFG.ENABLE ch) (bitsOf v 8 1) c
  let h := bitsOf v 0 8
  if 1 ≤ h ∧ h ≤ 168 then setF (Reg.DRC_SCRUB_CFG.PERIOD ch) h c else c

/-- CAL_CTRL (R167). -/
def calWrite (v : Nat) (c : Ctl) : Ctl :=
  let c := if bitsOf v 0 1 = 1 then runDram c else c
  if bitsOf v 1 1 = 1 then runFlash c else c

/-- DTK_REEL_CFG: a field out of range discards the write; ENABLE is not cleared while D is at or above O, or in Keep (R191). -/
def reelWrite (v : Nat) (c : Ctl) : Ctl :=
  let base := bitsOf v 0 6; let band := bitsOf v 8 6; let fl := bitsOf v 16 6; let en := bitsOf v 24 1
  if base < 1 ∨ 32 < base ∨ band < base ∨ 32 < band ∨ fl < 1 ∨ 32 < fl then c
  else
    let c := setF Reg.DTK_REEL_CFG.BW_BASE base (setF Reg.DTK_REEL_CFG.BW_BAND band (setF Reg.DTK_REEL_CFG.INFLIGHT fl c))
    if en = 0 ∧ (onset c ≤ dirtyCount c ∨ c.op = .keep) then c else setF Reg.DTK_REEL_CFG.ENABLE en c

/-- HEEL_RESTORE_TGT: a write of TARGET 3 is discarded (R246). -/
def targetWrite (v : Nat) (c : Ctl) : Ctl := if bitsOf v 0 2 = 3 then c else plainWrite 0xB0040 v c

/-- NRG_CTRL (R330). -/
def nrgWrite (v : Nat) (c : Ctl) : Ctl :=
  let c := setF Reg.NRG_CTRL.CHG_LIMIT (bitsOf v 16 14) c
  let c := if bitsOf v 0 1 = 1 then learnStart c else c
  if bitsOf v 1 1 = 1 then learnEnd c else c

/-- EVR_CFG: a field out of range discards the write (R442). -/
def evrCfgWrite (v : Nat) (c : Ctl) : Ctl :=
  let s := bitsOf v 0 3; let f := bitsOf v 8 8; let n := bitsOf v 16 7
  if 4 < s ∨ f < 10 ∨ n < 1 ∨ 64 < n then c else plainWrite 0x110004 v c

/-- EVR_CTRL (R442). -/
def evrCtrlWrite (v : Nat) (c : Ctl) : Ctl :=
  if v % 65536 = 0xC1EA then evrClear c else if v % 65536 = 0x00F1 then flushNow c else c

/-- The slot registers write the configuration of the selected slot until the lock; slots 0 and 1 read the values of R334 (R348). -/
def slotCfgWrite (n mpa v : Nat) (r : RailCfg) : RailCfg :=
  if n < 2 then r
  else if mpa = 0xA0018 then
    { r with enable := bitsOf v 0 1 == 1, saveNeeded := bitsOf v 1 1 == 1, downAtSave := bitsOf v 2 1 == 1, upPos := bitsOf v 4 4
             downPos := bitsOf v 8 4, response := bitsOf v 12 2, group := bitsOf v 14 2, retries := bitsOf v 16 2, upDelay := bitsOf v 24 8 }
  else if mpa = 0xA001C then { r with uv := bitsOf v 0 6, ov := bitsOf v 8 6, fallPct := bitsOf v 16 6 }
  else if mpa = 0xA0020 then { r with inrush := bitsOf v 0 14, pgTimeout := bitsOf v 16 9 }
  else { r with fallTimeout := bitsOf v 0 10, retryOff := bitsOf v 16 10 }

def slotWrite (mpa v : Nat) (c : Ctl) : Ctl :=
  if cfgLocked c then c
  else { c with psq := { c.psq with cfgs := mapUpd RailCfg.init c.psq.cfgs (slotSel c) (slotCfgWrite (slotSel c) mpa v) } }

/-- Registers whose write does more than store a field, by address. -/
def specialWrite (mpa v : Nat) : Option (Ctl → Ctl) :=
  if blockOf mpa = 3 then (if (regIndex mpa).1 = 0x3002C then some (scrubWrite (regIndex mpa).2 v) else none)
  else match mpa with
  | 0x1001C => some (fun c => if v % 2 = 1 then configurationLock c else c)
  | 0x10024 => some (hubFwResetKey v)
  | 0x10028 => some (hubRestartKey v)
  | 0xB0004 => some (heelWakeKey v)
  | 0xB0024 => some (heelSaveKey v)
  | 0xB0040 => some (targetWrite v)
  | 0xB00A8 => some (rlogClear (v % 65536))
  | 0x20100 => some (qosWrite v)
  | 0x40004 => some (calWrite v)
  | 0x50014 => some (budgetWrite (v % 2 ^ 19))
  | 0x50030 => some (reelWrite v)
  | 0x9000C => some (nrgWrite v)
  | 0xA0018 => some (slotWrite 0xA0018 v)
  | 0xA001C => some (slotWrite 0xA001C v)
  | 0xA0020 => some (slotWrite 0xA0020 v)
  | 0xA0024 => some (slotWrite 0xA0024 v)
  | 0xD0014 => some (gstCtrl (v % 65536))
  | 0xF0014 => some (sbPendClear v)
  | 0x100010 => some (hostKey v)
  | 0x100014 => some (hostAddr v)
  | 0x100018 => some (hostCommand (v % 16))
  | 0x100020 => some (hostBuf v)
  | 0x110004 => some (evrCfgWrite v)
  | 0x110008 => some (evrCtrlWrite v)
  | _ => none

/-- The block cannot take a write now: a save die out of service, or the firmware domain in its reset. -/
def regDead (mpa : Nat) (c : Ctl) : Bool :=
  (match dieOfMpa mpa with | some d => !dieInService c d | none => false) || (fwBlock mpa && !fwRunning c)

/-- A 32-bit write. -/
def regWrite (p : Path) (mpa v : Nat) (c : Ctl) : Ctl :=
  if indOnly p mpa || regRestricted p mpa || regDead mpa c then c
  else match specialWrite mpa v with
    | some f => f c
    | none => plainWrite mpa v c

end Sys2Proof.Machine
end

