-- ==== Sys2Proof/Machine/Access.lean ====
section
/-! DEFINITION. Sys2Proof/Machine/Access.lean: accesses to the management registers over an access path (R3-R7, R456). -/
namespace Sys2Proof.Machine

/-- A read over a path: the answer is the value of the register; one that is not 32 bits wide and aligned is answered with all ones (R6). The
sideband builds its accesses of 32 bits. A path that does not reach the register gets no answer (R7). -/
def loRead (p : Path) (mpa : Nat) (aligned : Bool) (c : Ctl) : Ctl :=
  if !mpaReachable p mpa c then c
  else if (aligned && mpa % 4 == 0) || p == .sideband then
    let r := regRead p mpa c
    send ⟨.path p, .regData, [mpa, r.1], []⟩ r.2
  else send ⟨.path p, .regData, [mpa, 0xFFFFFFFF], []⟩ c

/-- A read of a LO register: the high part enters the latch of the path. -/
def execLoReadLatch (p : Path) (a : RegAccess) (s : State) : Host.Outcome State Fault Refusal := .next (onCtl (loRead p a.mpa a.aligned) s)

/-- A write: one that is not 32 bits wide and aligned is discarded (R6). -/
def registerWrite (p : Path) (mpa v : Nat) (aligned : Bool) (c : Ctl) : Ctl :=
  if aligned && mpa % 4 == 0 && mpaReachable p mpa c then regWrite p mpa (v % 2 ^ 32) c else c

def execRegisterWrite (p : Path) (mpa v : Nat) (aligned : Bool) (s : State) : Host.Outcome State Fault Refusal :=
  .next (onCtlW (registerWrite p mpa v aligned) s)

end Sys2Proof.Machine
end

