-- ==== Sys2Proof/Machine/MbxOps.lean ====
section
/-! DEFINITION. Sys2Proof/Machine/MbxOps.lean: the operations of the mailbox that several commands share: the command journal and the
frame of vendor and CXL commands (15_mailbox_and_command_journal.md). CXL return codes carry the numbers of CXL 3.1 (log entry 10). -/
namespace Sys2Proof.Machine

/-! CXL return codes (R384). -/
def rcSuccess : Nat := 0x0
def rcBackground : Nat := 0x1
def rcInvalidInput : Nat := 0x2
def rcUnsupported : Nat := 0x3
def rcInternal : Nat := 0x4
def rcBusy : Nat := 0x6
def rcXferOrder : Nat := 0x9
def rcInvalidFw : Nat := 0xA
def rcInvalidSlot : Nat := 0xB
def rcColdReset : Nat := 0xD
def rcInvalidHandle : Nat := 0xE
def rcInvalidPa : Nat := 0xF
def rcInjectLimit : Nat := 0x10
def rcAborted : Nat := 0x12
def rcSecurity : Nat := 0x13
def rcPassphrase : Nat := 0x14
def rcLength : Nat := 0x16

/-! Jarica status (R384). -/
def stOk : Nat := 0x0
def stDuplicate : Nat := 0x1
def stStaleEra : Nat := 0x2
def stNoSession : Nat := 0x3
def stWrongState : Nat := 0x4
def stSecurity : Nat := 0x5
def stFwReset : Nat := 0x6
def stRefused : Nat := 0x7
def stMedia : Nat := 0x8
def stLevel : Nat := 0x9
def stBusy : Nat := 0xA
def stSequence : Nat := 0xB

/-- The CXL return code that accompanies a Jarica status (R384). -/
def rcOf (st : Nat) : Nat :=
  if st ≤ 1 then rcSuccess
  else if st = stWrongState ∨ st = stBusy then rcBusy
  else if st = stSecurity then rcSecurity
  else if st = stFwReset then rcAborted
  else if st = stMedia then rcInternal
  else rcInvalidInput

def sessionEra (c : Ctl) (h : HeadId) : Nat := if h = 0 then c.mbx.era0 else c.mbx.era1
def sessionOpen (c : Ctl) (h : HeadId) : Bool := if h = 0 then c.mbx.open0 else c.mbx.open1

/-- The mailbox of a head can be reached (R86): its link is up, and not idle for a save. -/
def reachable (c : Ctl) (h : HeadId) : Bool :=
  (headOf c h).linkUp && !(headOf c h).l23
  && (match c.op with
    | .waking => true | .restoring => true | .serving => true | .derated => true | .keep => true
    | _ => false)

/-! Journal (R394-R396). -/

/-- The 32 bytes of an entry (R395). -/
def jnlBytes (e : JnlEntry) : List Byte :=
  leBytes e.seq 8 ++ leBytes e.opcode 2 ++ leBytes e.tag 2
  ++ leBytes (e.era % 16 + e.head.val * 16 + b2n e.applied * 32 + e.st * 64) 1 ++ leBytes e.status 1 ++ leBytes e.rc 2
  ++ leBytes e.time 8 ++ leBytes e.inCrc 4 ++ leBytes e.out 4

/-- The 128 KiB that a save writes of the journal (R396): the ring of 4,096 entries, the entry of a SEQ at SEQ mod 4,096 and 0xFF where there is
none (log entry 142). -/
def journalBytes (es : List JnlEntry) : List Byte :=
  (List.range 4096).flatMap (fun i => match es.find? (fun e => e.seq % 4096 == i) with | some e => jnlBytes e | none => List.replicate 32 0xFF)

/-- The pages of an image that hold the journal (R202, R396): metadata with KIND 1 and the index of the page, and the payload. -/
def journalPages (m : SaveImage) : List (List Byte × List Byte) :=
  let bs := journalBytes m.jrnl
  (List.range 8).map (fun n => (recordMeta m 1 n, (bs.drop (n * 16384)).take 16384))

/-! The frame of a command. -/

/-- The firmware is down: the command waits behind its doorbell (R387; it is presented again, log entry 32). -/
def ringDoorbell (h : HeadId) (c : Ctl) : Ctl := updMbx (fun m => { m with doorbell := bitSet m.doorbell h.val }) (leaveL1 h c)
/-- The firmware takes the command of a head; its arrival is traffic on the head's link (R101). -/
def takeDoorbell (h : HeadId) (c : Ctl) : Ctl := updMbx (fun m => { m with doorbell := bitClr m.doorbell h.val }) (leaveL1 h c)

/-- What a mailbox command has come to: the state, the Jarica status, DETAIL, whether its commit point was passed, the output data
and the OUT value of its entry. -/
structure MbxResult where
  ctl : Ctl
  status : Nat
  detail : Nat
  applied : Bool
  data : List Byte
  out : Nat

/-- A result with no output. -/
def answered (c : Ctl) (status detail : Nat) (applied : Bool) : MbxResult := ⟨c, status, detail, applied, [], detail⟩

/-- The 16 bytes before the output of a vendor command (R383). -/
def vendorHeader (tag era status detail seq : Nat) : List Byte :=
  leBytes tag 2 ++ leBytes era 1 ++ leBytes status 1 ++ leBytes detail 4 ++ leBytes seq 8

/-- The response of a vendor command (R383): return code, TAG, ERA, STATUS, DETAIL, SEQ, and the payload, header first. Completion signals
vector 0 (R82). -/
def vendorReply (h : HeadId) (tag era status detail seq : Nat) (data : List Byte) (c : Ctl) : Ctl :=
  if dropTag ≤ tag then c
  else msix h 0 <| send ⟨.head h, .mailbox, [rcOf status, tag, era, status, detail, seq], vendorHeader tag era status detail seq ++ data⟩ c

/-- The response of a CXL command: return code and TAG. -/
def cxlReply (h : HeadId) (rc tag : Nat) (data : List Byte) (c : Ctl) : Ctl :=
  if dropTag ≤ tag then c else msix h 0 <| send ⟨.head h, .mailbox, [rc, tag], data⟩ c

/-- What a CXL command has come to: the state, the return code, the Jarica status and DETAIL of its journal entry, whether its commit point
was passed, and its output. `late`: it ends later, and its entry stays open. -/
structure CxlResult where
  ctl : Ctl
  rc : Nat
  status : Nat
  detail : Nat
  applied : Bool
  data : List Byte
  late : Bool

/-- The Jarica status that the journal shows beside a CXL return code (R384, R395). -/
def stOfRc (rc : Nat) : Nat :=
  if rc = rcSuccess ∨ rc = rcBackground then stOk
  else if rc = rcSecurity then stSecurity
  else if rc = rcBusy then stBusy
  else if rc = rcInternal then stMedia
  else stRefused

def cxlOk (c : Ctl) (data : List Byte) : CxlResult := ⟨c, rcSuccess, stOk, 0, true, data, false⟩
def cxlBad (c : Ctl) (rc : Nat) : CxlResult := ⟨c, rc, stOfRc rc, 0, false, [], false⟩

/-- The frame of a CXL command (R89, R387, R394): a command of the journal list takes TAG 0 and the era in force. With the firmware down only the
doorbell is set. -/
def cxlCommand (opcode : Nat) (h : HeadId) (tag inCrc : Nat) (journaled : Bool) (act : Nat → Ctl → CxlResult) (c : Ctl) : Ctl :=
  if !reachable c h then c
  else if !fwRunning c then ringDoorbell h c
  else
    let c := takeDoorbell h c
    let seq := c.mbx.nextSeq
    let era := if sessionOpen c h then sessionEra c h else 0
    let r := act seq (if journaled then journalOpen opcode h 0 era inCrc c else c)
    let c := if journaled && !r.late then journalClose seq 1 r.status r.rc r.detail r.applied r.ctl else r.ctl
    if r.late && r.rc = rcSuccess then c else cxlReply h r.rc tag r.data c

/-- A vendor command that needs no session and makes no entry (Get Jarica Info, Get Journal). -/
def vendorPlain (h : HeadId) (tag era : Nat) (act : Ctl → MbxResult) (c : Ctl) : Ctl :=
  if !reachable c h then c
  else if !fwRunning c then ringDoorbell h c
  else
    let r := act (takeDoorbell h c)
    vendorReply h tag era r.status r.detail 0 r.data r.ctl

/-- The entry of a vendor command with the same head, era and tag that is still in the journal (R386). -/
def earlierEntry (h : HeadId) (tag era : Nat) (c : Ctl) : Option JnlEntry :=
  c.mbx.jrnl.find? (fun e => e.head == h && e.era == era && e.tag == tag && decide (0xC000 ≤ e.opcode))

/-- The frame of a vendor command under a session (R384-R386, R388, R394): session and era, duplicates, the entry, the operating
state, the security state, then the command itself. `late` commands leave their entry open and answer later. -/
def vendor (opcode : Nat) (h : HeadId) (tag era : Nat) (inp : List Byte) (journaled : Bool) (states : OpState → Bool)
    (unlocked late : Bool) (act : Nat → Ctl → MbxResult) (c : Ctl) : Ctl :=
  if !reachable c h then c
  else if !fwRunning c then ringDoorbell h c
  else if !sessionOpen c h then vendorReply h tag era stNoSession 0 0 [] (takeDoorbell h c)
  else if era ≠ sessionEra c h then vendorReply h tag era stStaleEra 0 0 [] (takeDoorbell h c)
  else match earlierEntry h tag era c with
    | some e => vendorReply h tag era stDuplicate e.status e.seq [] (takeDoorbell h c)
    | none =>
      let c := takeDoorbell h c
      let seq := if journaled then c.mbx.nextSeq else 0
      let c := if journaled then journalOpen opcode h tag era (crc32 inp) c else c
      let r := if !states c.op then answered c stWrongState 0 false
        else if unlocked && getF Reg.MEM_ACCESS_STATUS.LOCKED c == 1 then answered c stSecurity 0 false
        else act seq c
      if late && r.status == stOk then r.ctl
      else
        let c := if journaled then journalClose seq 1 r.status (rcOf r.status) r.out r.applied r.ctl else r.ctl
        vendorReply h tag era r.status r.detail seq r.data c

/-- The operating states of R388. -/
def anyState (_ : OpState) : Bool := true
def servingStates (o : OpState) : Bool := o == .serving || o == .derated
def stageStates (o : OpState) : Bool := o == .restoring || o == .serving || o == .derated
def saveStates (o : OpState) : Bool := o == .restoring || o == .serving || o == .derated || o == .keep
def keepState (o : OpState) : Bool := o == .keep

/-! Firmware packages (R400, R401). -/

/-- The device is the JXP-8640-S. -/
def variantS (c : Ctl) : Bool := getF Reg.HUB_ID.VARIANT c == 1

/-- The lower of the steppings of the save dies. -/
def dieStepping (c : Ctl) : Nat := min (getF Reg.HUB_STEPPING.S0 c) (getF Reg.HUB_STEPPING.S1 c)

def fwValid (c : Ctl) (p : FwPackage) : Bool :=
  p.magic == 0x57465058 && p.version == 1 && p.part == 0x8640 && (if variantS c then p.validS else p.validG)
  && decide (p.hubStepping ≤ getF Reg.HUB_STEPPING.HUB c) && decide (p.dieStepping ≤ dieStepping c)
  && p.keyGood && p.signatureGood && p.digestsGood && decide (c.ef.fwFloor ≤ p.svn) && p.fits
  && decide (p.sdiMin ≤ p.sdiLevel) && decide (p.sdiLevel ≤ p.sdiMax)

end Sys2Proof.Machine
end

