-- ==== Sys2Proof/Machine/Cxl.lean ====
section
/-! DEFINITION. Sys2Proof/Machine/Cxl.lean: resets, links, decoders, viral, global persistent flush and link power of the CXL heads
(04_cxl_port.md, R77-R104). -/
namespace Sys2Proof.Machine

/-! Resets (R98-R100). -/

/-- PERST_N and the links are monitored: not in Dormant, Saving and Saved. -/
def portLive (c : Ctl) : Bool :=
  match c.op with
  | .waking => true | .restoring => true | .serving => true | .derated => true | .keep => true
  | _ => false

def perstBit (h : HeadId) : Fld := if h = 0 then Reg.HUB_RESET_CAUSE.CXL0_PERST else Reg.HUB_RESET_CAUSE.CXL1_PERST
def hotBit (h : HeadId) : Fld := if h = 0 then Reg.HUB_RESET_CAUSE.CXL0_HOT else Reg.HUB_RESET_CAUSE.CXL1_HOT

/-- PERST_N falls. A head in L2/L3 Ready enters held L2 and keeps its wake sources (R102, R103). -/
def perstAssert (h : HeadId) (c : Ctl) : Ctl :=
  if (headOf c h).perstLow then c
  else
    let was := headOf c h
    let c := updHead h (fun d => { d with perstLow := true }) c
    if !portLive c || !headPresent c h then c
    else wakeEval h (updHead h (fun d => { d with l23 := was.l23 }) (setF (perstBit h) 1 (headReset h c)))

def execPerstAssert (h : HeadId) (s : State) : Host.Outcome State Fault Refusal := .next (onCtl (perstAssert h) s)

/-- PERST_N rises: held L2 ends, the wake-pending bit is cleared and WAKE_N released (R103). -/
def perstDeassert (h : HeadId) (c : Ctl) : Ctl :=
  let c := updHead h (fun d => { d with perstLow := false, l23 := false, pmePolicy := 0 }) c
  wakeEval h (setF (wakePendFld h) 0 c)

def execPerstDeassert (h : HeadId) (s : State) : Host.Outcome State Fault Refusal := .next (onCtl (perstDeassert h) s)

/-- A hot reset, or a link-down reset, of a head whose link is up. -/
def linkReset (h : HeadId) (c : Ctl) : Ctl := if portLive c && (headOf c h).linkUp then setF (hotBit h) 1 (headReset h c) else c

def execHotReset (h : HeadId) (s : State) : Host.Outcome State Fault Refusal := .next (onCtl (linkReset h) s)
def execLinkDownReset (h : HeadId) (s : State) : Host.Outcome State Fault Refusal := .next (onCtl (linkReset h) s)

/-- CXL Reset through the DVSEC: the head's domain but for configuration space outside the CXL DVSECs. -/
def cxlReset (h : HeadId) (c : Ctl) : Ctl :=
  if portLive c && (headOf c h).linkUp then
    let was := (headOf c h).host
    updHead h (fun d => { d with host := { was with msix := 0 } }) (headReset h c)
  else c

def execCxlReset (h : HeadId) (s : State) : Host.Outcome State Fault Refusal := .next (onCtl (cxlReset h) s)

/-- A function-level reset: mailbox interface, MSI-X and event interrupt policy of the head; its decoders and requests stay. -/
def functionReset (h : HeadId) (c : Ctl) : Ctl :=
  if portLive c && (headOf c h).linkUp then
    updMbx (fun m => { m with doorbell := bitClr m.doorbell h.val, running := m.running.map (fun o => if o.head = h then { o with tag := dropTag } else o) })
      (updHead h (fun d => { d with policy := 0, host := { d.host with msix := 0 } }) c)
  else c

def execFunctionLevelReset (h : HeadId) (s : State) : Host.Outcome State Fault Refusal := .next (onCtl (functionReset h) s)

/-! Link (R77-R79). -/

/-- The rates, widths and flit modes of R75: rate code 1 to 6, the widths of the port configuration, the 68-byte flit at 8 to 32 GT/s, and the
latency-optimized flit as a form of the 256-byte flit. -/
def linkModeOk (two : Bool) (rate width : Nat) (flit lopt : Bool) : Bool :=
  decide (1 ≤ rate) && decide (rate ≤ 6) && (if two then [8, 4, 2, 1] else [16, 8, 4, 2, 1]).contains width
  && (if flit then true else decide (3 ≤ rate) && decide (rate ≤ 5) && !lopt)

/-- The link of a head comes up after W11 with PERST_N high, in a mode of R75; `host` is what the host then sets in configuration space. -/
def linkUpNow (h : HeadId) (rate width : Nat) (flit lopt : Bool) (host : HostCfg) (c : Ctl) : Ctl :=
  if !portLive c || !headPresent c h || !wakeDone c 11 || (headOf c h).perstLow || !linkModeOk (twoHead c) rate width flit lopt then c
  else
    let c := updHead h (fun d => { d with linkUp := true, l23 := false, pmeWait := false, pmePolicy := 0, host := { host with msix := host.msix % 16 } }) c
    let c := setF (if h = 0 then Reg.HUB_DOMAIN_STATUS.CXL0_UP else Reg.HUB_DOMAIN_STATUS.CXL1_UP) 1 c
    ((linkFields h).zip [rate, width, b2n flit, b2n lopt, 0]).foldl (fun c e => setF e.1 e.2 c) c

def execLinkUp (h : HeadId) (rate width : Nat) (flit256 : Bool) (link : LinkSetting) (s : State) : Host.Outcome State Fault Refusal :=
  .next (onCtl (linkUpNow h rate width flit256 link.lopt link.host) s)

/-! HDM decoders (R85). -/

/-- The window of a head in DPA: base and end. -/
def headWindow (c : Ctl) (h : HeadId) : Nat × Nat :=
  let b := getF (if h = 0 then Reg.MEM_H0_WIN_BASE.VALUE else Reg.MEM_H1_WIN_BASE.VALUE) c
  let n := getF (if h = 0 then Reg.MEM_H0_WIN_SIZE.VALUE else Reg.MEM_H1_WIN_SIZE.VALUE) c
  (b * 268435456, (b + n) * 268435456)

/-- Where the range of decoder `d` starts: the end of the committed decoder before it, or the window's base, and the skip (log entry 15). -/
def decoderStart (c : Ctl) (h : HeadId) (d skip : Nat) : Nat :=
  ((headOf c h).decs.filter (fun e => decide (e.1 < d))).foldl (fun n e => max n (e.2.dpa + hdmLen e.2)) (headWindow c h).1 + skip

/-- The checks of R85, with the values that R75 supports. -/
def decoderOk (c : Ctl) (h : HeadId) (d : Nat) (m : Hdm) : Bool :=
  [1, 2, 3, 4, 6, 8, 12, 16].contains m.ways && [256, 512, 1024, 2048, 4096, 8192, 16384].contains m.gran && decide (m.target < m.ways)
  && decide (0 < m.size) && decide (m.size % (268435456 * m.ways) = 0) && decide (m.base % 268435456 = 0)
  && decide (m.dpa + hdmLen m ≤ (headWindow c h).2)
  && (headOf c h).decs.all (fun e => decide (e.1 < d) && decide (e.2.dpa + hdmLen e.2 ≤ m.dpa))

/-- A commit: it succeeds and may reopen intake (R99), or sets the decoder's error bit. -/
def decoderCommit (h : HeadId) (d base size ways gran target skip : Nat) (c : Ctl) : Ctl :=
  if !portLive c || !(headOf c h).linkUp then c
  else
    let m : Hdm := ⟨base, size, ways, gran, target, decoderStart c h d skip⟩
    if decoderOk c h d m then updHead h (fun x => { x with decs := mapPut x.decs d m, hdmErr := bitClr x.hdmErr d, resetting := false }) c
    else updHead h (fun x => { x with hdmErr := bitSet x.hdmErr d }) c

def execHdmDecoderCommit (h : HeadId) (dec : Fin 8) (base size ways gran target skip : Nat) (s : State) :
    Host.Outcome State Fault Refusal := .next (onCtl (decoderCommit h dec.val base size ways gran target skip) s)

/-! Viral (R88). -/

def viral (h : HeadId) (c : Ctl) : Ctl :=
  if !portLive c || !(headOf c h).linkUp || getF (viralFld h) c == 1 then c
  else
    let c := logEvent 0x0203 2 4 h.val (setF (viralFld h) 1 (dropQueue h c))
    if (headOf c h).gpfWait.isSome then gpfDone h c else c

def execViral (h : HeadId) (s : State) : Host.Outcome State Fault Refusal := .next (onCtl (viral h) s)

/-! Global persistent flush (R93, R94). -/

def execGpfPhase1 (h : HeadId) (s : State) : Host.Outcome State Fault Refusal :=
  .next (onCtl (fun c => if portLive c && (headOf c h).linkUp then send ⟨.head h, .gpfDone, [1], []⟩ c else c) s)

/-- Phase 2 completes when every request that entered before it has passed Commit or been discarded. -/
def gpfPhase2 (h : HeadId) (c : Ctl) : Ctl :=
  if !portLive c || !(headOf c h).linkUp then c
  else
    let n := (queueOf c (srcOfHead h)).length
    if n = 0 then gpfDone h c else updHead h (fun d => { d with gpfWait := some n }) c

def execGpfPhase2 (h : HeadId) (s : State) : Host.Outcome State Fault Refusal := .next (onCtl (gpfPhase2 h) s)

/-- GPF_TIMEOUT has run out with no request: a trigger with cause 3. -/
def gpfTimeout (c : Ctl) : Ctl :=
  match c.cxl.gpf with
  | none => c
  | some _ => saveTrigger 3 { c with cxl := { c.cxl with gpf := none } }

def execGpfTimeout (s : State) : Host.Outcome State Fault Refusal := .next (onCtl gpfTimeout s)

/-! Link power (R101, R102). -/

def execPmeTurnOff (h : HeadId) (s : State) : Host.Outcome State Fault Refusal :=
  .next (onCtl (fun c => if portLive c && (headOf c h).linkUp && !(headOf c h).l23 then pmeCheck h (updHead h (fun d => { d with pmeWait := true }) c) else c) s)

/-- No CXL.io traffic of the head is under way: no mailbox command waits or has its answer still to come, and no read of BAR 4. -/
def ioQuiet (c : Ctl) (h : HeadId) : Bool :=
  !c.mbx.doorbell.testBit h.val && !c.mbx.running.any (fun o => o.head == h && o.tag != dropTag) && !c.guest.reads.any (fun r => r.head == h)

/-- The link of a quiet head enters L1: with ASPM L1 enabled once ASPM_L1_IDLE has passed without CXL.io or CXL.mem traffic, or with the function
in D3hot, as PCI-PM L1 (R101). -/
def aspmL1 (h : HeadId) (c : Ctl) : Ctl :=
  if portLive c && (headOf c h).linkUp && !(headOf c h).l23 && headQuiet c h && ioQuiet c h && ((headOf c h).host.aspmL1 || (headOf c h).host.d3hot) then
    setF (if h = 0 then Reg.MEM_LINK_STATUS.H0_L1 else Reg.MEM_LINK_STATUS.H1_L1) 1 c else c

def execAspmL1Entry (h : HeadId) (s : State) : Host.Outcome State Fault Refusal := .next (onCtl (aspmL1 h) s)

end Sys2Proof.Machine
end

