-- ==== Sys2Proof/Machine/CxlMbx.lean ====
section
/-! DEFINITION. Sys2Proof/Machine/CxlMbx.lean: the CXL memory-device commands of the mailbox (R76, R87-R92, R95, R96, R104, R402-R404). Opcodes, return
codes, payload layouts and the checks that the manual leaves to CXL 3.1 are those of CXL 3.1 (log entry 10). -/
namespace Sys2Proof.Machine

/-! Identity, capacity and labels. -/

/-- The host-visible capacity in bytes (R83). -/
def capBytes (c : Ctl) : Nat := getF Reg.MEM_CAPACITY.UNITS c * 268435456

/-- The firmware revision: the release number of a package. -/
def fwRevision (p : Option FwPackage) : List Byte := leBytes (match p with | some x => x.hubVersion | none => 0) 16

/-- Identify Memory Device: revision, capacities in 256 MiB, alignment, log sizes, LSA size, poison limits, poison handling (injected
poison persists, scan media supported), QoS telemetry. -/
def identify (c : Ctl) : List Byte :=
  let units := getF Reg.MEM_CAPACITY.UNITS c
  fwRevision (runningFw c) ++ leBytes units 8 ++ leBytes 0 8 ++ leBytes units 8 ++ leBytes 0 8
  ++ leBytes 64 2 ++ leBytes 64 2 ++ leBytes 64 2 ++ leBytes 64 2 ++ leBytes 131072 4 ++ leBytes 4096 3 ++ leBytes 64 2 ++ leBytes 3 1 ++ leBytes 1 1

def execIdentifyMemoryDevice (h : HeadId) (tag : Nat) (s : State) : Host.Outcome State Fault Refusal :=
  .next (onCtl (cxlCommand 0x4000 h tag 0 false (fun _ c => cxlOk c (identify c))) s)

/-- Get Partition Info: active volatile, active persistent, and no pending change. -/
def partitionInfo (c : Ctl) : List Byte := leBytes 0 8 ++ leBytes (getF Reg.MEM_CAPACITY.UNITS c) 8 ++ leBytes 0 8 ++ leBytes 0 8

def execGetPartitionInfo (h : HeadId) (tag : Nat) (s : State) : Host.Outcome State Fault Refusal :=
  .next (onCtl (cxlCommand 0x4100 h tag 0 false (fun _ c => cxlOk c (partitionInfo c))) s)

def execSetPartitionInfo (h : HeadId) (tag : Nat) (s : State) : Host.Outcome State Fault Refusal :=
  .next (onCtl (cxlCommand 0x4101 h tag 0 false (fun _ c => cxlBad c rcUnsupported)) s)

/-- The label storage area: 128 KiB (R91). -/
def getLsa (off len : Nat) (c : Ctl) : CxlResult :=
  if 131072 < off + len ∨ 65536 < len then cxlBad c rcInvalidInput else cxlOk c (memReadList 0 c.ef.lsa off len)

def execGetLsa (h : HeadId) (tag off len : Nat) (s : State) : Host.Outcome State Fault Refusal :=
  .next (onCtl (cxlCommand 0x4102 h tag 0 false (fun _ => getLsa off len)) s)

def setLsa (off : Nat) (data : List Byte) (c : Ctl) : CxlResult :=
  if 131072 < off + data.length ∨ 65528 < data.length then cxlBad c rcInvalidInput
  else cxlOk { c with ef := { c.ef with lsa := memWriteList 0 c.ef.lsa off data } } []

def execSetLsa (h : HeadId) (tag off : Nat) (data : List Byte) (s : State) : Host.Outcome State Fault Refusal :=
  .next (onCtl (cxlCommand 0x4103 h tag (crc32 (leBytes off 4 ++ leBytes 0 4 ++ data)) true (fun _ => setLsa off data)) s)

/-! Health, alerts and shutdown state (R95, R96). -/

/-- Health Status: bit 0 maintenance needed, bit 1 performance degraded, bit 2 hardware replacement needed. -/
def healthStatus (c : Ctl) : Nat :=
  b2n (c.op == .keep) + 2 * b2n (c.op == .derated) + 4 * b2n (c.op == .derated && !bothDies c)

/-- Media Status: 0 normal, 1 not ready, 4 write persistency loss in the event of power loss. -/
def mediaStatus (c : Ctl) : Nat :=
  if eraseRuns c then 1 else match c.op with
  | .waking => 1
  | .restoring => if intakeState c then 0 else 1
  | .keep => 4
  | _ => 0

/-- Life Used: the larger of the flash and the store wear figures. -/
def lifeUsed (c : Ctl) : Nat := max (wearFigure c) (getF Reg.NRG_E_USE.WEAR c)

/-- Corrected DRAM errors of all channels. -/
def correctedErrors (c : Ctl) : Nat := ((List.range 8).map (fun ch => getF (Reg.DRC_ECC_CE.COUNT ch) c)).sum

/-- Get Health Info; `temp` is the highest die reading now. -/
def healthInfo (temp : Int) (c : Ctl) : List Byte :=
  leBytes (healthStatus c) 1 ++ leBytes (mediaStatus c) 1 ++ leBytes 0 1 ++ leBytes (lifeUsed c) 1 ++ leBytes (fieldOf 16 temp) 2
  ++ leBytes c.ef.dsc 4 ++ leBytes 0 4 ++ leBytes (correctedErrors c) 4

def execGetHealthInfo (h : HeadId) (tag : Nat) (temp : Int) (s : State) : Host.Outcome State Fault Refusal :=
  .next (onCtl (cxlCommand 0x4200 h tag 0 false (fun _ c => cxlOk c (healthInfo temp c))) s)

/-- Get Alert Configuration: the enables and the programmable thresholds; the critical thresholds that the manual does not give are free values. -/
def alertInfo (c : Ctl) : CxlResult :=
  let a := fun (n : Nat) => c.ef.alertCfg.getD n 0
  let r := drawBytes 5 c
  cxlOk r.2 (leBytes (a 0) 1 ++ leBytes 0x1F 1 ++ r.1.take 1 ++ leBytes (a 1) 1 ++ (r.1.drop 1) ++ leBytes (a 2) 2 ++ leBytes (a 3) 2
    ++ leBytes (a 4) 2 ++ leBytes (a 5) 2)

def execGetAlertConfiguration (h : HeadId) (tag : Nat) (s : State) : Host.Outcome State Fault Refusal :=
  .next (onCtl (cxlCommand 0x4201 h tag 0 false (fun _ => alertInfo)) s)

/-- Set Alert Configuration: the alerts that VALID names take their enable and their threshold. -/
def setAlerts (valid enable : Nat) (vals : List Nat) (c : Ctl) : CxlResult :=
  let old := fun (n : Nat) => c.ef.alertCfg.getD n 0
  let en := (List.range 5).foldl (fun e n => if valid.testBit n then (if enable.testBit n then bitSet e n else bitClr e n) else e) (old 0)
  let thr := (List.range 5).map (fun n => if valid.testBit n then vals.getD n 0 % 65536 else old (n + 1))
  cxlOk { c with ef := { c.ef with alertCfg := en :: thr } } []

def execSetAlertConfiguration (h : HeadId) (tag valid enable : Nat) (vals : List Nat) (s : State) : Host.Outcome State Fault Refusal :=
  .next (onCtl (cxlCommand 0x4202 h tag (crc32 (leBytes valid 1 ++ leBytes enable 1 ++ leBytes (vals.getD 0 0) 1 ++ leBytes 0 1
    ++ (vals.drop 1).flatMap (fun v => leBytes v 2))) true (fun _ => setAlerts valid enable vals)) s)

def execGetShutdownState (h : HeadId) (tag : Nat) (s : State) : Host.Outcome State Fault Refusal :=
  .next (onCtl (cxlCommand 0x4203 h tag 0 false (fun _ c => cxlOk c (leBytes (b2n c.ef.shutdownDirty) 1))) s)

def execSetShutdownState (h : HeadId) (tag : Nat) (dirty : Bool) (s : State) : Host.Outcome State Fault Refusal :=
  .next (onCtl (cxlCommand 0x4204 h tag (crc32 (leBytes (b2n dirty) 1)) true
    (fun _ c => cxlOk { c with ef := { c.ef with shutdownDirty := dirty } } [])) s)

/-! Poison (R89, R125). -/

/-- The records of the poison list that meet a range of lines, as address with source, and length. -/
def poisonRecords (first n : Nat) (c : Ctl) : List Byte :=
  (c.ef.poisonList.filter (fun e => decide (e.1 < first + n) && decide (first < e.1 + e.2))).flatMap (fun e =>
    leBytes (e.1 * 64 + (if c.ef.injected.contains e.1 ∧ e.2 = 1 then 3 else 2)) 8 ++ leBytes e.2 4 ++ leBytes 0 4)

/-- Records of 16 bytes that fit into a payload of 64 KiB behind the 32 bytes of a list's header (R82). -/
def payloadRecords : Nat := 4094

/-- Get Poison List over a range of lines: what does not fit into one payload goes out at the next request for the same range. The time of an
overflow is a free value: no rule keeps it. -/
def getPoison (first n : Nat) (c : Ctl) : CxlResult :=
  let from_ := match c.cxl.poisonSent with | some (a, k, m) => if a = first ∧ k = n then m else 0 | none => 0
  let all := (poisonRecords first n c).drop (16 * from_)
  let recs := all.take (16 * payloadRecords)
  let more := decide (recs.length < all.length)
  let c := { c with cxl := { c.cxl with poisonSent := if more then some (first, n, from_ + payloadRecords) else none } }
  let r := if c.ef.poisonOverflow then drawBytes 8 c else (leBytes 0 8, c)
  let scanning := match c.cxl.bg with | some b => b.opcode == 0x4304 | none => false
  cxlOk r.2 (leBytes (b2n more + 2 * b2n c.ef.poisonOverflow + 4 * b2n scanning) 1 ++ leBytes 0 1 ++ r.1 ++ leBytes (recs.length / 16) 2 ++ leBytes 0 20 ++ recs)

def execGetPoisonList (h : HeadId) (tag dpa lines : Nat) (s : State) : Host.Outcome State Fault Refusal :=
  .next (onCtl (cxlCommand 0x4300 h tag 0 false (fun _ c =>
    if capBytes c < dpa + lines * 64 then cxlBad c rcInvalidPa else getPoison (dpa / 64) lines c)) s)

/-- The return code of Inject Poison. -/
def injectCode (dpa : Nat) (c : Ctl) : Nat :=
  if memLocked c then rcSecurity
  else if dpa % 64 ≠ 0 ∨ capBytes c ≤ dpa then rcInvalidPa
  else if c.ef.injected.contains (dpa / 64) then rcSuccess
  else if 64 ≤ c.ef.injected.length then rcInjectLimit else rcSuccess

/-- Writes that wait for the line carry the injected poison. -/
def poisonQueued (line : Nat) (c : Ctl) : Ctl :=
  { c with chans := c.chans.map (fun e => (e.1, { e.2 with wq := e.2.wq.map (fun w => if w.line = line then { w with poison := true } else w) })) }

def injectPoison (dpa : Nat) (c : Ctl) : CxlResult :=
  if injectCode dpa c ≠ rcSuccess then cxlBad c (injectCode dpa c)
  else cxlOk (poisonQueued (dpa / 64) (poisonAdd (dpa / 64) 1 { c with ef := { c.ef with injected := setAdd c.ef.injected (dpa / 64) } })) []

/-- The line is poisoned in DRAM as the command takes effect. -/
def execInjectPoison (h : HeadId) (tag dpa : Nat) (s : State) : Host.Outcome State Fault Refusal :=
  let ok := reachable s.ctl h && fwRunning s.ctl && injectCode dpa s.ctl == rcSuccess
  let s := onCtl (cxlCommand 0x4301 h tag (crc32 (leBytes dpa 8)) true (fun _ => injectPoison dpa)) s
  .next (if ok then { s with poison := setAdd s.poison (dpa / 64) } else s)

/-- Clear Poison: the data goes the way of a host write of the head, and the command completes at its grant. -/
def clearPoison (h : HeadId) (tag dpa : Nat) (data : List Byte) (seq : Nat) (c : Ctl) : CxlResult :=
  if dpa % 64 ≠ 0 ∨ capBytes c ≤ dpa then cxlBad c rcInvalidPa
  else
    let r : Req := ⟨.wr, dropTag + seq, dpa, overlay data fullMask [], fullMask, false, 0, false⟩
    let c := enqueue (srcOfHead h) r (updMbx (fun m => { m with running := m.running ++ [⟨h, 0x4302, tag, 0, seq⟩] }) c)
    ⟨c, rcSuccess, stOk, 0, true, [], true⟩

def execClearPoison (h : HeadId) (tag dpa : Nat) (data : List Byte) (s : State) : Host.Outcome State Fault Refusal :=
  .next (onCtl (cxlCommand 0x4302 h tag (crc32 (leBytes dpa 8 ++ data)) true (fun seq => clearPoison h tag dpa data seq)) s)

/-! Background operations (R89, R90). -/

/-- Estimated time of a scan in ms: range ÷ 20 GB/s. -/
def scanMs (lines : Nat) : Nat := (lines * 64 + 19999999) / 20000000

def execGetScanMediaCapabilities (h : HeadId) (tag dpa lines : Nat) (s : State) : Host.Outcome State Fault Refusal :=
  .next (onCtl (cxlCommand 0x4303 h tag 0 false (fun _ c =>
    if capBytes c < dpa + lines * 64 then cxlBad c rcInvalidPa else cxlOk c (leBytes (scanMs lines) 4))) s)

/-- A background operation starts: one at a time for both heads. -/
def bgStart (op first n : Nat) (h : HeadId) (c : Ctl) : CxlResult :=
  if c.cxl.bg.isSome then cxlBad c rcBusy
  else ⟨{ c with cxl := { c.cxl with bg := some ⟨op, first, n, some h⟩ } }, rcBackground, stOk, 0, true, [], true⟩

def execScanMedia (h : HeadId) (tag dpa lines : Nat) (s : State) : Host.Outcome State Fault Refusal :=
  .next (onCtl (cxlCommand 0x4304 h tag 0 false (fun _ c =>
    if !calState c then cxlBad c rcBusy
    else if capBytes c < dpa + lines * 64 then cxlBad c rcInvalidPa
    else if c.cxl.bg.isSome then cxlBad c rcBusy
    else
      let c := { c with cxl := { c.cxl with scan := [], scanSent := 0 }, pipe := { c.pipe with fetches := c.pipe.fetches.filter (fun x => x.kind != .scan) } }
      bgStart 0x4304 (dpa / 64) lines h (startFetch .scan 0 0 (dpa / 64) lines c))) s)

/-- The lines that the last scan found; what does not fit into one payload goes out at the next request. -/
def scanResults (c : Ctl) : CxlResult :=
  let all := c.cxl.scan.drop c.cxl.scanSent
  let recs := all.take payloadRecords
  let more := decide (recs.length < all.length)
  cxlOk { c with cxl := { c.cxl with scanSent := if more then c.cxl.scanSent + payloadRecords else 0 } }
    (leBytes 0 8 ++ leBytes 0 8 ++ leBytes (b2n more) 2 ++ leBytes recs.length 2 ++ leBytes 0 12
      ++ recs.flatMap (fun l => leBytes (l * 64 + 2) 8 ++ leBytes 1 4 ++ leBytes 0 4))

def execGetScanMediaResults (h : HeadId) (tag : Nat) (s : State) : Host.Outcome State Fault Refusal :=
  .next (onCtl (cxlCommand 0x4305 h tag 0 false (fun _ => scanResults)) s)

/-- Sanitize and the erases are refused with Busy in Restoring and in Keep, and while the module is a member of a group (R90). -/
def eraseAllowed (c : Ctl) : Bool := (c.op == .serving || c.op == .derated) && member c != 2

/-- An erase starts (1 Sanitize, 2 Secure Erase): it is pending until it ends; its command is in progress, and answered as a background one. -/
def eraseStart (op kind : Nat) (h : HeadId) (seq : Nat) (c : Ctl) : CxlResult :=
  if !eraseAllowed c then cxlBad c rcBusy
  else
    let r := bgStart op 0 0 h c
    if r.rc ≠ rcBackground then r
    else { r with ctl := updMbx (fun m => { m with running := m.running ++ [⟨h, op, dropTag, 0, seq⟩] })
                    { r.ctl with ef := { r.ctl.ef with pendingErase := kind } } }

def execSanitize (h : HeadId) (tag : Nat) (s : State) : Host.Outcome State Fault Refusal :=
  .next (onCtl (cxlCommand 0x4400 h tag (crc32 []) true (fun seq c =>
    if memLocked c then cxlBad c rcSecurity else eraseStart 0x4400 1 h seq c)) s)

def execSecureErase (h : HeadId) (tag : Nat) (s : State) : Host.Outcome State Fault Refusal :=
  .next (onCtl (cxlCommand 0x4401 h tag (crc32 []) true (fun seq c =>
    if memLocked c then cxlBad c rcSecurity else eraseStart 0x4401 2 h seq c)) s)

/-- The end of the operation: its status, its journal entry, and vector 0 of the head that asked for it (R82). -/
def bgEnd (b : Bg) (c : Ctl) : Ctl :=
  let mine := c.mbx.running.filter (fun o => o.opcode == b.opcode)
  let c := mine.foldl (fun c o => journalClose o.seq 1 stOk rcSuccess 0 true c) c
  let c := updMbx (fun m => { m with running := m.running.filter (fun o => o.opcode != b.opcode) }) c
  bgInterrupt b { c with cxl := { c.cxl with bg := none, lastBg := (b.opcode, rcSuccess) } }

/-- Writes that wait for host-visible DRAM go with it. -/
def dropWrites (c : Ctl) : Ctl :=
  let lines := capBytes c / 64
  { c with chans := c.chans.map (fun e => (e.1, { e.2 with wq := e.2.wq.filter (fun w => decide (lines ≤ w.line)) })) }

/-- The line reads of a media scan. -/
def scanFetch (c : Ctl) : Option Fetch := c.pipe.fetches.find? (fun x => x.kind == .scan)

/-- The background operation of an opcode completes, where it runs: a scan once every line of its range has been read (R153). An erase zeroes the host-visible DRAM. -/
def bgDone (opcode : Nat) (s : State) : State :=
  let c := s.ctl
  match c.cxl.bg with
  | none => s
  | some b =>
    if b.opcode ≠ opcode then s
    else if b.opcode = 0x4304 then
      match scanFetch c with
      | some x => if x.complete then onCtl (fun c => bgEnd b (dropFetch x.id c)) s else s
      | none => s
    else if c.op = .serving ∨ c.op = .derated then
      let n := capBytes c
      { ctl := bgEnd b (wipeFlash (c.ef.pendingErase == 1) (dropWrites c)), dram := memClear s.dram 0 n
        poison := s.poison.filter (fun l => decide (n ≤ l * 64)), pending := s.pending }
    else s

def execBackgroundOperationDone (opcode : Nat) (s : State) : Host.Outcome State Fault Refusal := .next (bgDone opcode s)

/-! Security (R87). A passphrase is given as the digest that the device keeps. -/

def frozenSec (c : Ctl) : Bool := getF Reg.MEM_ACCESS_STATUS.FROZEN c == 1

/-- Get Security State: bits 0 user set, 1 master set, 2 locked, 3 frozen, 4 user count reached, 5 master count reached. -/
def securityState (c : Ctl) : Nat :=
  b2n c.ef.passphrase.isSome + 2 * b2n c.ef.master.isSome + 4 * b2n (memLocked c) + 8 * b2n (frozenSec c)
  + 16 * b2n (decide (5 ≤ c.cxl.tries)) + 32 * b2n (decide (5 ≤ c.cxl.masterTries))

def execGetSecurityState (h : HeadId) (tag : Nat) (s : State) : Host.Outcome State Fault Refusal :=
  .next (onCtl (cxlCommand 0x4500 h tag 0 true (fun _ c => cxlOk c (leBytes (securityState c) 4))) s)

def passOf (c : Ctl) (master : Bool) : Option Nat := if master then c.ef.master else c.ef.passphrase
def putPass (master : Bool) (v : Option Nat) (c : Ctl) : Ctl :=
  if master then { c with ef := { c.ef with master := v } } else { c with ef := { c.ef with passphrase := v } }

/-- The lock opens: intake opens where R86 allows it, the guest's too. -/
def openLock (c : Ctl) : Ctl := guestTryOpen (setF Reg.MEM_ACCESS_STATUS.LOCKED 0 c)

def setPassphrase (master : Bool) (old new : Nat) (c : Ctl) : CxlResult :=
  if frozenSec c then cxlBad c rcSecurity
  else match passOf c master with
    | some p => if p = old then cxlOk (putPass master (some new) c) [] else cxlBad c rcPassphrase
    | none => cxlOk (putPass master (some new) c) []

def execSetPassphrase (h : HeadId) (tag : Nat) (master : Bool) (old new : Nat) (s : State) : Host.Outcome State Fault Refusal :=
  .next (onCtl (cxlCommand 0x4501 h tag 0 true (fun _ => setPassphrase master old new)) s)

def disablePassphrase (master : Bool) (pass : Nat) (c : Ctl) : CxlResult :=
  if frozenSec c then cxlBad c rcSecurity
  else match passOf c master with
    | none => cxlBad c rcSecurity
    | some p =>
      if p ≠ pass then cxlBad c rcPassphrase
      else cxlOk (if master then putPass true none c else openLock (putPass false none c)) []

def execDisablePassphrase (h : HeadId) (tag : Nat) (master : Bool) (pass : Nat) (s : State) : Host.Outcome State Fault Refusal :=
  .next (onCtl (cxlCommand 0x4502 h tag 0 true (fun _ => disablePassphrase master pass)) s)

/-- Unlock: refused after five failed attempts until the next Waking. -/
def unlock (pass : Nat) (c : Ctl) : CxlResult :=
  if frozenSec c || !memLocked c || decide (5 ≤ c.cxl.tries) then cxlBad c rcSecurity
  else if c.ef.passphrase = some pass then cxlOk (openLock c) []
  else cxlBad { c with cxl := { c.cxl with tries := c.cxl.tries + 1 } } rcPassphrase

def execUnlock (h : HeadId) (tag pass : Nat) (s : State) : Host.Outcome State Fault Refusal :=
  .next (onCtl (cxlCommand 0x4503 h tag 0 true (fun _ => unlock pass)) s)

def execFreezeSecurityState (h : HeadId) (tag : Nat) (s : State) : Host.Outcome State Fault Refusal :=
  .next (onCtl (cxlCommand 0x4504 h tag 0 true (fun _ c => cxlOk (setF Reg.MEM_ACCESS_STATUS.FROZEN 1 c) [])) s)

/-- Passphrase Secure Erase: under the passphrase of its kind; the user passphrase goes, and with it the lock. -/
def passErase (master : Bool) (pass : Nat) (h : HeadId) (seq : Nat) (c : Ctl) : CxlResult :=
  if frozenSec c || (master && (c.ef.master.isNone || decide (5 ≤ c.cxl.masterTries))) then cxlBad c rcSecurity
  else
    let good := match passOf c master with | some p => p == pass | none => true
    if !good then
      cxlBad (if master then { c with cxl := { c.cxl with masterTries := c.cxl.masterTries + 1 } } else c) rcPassphrase
    else
      let r := eraseStart 0x4505 2 h seq c
      if r.rc = rcBackground then { r with ctl := openLock (putPass false none r.ctl) } else r

def execPassphraseSecureErase (h : HeadId) (tag : Nat) (master : Bool) (pass : Nat) (s : State) : Host.Outcome State Fault Refusal :=
  .next (onCtl (cxlCommand 0x4505 h tag 0 true (fun seq => passErase master pass h seq)) s)

/-! Event logs (R82, R89, R104, R435). -/

/-- The handle of a record: CXL asks for a nonzero 16-bit number. -/
def evHandle (r : EvRec) : Nat := r.rseq % 65535 + 1

/-- The 32 bytes of R436 without their CRC, and with it. -/
def evBytes (r : EvRec) : List Byte :=
  let b := leBytes r.rseq 4 ++ leBytes r.time 8 ++ leBytes r.code 2 ++ leBytes r.severity 1 ++ leBytes r.source 1 ++ leBytes r.state 1
    ++ leBytes r.flags 1 ++ leBytes r.repeats 2 ++ leBytes r.data 8
  b ++ leBytes (crc32 b) 4

/-- A CXL vendor record of 128 bytes: the Jarica UUID, length, flags (the severity), handle, time, and the record of R436. -/
def cxlRecord (uuid : List Byte) (n : Nat) (r : EvRec) : List Byte :=
  uuid ++ leBytes 128 1 ++ leBytes n 3 ++ leBytes (evHandle r) 2 ++ leBytes 0 2 ++ leBytes r.time 8 ++ leBytes 0 16 ++ evBytes r ++ leBytes 0 48

/-- Get Event Records of a log. The UUID, which the manual does not print, and the times of an overflow are free values. -/
def eventRecords (n : Nat) (c : Ctl) : CxlResult :=
  let lostN := mapGet 0 c.cxl.overflow n
  let u := drawBytes 16 c
  let t := if lostN = 0 then (leBytes 0 16, u.2) else drawBytes 16 u.2
  let l := logOf c n
  cxlOk t.2 (leBytes (b2n (decide (lostN ≠ 0))) 1 ++ leBytes 0 1 ++ leBytes (min 65535 lostN) 2 ++ t.1 ++ leBytes l.length 2 ++ leBytes 0 10
    ++ l.flatMap (cxlRecord u.1 n))

def execGetEventRecords (h : HeadId) (tag : Nat) (log : Fin 4) (s : State) : Host.Outcome State Fault Refusal :=
  .next (onCtl (cxlCommand 0x0100 h tag 0 false (fun _ => eventRecords log.val)) s)

/-- Clear Event Records: all of a log, or its oldest records by their handles in order. -/
def clearEvents (n : Nat) (all : Bool) (handles : List Nat) (c : Ctl) : CxlResult :=
  let done := fun (l : List EvRec) (c : Ctl) => setLog n l { c with cxl := { c.cxl with overflow := mapSet 0 c.cxl.overflow n 0 } }
  if all then cxlOk (done [] c) []
  else if ((logOf c n).take handles.length).map evHandle = handles then cxlOk (done ((logOf c n).drop handles.length) c) []
  else cxlBad c rcInvalidHandle

def execClearEventRecords (h : HeadId) (tag : Nat) (log : Fin 4) (all : Bool) (handles : List Nat) (s : State) :
    Host.Outcome State Fault Refusal :=
  .next (onCtl (cxlCommand 0x0101 h tag (crc32 (leBytes log.val 1 ++ leBytes (b2n all) 1 ++ leBytes handles.length 1 ++ leBytes 0 3
    ++ handles.flatMap (fun x => leBytes x 2))) true (fun _ => clearEvents log.val all handles)) s)

/-- The settings of a log: interrupt mode 1 (MSI-X) with its vector, or 0. -/
def policyByte (p n : Nat) : Nat := if p.testBit n then 1 + (if n ≤ 1 then 1 else 2) * 16 else 0

def execGetEventInterruptPolicy (h : HeadId) (tag : Nat) (s : State) : Host.Outcome State Fault Refusal :=
  .next (onCtl (cxlCommand 0x0102 h tag 0 false (fun _ c =>
    cxlOk c ((List.range 4).flatMap (fun n => leBytes (policyByte (headOf c h).policy n) 1)))) s)

/-- Set Event Interrupt Policy: `policy` has a bit for each log. A log that is enabled again and holds records sends its interrupt once (R104). -/
def setPolicy (h : HeadId) (policy : Nat) (c : Ctl) : CxlResult :=
  let p := policy % 16
  let was := (headOf c h).policy
  let c := updHead h (fun d => { d with policy := p }) c
  let due := fun (n : Nat) => p.testBit n && !was.testBit n && !(logOf c n).isEmpty
  let c := if due 0 || due 1 then msix h 1 c else c
  let c := if due 2 || due 3 then msix h 2 c else c
  cxlOk c []

def execSetEventInterruptPolicy (h : HeadId) (tag policy : Nat) (s : State) : Host.Outcome State Fault Refusal :=
  .next (onCtl (cxlCommand 0x0103 h tag (crc32 ((List.range 4).flatMap (fun n => leBytes (policyByte policy n) 1))) true
    (fun _ => setPolicy h policy)) s)

/-! Firmware (R402-R404). -/

/-- Get FW Info: two slots, the active and the staged one, online activation, and the revisions. -/
def fwInfo (c : Ctl) : List Byte :=
  let staged := if c.ef.bootSlot = c.mbx.fwSlot then 0 else c.ef.bootSlot
  leBytes 2 1 ++ leBytes (c.mbx.fwSlot + staged * 8) 1 ++ leBytes 1 1 ++ leBytes 0 13 ++ fwRevision c.ef.fw1 ++ fwRevision c.ef.fw2 ++ leBytes 0 32

def execGetFwInfo (h : HeadId) (tag : Nat) (s : State) : Host.Outcome State Fault Refusal :=
  .next (onCtl (cxlCommand 0x0200 h tag 0 false (fun _ c => cxlOk c (fwInfo c))) s)

/-- The package is verified at the end of its transfer: a failure leaves the slot empty. -/
def fwEnd (slot : Nat) (pkg : Option FwPackage) (c : Ctl) : CxlResult :=
  let c := updMbx (fun m => { m with xfer := none }) c
  let good := match pkg with | some p => fwValid c p | none => false
  if good then cxlOk (setFwSlot slot pkg c) [] else cxlBad (setFwSlot slot none c) rcInvalidFw

/-- A part of a transfer: 0 full, 1 initiate, 2 continue, 3 end, 4 abort. Parts come in order; the running slot, and the boot slot in a
provisional period, are not written. `pkg` is what the slot holds at the end. -/
def transferFw (h : HeadId) (action slot off len : Nat) (pkg : Option FwPackage) (c : Ctl) : CxlResult :=
  let barred := decide (slot ≠ 1 ∧ slot ≠ 2) || slot == c.mbx.fwSlot || (c.ef.provisional && slot == c.ef.bootSlot)
  match c.mbx.xfer with
  | none =>
    if 2 ≤ action then cxlBad c rcXferOrder
    else if barred then cxlBad c rcInvalidSlot
    else if action = 0 then fwEnd slot pkg c
    else if off ≠ 0 then cxlBad c rcXferOrder
    else cxlOk (setFwSlot slot none (updMbx (fun m => { m with xfer := some ⟨slot, h, len⟩ }) c)) []
  | some x =>
    if x.head ≠ h then cxlBad c rcBusy
    else if action = 4 then cxlOk (abortXfer c) []
    else if action ≤ 1 then cxlBad c 0x7
    else if 4 < action then cxlBad c rcInvalidInput
    else if off ≠ x.offset then cxlBad c rcXferOrder
    else if action = 2 then cxlOk (updMbx (fun m => { m with xfer := some { x with offset := off + len } }) c) []
    else fwEnd x.slot pkg c

def execTransferFw (h : HeadId) (tag action slot off len inCrc : Nat) (pkg : Option FwPackage) (s : State) : Host.Outcome State Fault Refusal :=
  .next (onCtl (cxlCommand 0x0201 h tag inCrc true (fun _ => transferFw h action slot off len pkg)) s)

def execTransferFwTimeout (s : State) : Host.Outcome State Fault Refusal :=
  .next (onCtl (fun c => if hubPowered c && fwRunning c then abortXfer c else c) s)

/-- The first failing row of R403: return code, STATUS and DETAIL. -/
def activateCheck (online : Bool) (slot : Nat) (c : Ctl) : Option (Nat × Nat × Nat) :=
  match fwSlotOf c slot with
  | none => some (rcInvalidSlot, stRefused, 1)
  | some p =>
    let level := getF Reg.HEEL_GRP.LEVEL c
    let sdi := match fwSlotOf c c.mbx.sdSlot with | some q => q.sdiLevel | none => 0
    if !fwValid c p then some (rcInvalidSlot, stRefused, 1)
    else if grpPresent c ∧ (level < p.grpMin ∨ p.grpMax < level) then some (rcInvalidInput, stLevel, 1)
    else if p.formatMax < getF Reg.HEEL_GRP.FORMAT c then some (rcInvalidInput, stLevel, 2)
    else if !online then none
    else if !servingStates c.op then some (rcBusy, stWrongState, 0)
    else if c.cxl.bg.isSome || staging c || c.mbx.xfer.isSome then some (rcBusy, stBusy, 0)
    else if c.mbx.provEnd.isSome then some (rcBusy, stBusy, 1)
    else if sdi < p.sdiMin ∨ p.sdiMax < sdi then some (rcColdReset, stLevel, 3)
    else none

/-- Activate FW (R403, R404): the boot record takes the slot with PROVISIONAL set; online a firmware reset follows, and the new firmware
completes the command. -/
def activateFw (h : HeadId) (tag : Nat) (online : Bool) (slot seq : Nat) (c : Ctl) : CxlResult :=
  match activateCheck online slot c with
  | some (rc, st, detail) => ⟨c, rc, st, detail, false, [], false⟩
  | none =>
    let c := { c with ef := { c.ef with bootSlot := slot, provisional := true, prevSlot := c.mbx.fwSlot } }
    if online then ⟨fwReset 2 (updMbx (fun m => { m with running := m.running ++ [⟨h, 0x0202, tag, 0, seq⟩] }) c), rcSuccess, stOk, 0, true, [], true⟩
    else cxlOk c []

def execActivateFw (h : HeadId) (tag : Nat) (online : Bool) (slot : Nat) (s : State) : Host.Outcome State Fault Refusal :=
  .next (onCtl (cxlCommand 0x0202 h tag (crc32 (leBytes (b2n (!online)) 1 ++ leBytes slot 1)) true (fun seq => activateFw h tag online slot seq)) s)

/-- 60 s of provisional operation: PROVISIONAL is cleared and alert bit 2 raised. -/
def provisionalEnd (c : Ctl) : Ctl :=
  if fwRunning c && c.mbx.provEnd.isSome then
    vendorAlert 2 (updMbx (fun m => { m with provEnd := none }) { c with ef := { c.ef with provisional := false } })
  else c

def execProvisionalPeriodEnd (s : State) : Host.Outcome State Fault Refusal := .next (onCtl provisionalEnd s)

/-! Timestamp and logs (R92, R301, R302). -/

def execGetTimestamp (h : HeadId) (tag : Nat) (s : State) : Host.Outcome State Fault Refusal :=
  .next (onCtl (cxlCommand 0x0300 h tag 0 false (fun _ c => cxlOk c (leBytes (nowNs c) 8))) s)

/-- Set Timestamp: nothing under PTM; else the time steps forward by more than 1 s or is slewed (R92), is valid, and its bound is 1 ms. -/
def setTimestamp (t : Nat) (c : Ctl) : CxlResult :=
  if clkSource c = 1 ∨ clkSource c = 2 then cxlOk c []
  else
    let off : Int := (t : Int) - nowNs c
    let c := clkErr 1000000 (setF Reg.CLK_STATUS.VALID 1 (setF Reg.EPG_PULSE.UNALIGNED 0 (clkCorrect off c)))
    cxlOk (if clkSource c = 3 then c else setF Reg.CLK_STATUS.SOURCE 5 c) []

def execSetTimestamp (h : HeadId) (tag t : Nat) (s : State) : Host.Outcome State Fault Refusal :=
  .next (onCtl (cxlCommand 0x0301 h tag (crc32 (leBytes t 8)) true (fun _ => setTimestamp t)) s)

/-- The identifiers of the command effects log and of the vendor debug log; their sizes are free values. -/
def logUuid (vendor : Bool) : List Byte :=
  if vendor then [0x5e, 0x18, 0x19, 0xd9, 0x11, 0xa9, 0x40, 0x0c, 0x81, 0x1f, 0xd6, 0x07, 0x19, 0x40, 0x3d, 0x86]
  else [0x0d, 0xa9, 0xc0, 0xb5, 0xbf, 0x41, 0x4b, 0x78, 0x8f, 0x79, 0x96, 0xb1, 0x62, 0x3b, 0x3f, 0x17]

def supportedLogs (c : Ctl) : CxlResult :=
  let a := drawBytes 4 c
  let b := drawBytes 4 a.2
  cxlOk b.2 (leBytes 2 2 ++ leBytes 0 6 ++ logUuid false ++ a.1 ++ logUuid true ++ b.1)

def execGetSupportedLogs (h : HeadId) (tag : Nat) (s : State) : Host.Outcome State Fault Refusal :=
  .next (onCtl (cxlCommand 0x0400 h tag 0 false (fun _ => supportedLogs)) s)

/-- Get Log: the content of the two logs is not in the manual; its bytes are free values. -/
def getLog (len : Nat) (c : Ctl) : CxlResult :=
  if 65536 < len then cxlBad c rcInvalidInput
  else
    let r := drawBytes len c
    cxlOk r.2 r.1

def execGetLog (h : HeadId) (tag : Nat) (vendor : Bool) (off len : Nat) (s : State) : Host.Outcome State Fault Refusal :=
  .next (onCtl (cxlCommand 0x0401 h tag (crc32 (logUuid vendor ++ leBytes off 4 ++ leBytes len 4)) false (fun _ => getLog len)) s)

/-- The opcode is a Jarica vendor command of R388. -/
def vendorListed (opcode : Nat) : Bool :=
  [0xC000, 0xC001, 0xC002, 0xC010, 0xC011, 0xC012, 0xC013, 0xC014, 0xC015, 0xC016, 0xC017, 0xC020, 0xC021, 0xC022, 0xC030, 0xC040, 0xC041, 0xC050, 0xC051].contains
    opcode

/-- A command that the device does not have (R76, R388), with its payload; and a vendor command whose payload is shorter than its request
header, which returns Invalid Input and leaves no entry (R383). -/
def execUnsupportedCommand (h : HeadId) (tag : Nat) (cmd : RawCommand) (s : State) : Host.Outcome State Fault Refusal :=
  .next (onCtl (cxlCommand cmd.opcode h tag 0 false (fun _ c => cxlBad c (if vendorListed cmd.opcode && decide (cmd.size < 8) then rcInvalidInput else rcUnsupported))) s)

end Sys2Proof.Machine
end

