-- ==== Sys2Proof/Machine/ConfigSpace.lean ====
section
/-! DEFINITION. Sys2Proof/Machine/ConfigSpace.lean: what a configuration request of a head reads (R79, R80, R93, R105), the features that the device
does not have (R76), the mailbox background status (R80, R90), and the CDAT that DOE returns (R81). No row of the command table carries such a
request, so these are functions of the state. -/
namespace Sys2Proof.Machine

/-- The device-specific content of the capability structures (R75, R80). -/
inductive CfgItem where
  | vendorId | deviceId | subvendorId | subsystemId
  | portType | maxPayload | extendedTag | tenBitTag | l1ExitMinUs | l1ExitMaxUs
  | d3hot | d3cold | pmeFromD0 | pmeFromD3hot | pmeFromD3cold | auxCurrent | powerState
  | msixVectors | msixEnabled | aer | cxlRas | viral | serialNumber
  | ptmRequester | ptmResponder | ptmRoot | ptmGranularityNs | ptmEnabled | aspmL1Enabled
  | doeDiscovery | doeCdat
  | memCapable | hdmRanges | memInfoValid | memoryActive | memoryActiveTimeoutS | mediaThroughCdat | cxlResetCapable | memClearCapable
  | nonCxlFunctions | gpfPhase2Us | gpfPhase2Mw
  | linkRate | linkWidth | linkFlit256 | linkLopt
  | bar0Component | bar0Device | bar2Window
  deriving DecidableEq, Repr

/-- The features that the device does not have, so that no capability structure names them (R76, R80). -/
inductive AbsentItem where
  | cxlCache | backInvalidate | l0p | dynamicCapacity | l1Substates | l0s | ide | cmaSpdm | secondaryMailbox | featureCommands
  deriving DecidableEq, Repr

/-- The field of MEM_LINK_STATUS that holds a property of a head's link: 0 rate, 1 width, 2 256-byte flit, 3 latency-optimized flit. -/
def linkItem (c : Ctl) (h : HeadId) (n : Nat) : Nat := match (linkFields h)[n]? with | some f => getF f c | none => 0

/-- The PTM head of section 0x000B (R105). -/
def ptmHead (c : Ctl) : HeadId :=
  if getF Reg.MEM_PORT_CFG.TWO_HEAD c = 1 ∧ getF Reg.MEM_PORT_CFG.PTM_HEAD c = 1 then 1 else 0

/-- The value of an item in the configuration space of a head; a power state reads 3 in D3hot. -/
def cfgItem (c : Ctl) (h : HeadId) : CfgItem → Nat
  | .vendorId => cfgF c Img.VENDOR_ID
  | .deviceId => cfgF c Img.DEVICE_ID
  | .subvendorId => cfgF c Img.SUBVENDOR_ID
  | .subsystemId => cfgF c Img.SUBSYSTEM_ID
  | .portType => 0
  | .maxPayload => 512
  | .extendedTag => 1
  | .tenBitTag => 1
  | .l1ExitMinUs => 2
  | .l1ExitMaxUs => 4
  | .d3hot => 1
  | .d3cold => 1
  | .pmeFromD0 => 1
  | .pmeFromD3hot => 1
  | .pmeFromD3cold => 1
  | .auxCurrent => 0
  | .powerState => if (headOf c h).host.d3hot then 3 else 0
  | .msixVectors => 4
  | .msixEnabled => (headOf c h).host.msix
  | .aer => 1
  | .cxlRas => 1
  | .viral => 1
  | .serialNumber => cfgF c Img.CXL_SERIAL
  | .ptmRequester => b2n (h == ptmHead c)
  | .ptmResponder => 0
  | .ptmRoot => 0
  | .ptmGranularityNs => 4
  | .ptmEnabled => b2n (headOf c h).host.ptm
  | .aspmL1Enabled => b2n (headOf c h).host.aspmL1
  | .doeDiscovery => 1
  | .doeCdat => 1
  | .memCapable => 1
  | .hdmRanges => 1
  | .memInfoValid => 1
  | .memoryActive => b2n (memActive c h)
  | .memoryActiveTimeoutS => 16
  | .mediaThroughCdat => 1
  | .cxlResetCapable => 1
  | .memClearCapable => 0
  | .nonCxlFunctions => 0
  | .gpfPhase2Us => 2
  | .gpfPhase2Mw => 0
  | .linkRate => linkItem c h 0
  | .linkWidth => linkItem c h 1
  | .linkFlit256 => linkItem c h 2
  | .linkLopt => linkItem c h 3
  | .bar0Component => 1
  | .bar0Device => 1
  | .bar2Window => 1

/-- No structure advertises a feature of R76. -/
def absentItem (_ : AbsentItem) : Nat := 0

/-- The answer to a configuration request: a value as soon as the link is up, and never Request Retry Status (R79); with the link down no request
reaches the device. -/
def configRead (c : Ctl) (h : HeadId) (i : CfgItem) : Option Nat := if (headOf c h).linkUp then some (cfgItem c h i) else none

/-- The mailbox background status: the operation in progress, or the last one with its return code (R80, R90). -/
def bgStatus (c : Ctl) : Bool × Nat × Nat :=
  match c.cxl.bg with
  | some b => (true, b.opcode, rcBackground)
  | none => (false, c.cxl.lastBg.1, c.cxl.lastBg.2)

/-! CDAT (R81). -/

/-- A DSMAS entry: the window of a head, with its DPA range in bytes. -/
structure Dsmas where
  handle : Nat
  base : Nat
  length : Nat
  nonVolatile : Bool
  deriving DecidableEq, Repr

/-- What a DSLBIS entry reports. -/
inductive Dslbis where
  | readLatencyNs | writeLatencyNs | readBandwidthMBs | writeBandwidthMBs
  deriving DecidableEq, Repr

/-- The window registers of a head, in units of 256 MiB. -/
def windowUnits (c : Ctl) (h : HeadId) : Nat × Nat :=
  if h = 0 then (getF Reg.MEM_H0_WIN_BASE.VALUE c, getF Reg.MEM_H0_WIN_SIZE.VALUE c)
  else (getF Reg.MEM_H1_WIN_BASE.VALUE c, getF Reg.MEM_H1_WIN_SIZE.VALUE c)

/-- One DSMAS entry for each head window. -/
def cdatDsmas (c : Ctl) : List Dsmas :=
  (bothHeads.filter (headPresent c)).map (fun h => ⟨h.val, (windowUnits c h).1 * 268435456, (windowUnits c h).2 * 268435456, true⟩)

/-- The value of a DSLBIS entry of each window. -/
def cdatDslbis (c : Ctl) : Dslbis → Nat
  | .readLatencyNs => 80
  | .writeLatencyNs => 30
  | .readBandwidthMBs => if twoHead c then 56000 else 112000
  | .writeBandwidthMBs => if twoHead c then 56000 else 112000

end Sys2Proof.Machine
end

