-- ==== Sys2Proof/Machine/Group.lean ====
section
/-! DEFINITION. Sys2Proof/Machine/Group.lean: the meanings of the group messages, of EPOCH_PULSE and of PTM (11_persistence_groups.md). -/
namespace Sys2Proof.Machine

/-- The fields of a group message that every type has (R285). -/
structure GMsg where
  grp : Nat
  inc : Nat
  level : Nat
  module : Nat
  epoch : Nat
  sent : Nat
  resume : Bool

/-- The 32 bytes of a message of a type. -/
def gmsgBytes (type : Nat) (m : GMsg) : List Byte :=
  leBytes m.grp 4 ++ leBytes m.inc 2 ++ leBytes m.level 1 ++ leBytes type 1 ++ leBytes m.module 4 ++ leBytes (b2n m.resume) 4
  ++ leBytes m.epoch 8 ++ leBytes m.sent 8

/-- The 32 bytes of a report (R293). -/
def reportBytes (c : Ctl) (r : Report) : List Byte :=
  leBytes (getF Reg.EPG_GROUP_ID.GROUP_ID c) 4 ++ leBytes r.inc 2 ++ leBytes r.kind 1 ++ leBytes r.reason 1
  ++ leBytes (getF Reg.EPG_IDS.MODULE_ID c) 4 ++ leBytes r.lmin 1 ++ leBytes r.lmax 1 ++ leBytes r.level 1 ++ leBytes r.format 1
  ++ leBytes r.epoch 6 ++ [0, 0] ++ leBytes r.time 8

def fwLevels (c : Ctl) : Nat × Nat := match runningFw c with | some p => (p.grpMin, p.grpMax) | none => (0, 0)

/-- The incarnation of a JOIN is newer than the stored one (R287). -/
def incNewer (inc : Nat) (c : Ctl) : Bool :=
  getF Reg.HEEL_GRP.INC_VALID c == 0
  || (let d := (inc + 65536 - getF Reg.HEEL_GRP.INCARNATION c) % 65536; decide (1 ≤ d) && decide (d ≤ 32767))

def incSame (inc : Nat) (c : Ctl) : Bool := getF Reg.HEEL_GRP.INC_VALID c == 1 && getF Reg.HEEL_GRP.INCARNATION c == inc

/-- A JOIN repeated on an active member. -/
def joinRepeated (m : GMsg) (c : Ctl) : Bool := member c == 2 && incSame m.inc c && m.epoch == c.epg.joinEpoch

/-- Checks 1 and 2 of R286. -/
def grpTarget (anyLevel : Bool) (m : GMsg) (c : Ctl) : Option Nat :=
  if !grpPresent c ∨ m.grp ≠ getF Reg.EPG_GROUP_ID.GROUP_ID c ∨ m.module ≠ getF Reg.EPG_IDS.MODULE_ID c then some 2
  else if anyLevel then (if (fwLevels c).1 ≤ m.level ∧ m.level ≤ (fwLevels c).2 then none else some 5)
  else if m.level = getF Reg.HEEL_GRP.LEVEL c then none else some 5

/-- Check 4: the lifetime. -/
def grpLate (m : GMsg) (c : Ctl) : Bool :=
  clkValid c && m.sent != 0 && decide (m.sent + getF Reg.EPG_CFG.LIFETIME c * 1000000000 < c.clk.time)

/-- Checks 1 to 5 of a message that is not a JOIN: the result of the first that fails. -/
def grpChecks (anyLevel activeOnly : Bool) (m : GMsg) (c : Ctl) : Option Nat :=
  (grpTarget anyLevel m c).or
    (if !incSame m.inc c then some 3
     else if grpLate m c then some 4
     else if member c = 2 ∨ (!activeOnly ∧ member c = 1) then none else some 6)

/-- Checks 1 to 5 of a JOIN. -/
def joinChecks (m : GMsg) (c : Ctl) : Option Nat :=
  (grpTarget true m c).or
    (if incNewer m.inc c then
       (if (match c.clk.joinAt with | some t => decide (c.uptime < t + 1000000000) | none => false) then some 0xB
        else if grpLate m c then some 4 else none)
     else if incSame m.inc c ∧ (m.resume ∨ joinRepeated m c) then (if grpLate m c then some 4 else none)
     else some 3)

/-- The frame of a group message (R392): the group result goes into DETAIL with STATUS OK; refusals are counted (R286). -/
def groupMsg (h : HeadId) (tag era type : Nat) (m : GMsg) (act : Ctl → Nat × List Byte × Ctl) (c : Ctl) : Ctl :=
  vendor 0xC030 h tag era (gmsgBytes type m) true anyState false false (fun _ c =>
    let r := act c
    let c := if r.1 = 0 ∨ r.1 = 1 then r.2.2 else addF Reg.EPG_COUNTS.REJECTED r.2.2
    ⟨c, stOk, r.1, r.1 == 0, r.2.1, r.1 + type * 256⟩) c

/-- A newer JOIN takes effect (R288). -/
def joinNewer (m : GMsg) (c : Ctl) : Ctl :=
  let c := setF Reg.HEEL_GRP.INC_VALID 1 (setF Reg.HEEL_GRP.INCARNATION m.inc (setF Reg.HEEL_EPOCH_HIGH.VALUE m.epoch c))
  let c := setF Reg.EPG_STATE.UNRESOLVED 0 (setF Reg.EPG_STATE.MEMBER 2 (setF Reg.HEEL_GRP.LEVEL m.level c))
  { c with epg := { c.epg with joinEpoch := m.epoch }, clk := { c.clk with joinAt := some c.uptime } }

/-- JOIN: checks 6 and 7 and the effect (R288). -/
def grpJoin (m : GMsg) (c : Ctl) : Nat × List Byte × Ctl :=
  match joinChecks m c with
  | some e => (e, [], c)
  | none =>
    if joinRepeated m c then (1, [], c)
    else if incNewer m.inc c then
      (if framesPending c then (7, [], c) else if m.epoch < epochHigh c then (9, [], c) else (0, [], joinNewer m c))
    else if member c = 1 ∧ m.epoch = epochHigh c ∧ c.epg.target0 then
      (0, [], setF Reg.EPG_STATE.MEMBER 2 { c with epg := { c.epg with joinEpoch := m.epoch } })
    else if m.epoch < epochHigh c then (9, [], c)
    else (3, [], c)

def execJoin (h : HeadId) (tag era grp inc level module epoch sent : Nat) (resume : Bool) (s : State) : Host.Outcome State Fault Refusal :=
  let m : GMsg := ⟨grp, inc, level, module, epoch, sent, resume⟩
  .next (onCtl (groupMsg h tag era 1 m (grpJoin m)) s)

/-- CLOSE: a close at N by R290, or a miss; a refused CLOSE makes a MISSED report (R286, R293). -/
def grpClose (m : GMsg) (c : Ctl) : Nat × List Byte × Ctl :=
  match grpChecks false true m c with
  | some e => (e, [], closeMissed (if e = 6 then 1 else 0) m.epoch c)
  | none =>
    match closeReason m.epoch c with
    | some 6 => (9, [], closeMissed 6 m.epoch c)
    | some r => (7, leBytes r 1, closeMissed r m.epoch c)
    | none =>
      let c := epochClose m.epoch c
      (0, leBytes m.epoch 8 ++ leBytes (getF Reg.EPG_CLOSE_CSN.VALUE c) 8, c)

def execClose (h : HeadId) (tag era grp inc level module epoch sent : Nat) (s : State) : Host.Outcome State Fault Refusal :=
  let m : GMsg := ⟨grp, inc, level, module, epoch, sent, false⟩
  .next (onCtl (groupMsg h tag era 2 m (grpClose m)) s)

/-- FORMAT advances with the first COMMIT accepted while the level in force defines a newer format (R304): the running firmware
writes the format of that level when its FORMAT_MAX reaches it (log entry 13). -/
def formatAdvance (c : Ctl) : Ctl :=
  let n := getF Reg.HEEL_GRP.LEVEL c
  let reaches := match runningFw c with | some p => decide (n ≤ p.formatMax) | none => false
  if decide (getF Reg.HEEL_GRP.FORMAT c < n) && reaches then
    setF Reg.HEEL_GRP.FORMAT n c
  else c

/-- COMMIT (R288, R294). -/
def grpCommit (m : GMsg) (c : Ctl) : Nat × List Byte × Ctl :=
  match grpChecks false false m c with
  | some e => (e, [], c)
  | none =>
    if m.epoch ≤ committedEpoch c then (1, [], c)
    else if m.epoch = sealedEpoch c ∧ unresolved c then
      (0, [], formatAdvance (setF Reg.EPG_STATE.UNRESOLVED 0 (setF Reg.HEEL_COMMITTED.VALUE m.epoch c)))
    else (8, [], c)

def execCommit (h : HeadId) (tag era grp inc level module epoch sent : Nat) (s : State) : Host.Outcome State Fault Refusal :=
  let m : GMsg := ⟨grp, inc, level, module, epoch, sent, false⟩
  .next (onCtl (groupMsg h tag era 3 m (grpCommit m)) s)

/-- ABORT (R288). -/
def grpAbort (m : GMsg) (c : Ctl) : Nat × List Byte × Ctl :=
  match grpChecks false false m c with
  | some e => (e, [], c)
  | none =>
    if m.epoch = sealedEpoch c ∧ getF Reg.EPG_STATE.ABORTED c = 1 then (1, [], c)
    else if m.epoch = sealedEpoch c ∧ unresolved c then
      (0, [], setF Reg.EPG_STATE.ABORTED 1 (setF Reg.EPG_STATE.UNRESOLVED 0 c))
    else (8, [], c)

def execAbort (h : HeadId) (tag era grp inc level module epoch sent : Nat) (s : State) : Host.Outcome State Fault Refusal :=
  let m : GMsg := ⟨grp, inc, level, module, epoch, sent, false⟩
  .next (onCtl (groupMsg h tag era 4 m (grpAbort m)) s)

/-- LEAVE: with a frame still pending the state is wrong for it, 0xA (log entry 14). -/
def grpLeave (m : GMsg) (c : Ctl) : Nat × List Byte × Ctl :=
  match grpChecks false true m c with
  | some e => (e, [], c)
  | none => if framesPending c then (0xA, [], c) else (0, [], setF Reg.EPG_STATE.MEMBER 3 c)

def execLeave (h : HeadId) (tag era grp inc level module epoch sent : Nat) (s : State) : Host.Outcome State Fault Refusal :=
  let m : GMsg := ⟨grp, inc, level, module, epoch, sent, false⟩
  .next (onCtl (groupMsg h tag era 5 m (grpLeave m)) s)

/-- LEVEL (R303); above the previous firmware's maximum it is refused in a provisional period (R404). -/
def grpLevel (m : GMsg) (c : Ctl) : Nat × List Byte × Ctl :=
  match grpChecks true true m c with
  | some e => (e, [], c)
  | none =>
    let prevMax := match fwSlotOf c c.ef.prevSlot with | some p => p.grpMax | none => 255
    if m.level = getF Reg.HEEL_GRP.LEVEL c then (1, [], c)
    else if m.level < getF Reg.HEEL_GRP.FORMAT c ∨ (c.mbx.provEnd.isSome ∧ prevMax < m.level) then (5, [], c)
    else if framesPending c ∨ unresolved c then (0xA, [], c)
    else (0, [], setF Reg.HEEL_GRP.LEVEL m.level c)

def execLevel (h : HeadId) (tag era grp inc level module epoch sent : Nat) (s : State) : Host.Outcome State Fault Refusal :=
  let m : GMsg := ⟨grp, inc, level, module, epoch, sent, false⟩
  .next (onCtl (groupMsg h tag era 6 m (grpLevel m)) s)

/-- STATUS: EPG_STATE, EPG_LEVEL, the last closed, the sealed and the committed epoch, and up to 8 reports, which leave the queue. -/
def grpStatus (m : GMsg) (c : Ctl) : Nat × List Byte × Ctl :=
  match grpTarget false m c with
  | some e => (e, [], c)
  | none =>
    (0, leBytes (regValue 0x80010 c) 4 ++ leBytes (regValue 0x80030 c) 4 ++ leBytes (epochHigh c) 8 ++ leBytes (sealedEpoch c) 8
      ++ leBytes (committedEpoch c) 8 ++ ((c.epg.reports.take 8).map (reportBytes c)).flatten,
     { c with epg := { c.epg with reports := c.epg.reports.drop 8 } })

def execStatus (h : HeadId) (tag era grp inc level module epoch sent : Nat) (s : State) : Host.Outcome State Fault Refusal :=
  let m : GMsg := ⟨grp, inc, level, module, epoch, sent, false⟩
  .next (onCtl (groupMsg h tag era 7 m (grpStatus m)) s)

/-! EPOCH_PULSE (R296-R299). -/

def pulsePeriod (c : Ctl) : Nat := getF Reg.EPG_CFG.PERIOD_MS c * 1000000
def pulsePhase (c : Ctl) : Nat := getF Reg.EPG_PHASE.PHASE c * 1000
def pulseState (c : Ctl) : Nat := getF Reg.EPG_PULSE.STATE c

/-- The number of the expected instant nearest to a timestamp, and that instant. -/
def pulseNearest (t : Nat) (c : Ctl) : Nat × Nat :=
  let p := pulsePeriod c
  if p = 0 then (0, pulsePhase c)
  else
    let k := (t + p / 2 - min (t + p / 2) (pulsePhase c)) / p
    (k, k * p + pulsePhase c)

def pulseDist (t : Nat) (c : Ctl) : Nat := ((t : Int) - (pulseNearest t c).2).natAbs

/-- Edges count only while the receiver is not stopped by a save (R297). -/
def pulseLive (c : Ctl) : Bool :=
  match c.op with
  | .restoring => true | .serving => true | .derated => true | .keep => true
  | _ => false

/-- A pulse close at number k, subject to R289 (R298). -/
def pulseClose (k : Nat) (c : Ctl) : Ctl :=
  match closeReason k c with
  | some r => closeMissed r k c
  | none => epochClose k c

/-- The pulse disciplines module time while PTM is not locked and the receiver is in service (R299); not in a firmware reset, in which the time
base holds over (R71). -/
def pulseDiscipline (off : Int) (c : Ctl) : Ctl :=
  if clkSource c = 1 ∨ !fwRunning c then c
  else clkErr 1000 (setF Reg.CLK_STATUS.VALID 1 (setF Reg.CLK_STATUS.SOURCE 3 (clkFreq off (clkCorrect off c))))

/-- The last eight edges lie evenly: spacings within 1 µs of each other and within 100 ppm of P (R299). -/
def edgesEven (p : Nat) (edges : List Nat) : Bool :=
  let gaps : List Nat := (edges.zip (edges.drop 1)).map (fun e => e.1 - e.2)
  decide (8 ≤ edges.length)
  && gaps.all (fun (g : Nat) => decide (((g : Int) - (p : Int)).natAbs * 10000 ≤ p) && gaps.all (fun (x : Nat) => decide (((g : Int) - (x : Int)).natAbs ≤ 1000)))

/-- PULSE_ALIGNMENT: after 8 evenly spaced edges the module aligns its phase or sets UNALIGNED (R299). -/
def pulseAlign (c : Ctl) : Ctl :=
  let p := pulsePeriod c
  match c.epg.edges with
  | [] => c
  | t :: _ =>
    if clkSource c ≠ 1 ∧ fwRunning c = true ∧ edgesEven p c.epg.edges then
      let off : Int := (pulseNearest t c).2 - (t : Int)
      let c := { c with epg := { c.epg with edges := [] } }
      if clkErrNow c ≤ p / 4 ∧ clkValid c ∧ off.natAbs ≤ p / 4 then
        setF Reg.CLK_STATUS.SOURCE 3 (clkCorrect off c)
      else setF Reg.EPG_PULSE.UNALIGNED 1 c
    else c

/-- A fault of an expected instant (R297). A receiver that goes out of service while the pulse is the time source leaves the time base in
holdover (R300, log entry 139). -/
def pulseFaultAt (k : Nat) (c : Ctl) : Ctl :=
  let c := { c with epg := { c.epg with judged := some k } }
  if pulseState c = 1 then setF Reg.EPG_PULSE.GOOD 0 { c with epg := { c.epg with lastGood := none } }
  else if pulseState c = 2 then
    let c := addF Reg.EPG_PULSE.FAULTS { c with epg := { c.epg with faults := c.epg.faults + 1 } }
    if 3 ≤ c.epg.faults then
      let c := setF Reg.EPG_PULSE.GOOD 0 (setF Reg.EPG_PULSE.STATE 1 { c with epg := { c.epg with faults := 0, lastGood := none, edges := [] } })
      let c := if clkSource c = 3 then logEvent 0x1202 18 2 0 (clkHoldover c) else c
      logEvent 0x0802 8 2 0 (closeMissed 8 k c)
    else closeMissed 7 k c
  else c

/-- An on-time edge at expected instant number k (R297). A receiver that is being aligned meets its time again: the bound is 1 µs (R302 and
its worked example). -/
def pulseOnTime (t k inst : Nat) (c : Ctl) : Ctl :=
  let c := { c with epg := { c.epg with judged := some k } }
  if pulseState c = 1 then
    let next := match c.epg.lastGood with
      | some g => decide (inst = g + pulsePeriod c)
      | none => true
    let n := if next then getF Reg.EPG_PULSE.GOOD c + 1 else 1
    let c := setF Reg.EPG_PULSE.GOOD (min n 8) { c with epg := { c.epg with lastGood := some inst } }
    if 8 ≤ n then
      let c := setF Reg.EPG_PULSE.STATE 2 { c with epg := { c.epg with faults := 0 } }
      logEvent 0x0801 8 1 0 (pulseDiscipline ((inst : Int) - t) c)
    else if clkSource c = 3 then clkErr 1000 c
    else c
  else if pulseState c = 2 then
    pulseClose k (pulseDiscipline ((inst : Int) - t) { c with epg := { c.epg with faults := 0 } })
  else c

/-- EPOCH_PULSE_EDGE: an edge with its timestamp in module time is classified (R297); a receiver that qualifies may align (R299). -/
def execEpochPulseEdge (t : Nat) (s : State) : Host.Outcome State Fault Refusal :=
  .next (onCtl (fun c =>
    if !pulseLive c ∨ (pulseState c ≠ 1 ∧ pulseState c ≠ 2) ∨ pulsePeriod c = 0 then c
    else
      let n := pulseNearest t c
      let d := pulseDist t c
      let c := if pulseState c = 1 then { c with epg := { c.epg with edges := (t :: c.epg.edges).take 8 } } else c
      let c := if d ≤ 1000 then pulseOnTime t n.1 n.2 c
        else if d ≤ pulsePeriod c / 4 then (if c.epg.judged = some n.1 then c else pulseFaultAt n.1 c)
        else
          let c := addF Reg.EPG_PULSE.STRAY c
          if pulseState c = 1 then setF Reg.EPG_PULSE.GOOD 0 { c with epg := { c.epg with lastGood := none } } else c
      if pulseState c = 1 then pulseAlign c else c) s)

/-- PULSE_FAULT: the expected instant of number k has passed without an on-time edge (R297). An instant whose edge was on time, or that a near
edge has made a fault already, is none. -/
def execPulseFault (k : Nat) (s : State) : Host.Outcome State Fault Refusal :=
  .next (onCtl (fun c => if pulseLive c ∧ c.epg.judged ≠ some k then pulseFaultAt k c else c) s)

/-- PULSE_SOURCE_DRIVE: the source drives the pulse at an expected instant and takes its own edge as on time (R296): it closes by R298. -/
def execPulseSourceDrive (k : Nat) (s : State) : Host.Outcome State Fault Refusal :=
  .next (onCtl (fun c =>
    if pulseLive c ∧ pulseState c = 3 ∧ clkValid c then
      pulseClose k (send ⟨.pins, .epochPulse, [k * pulsePeriod c + pulsePhase c], []⟩ c)
    else c) s)

/-- PULSE_CONTENTION: the source releases the pin and becomes a receiver in Qualifying (R42, R296). -/
def execPulseContention (s : State) : Host.Outcome State Fault Refusal :=
  .next (onCtl (fun c =>
    if pulseLive c ∧ pulseState c = 3 then
      logEvent 0x0803 8 2 0 (setF Reg.EPG_PULSE.GOOD 0 (setF Reg.EPG_PULSE.STATE 1
        { c with epg := { c.epg with lastGood := none, edges := [], faults := 0 } }))
    else c) s)

/-! PTM (R105, R300). -/

/-- PTM exchanges run: the host has enabled PTM, the link is up, and no firmware reset pauses the discipline (R71, R105). -/
def ptmRuns (c : Ctl) : Bool := (headOf c (ptmHead c)).linkUp && (headOf c (ptmHead c)).host.ptm && fwRunning c

/-- PTM_REQUEST: every 10 ms while PTM is enabled and the link is up (R105). -/
def execPtmRequest (s : State) : Host.Outcome State Fault Refusal :=
  .next (onCtl (fun c => if ptmRuns c then send ⟨.head (ptmHead c), .ptmReq, [], []⟩ c else c) s)

/-- PTM_RESPONSE: a time pair, as the offset of the reference from module time in ns, disciplines module time (R300, R301). -/
def execPtmResponse (off : Int) (s : State) : Host.Outcome State Fault Refusal :=
  .next (onCtl (fun c =>
    if !ptmRuns c then c
    else
      let c := clkFreq off (clkCorrect off c)
      let n := if off.natAbs ≤ 1000 then c.clk.good + 1 else 0
      let c := { c with clk := { c.clk with good := n } }
      if 8 ≤ n then
        setF Reg.EPG_PULSE.UNALIGNED 0 (clkErr 1000 (setF Reg.CLK_STATUS.VALID 1 (setF Reg.CLK_STATUS.SOURCE 1 c)))
      else setF Reg.CLK_STATUS.SOURCE 2 c) s)

/-- HOLDOVER_ENTRY: five PTM exchanges missed; a pulse in service takes over, else the time base holds over (R300, R302). A time that the host
has set stays the source: its row of R300 stands above holdover (log entry 139). -/
def execHoldoverEntry (s : State) : Host.Outcome State Fault Refusal :=
  .next (onCtl (fun c =>
    if clkSource c = 0 ∨ clkSource c = 4 ∨ clkSource c = 5 ∨ !hubPowered c then c
    else if pulseState c = 2 ∧ fwRunning c then
      if clkSource c = 3 then c else clkErr 1000 (setF Reg.CLK_STATUS.SOURCE 3 { c with clk := { c.clk with good := 0 } })
    else logEvent 0x1202 18 2 0 (clkHoldover c)) s)

end Sys2Proof.Machine
end

