-- ==== Sys2Proof/Machine/PowerOps.lean ====
section
/-! DEFINITION. Sys2Proof/Machine/PowerOps.lean: Heel's reset and what it keeps, and the wake steps W1 to W11 (R55, R60-R67, R163, R251, R254,
R317). -/
namespace Sys2Proof.Machine

/-! What is kept without a supply (R67). -/

/-- The fields of the HEEL registers whose home is the Heel NV bank. -/
def nvFields : List Fld :=
  [Reg.HEEL_SEAL_ID.SAVE_ID, Reg.HEEL_SEAL_STATUS.CAUSE, Reg.HEEL_SEAL_STATUS.LAST_UNSEALED, Reg.HEEL_SEAL_STATUS.PROTECTED,
   Reg.HEEL_SEAL_STATUS.SEALED_BY, Reg.HEEL_SEAL_STATUS.SEALED_VALID, Reg.HEEL_SEAL_STATUS.SINGLE_DIE, Reg.HEEL_RESTORE_TGT.TARGET,
   Reg.HEEL_RESTORE_TGT.ONCE, Reg.HEEL_CARRY.CARRY_VALID, Reg.HEEL_CARRY.CARRY_PROTECTED, Reg.HEEL_CARRY_ID.SAVE_ID,
   Reg.HEEL_RECOVERY.KEEP_WRITES, Reg.HEEL_RECOVERY.OPEN_MARK, Reg.HEEL_GRP.FORMAT, Reg.HEEL_GRP.INCARNATION, Reg.HEEL_GRP.INC_VALID,
   Reg.HEEL_GRP.LEVEL, Reg.HEEL_COMMITTED.VALUE, Reg.HEEL_EPOCH_HIGH.VALUE, Reg.HEEL_NRG_SNAP.Q_LO, Reg.HEEL_NRG_SNAP.BOUND,
   Reg.HEEL_NRG_SNAP_TIME.S, Reg.HEEL_JRNL_BASE.SEQ, Reg.HEEL_DEGRADE.KEEP, Reg.HEEL_WAKE_STATUS.RESTART_PENDING]

/-- Fields that take the value they have in another state. -/
def keepFields (l : List Fld) (old c : Ctl) : Ctl := l.foldl (fun c f => setF f (getF f old) c) c

/-- Heel is reset: its registers but for the NV bank; the store snapshot is not valid afterwards (R317). -/
def heelReset (c : Ctl) : Ctl := setF Reg.HEEL_NRG_SNAP.VALID 0 (keepFields nvFields c (resetRange 0xA0000 0xC0000 c))

/-- Heel power-on (R13, R230): an open-save mark is a save that ended without a seal; Dormant, with input wake armed; module time starts at 0 and is not valid (R302). A pending restart wakes (R70). -/
def heelPowerOn (c : Ctl) : Ctl :=
  if c.op ≠ .off then c
  else
    let c := if getF Reg.HEEL_RECOVERY.OPEN_MARK c = 1 then setF Reg.HEEL_SEAL_STATUS.LAST_UNSEALED 1 c else c
    let c := setF Reg.CLK_STATUS.VALID 0 (heelReset c)
    let c := { c with op := .dormant, prev := .dormant, heel := Heel.init, clk := { Clk.init with dormantAt := some c.uptime } }
    if getF Reg.HEEL_WAKE_STATUS.RESTART_PENDING c = 1 then enterWaking c else c

/-- The registers that name the device: HUB_ID, HUB_STEPPING and the serial number. -/
def identityField (e : Nat × Nat) : Bool := decide (0x10000 * 64 ≤ e.1) && decide (e.1 < 0x10010 * 64)

/-- What the tables keep of a way: that it is failed (R260), its lagging mark (R206) and its checks (R279). -/
def keptWay (w : Way) : Way := { Way.init with state := w.state, lag := w.lag, median := w.median, lagged := w.lagged, passed := w.passed }

/-- Heel's supply is lost (R13): everything that is not kept without a supply goes. -/
def heelSupplyLoss (c : Ctl) : Ctl :=
  if c.op = .off then c
  else
    let old := saveDieReset 1 (saveDieReset 0 (eflReset c))
    let fl : Flash := { old.flash with ways := old.flash.ways.map (fun e => (e.1, keptWay e.2)), bufUsed := [], log0 := 0, log1 := 0, reclaiming := [] }
    let c := { Ctl.init with
      rf := old.rf.filter identityField ++ resetRegs.filter (fun e => !identityField e)
      op := .off, prev := .off, uptime := old.uptime, fresh := old.fresh, sent := old.sent, nor := old.nor, fuses := old.fuses
      ef := old.ef, nv := old.nv, weltNv := old.weltNv, images := old.images, flash := fl
      psq := { Psq.init with pinned := old.psq.pinned, ring := old.psq.ring } }
    keepFields nvFields old c

/-! Wake steps (R61). -/

/-- The step before a step. -/
def wakeBefore (n : Nat) : Nat := if n ≤ 7 then n - 1 else 7

/-- A step is in progress: what it starts after has completed, and nothing holds it (R47, R71). -/
def wakeOpen (n : Nat) (c : Ctl) : Bool :=
  wakeGoes c && !c.waking.thermalHold && !wakeDone c n && (n == 1 || wakeDone c (wakeBefore n))
  && (decide (n ≤ 4) || (fwRunning c && getF Reg.HUB_FW_RESET_COUNT.TOTAL c == 0))

def wakeEnd (n : Nat) (c : Ctl) : Ctl := { c with waking := { c.waking with done := bitSet c.waking.done n } }

/-- W4: the boot ROM boots the boot slot, or else the other one (R401). With no valid package the step stays incomplete. -/
def wakeFirmware (slots : Option (Option FwPackage × Option FwPackage)) (c : Ctl) : Ctl :=
  let c := match slots with
    | some (a, b) => { c with ef := { c.ef with fw1 := a, fw2 := b } }
    | none => c
  let good := fun (n : Nat) => match fwSlotOf c n with | some p => fwValid c p | none => false
  let boot := c.ef.bootSlot
  let slot := if good boot then boot else if good (3 - boot) then 3 - boot else 0
  if slot = 0 then c
  else
    let rseq := match c.ef.clearing, c.ef.records.getLast? with
      | none, some r => (r.rseq + 1) % 4294967296
      | _, _ => c.ef.rseqKept
    let c := setF Reg.HUB_DOMAIN_STATUS.CORE_RUN 15 { c with
      mbx := { c.mbx with fwSlot := slot, bootFallback := decide (slot ≠ boot) }
      evr := { c.evr with rseq := rseq } }
    let c := if c.ef.passphrase.isSome then setF Reg.MEM_ACCESS_STATUS.LOCKED 1 c else c
    wakeEnd 4 (bankNext c)

/-- The registers that W5 writes besides the list of single fields (R54, R65): DRAM channels, page hints, sleep, and the rails. -/
def wakeConfigRegs (m : ImageCopy) (c : Ctl) : Ctl :=
  let c := writeTargets m readTargets c
  let c := (if imgGet m Img.CH4 = 1 then [0, 2, 4, 6] else [0, 1, 2, 3, 4, 5, 6, 7]).foldl (fun c ch =>
    setF (Reg.DRC_TOPO.POPULATED ch) 1 (writeTargets m (channelTargets ch) c)) c
  let c := (List.range 8).foldl (fun c d =>
    setF (Reg.MEM_HINT_H0.HINT d) (imgGet m (Img.HINT0 d)) (setF (Reg.MEM_HINT_H1.HINT d) (imgGet m (Img.HINT1 d)) c)) c
  let idle := if imgHas m 13 then imgGet m Img.SLEEP_IDLE else 10
  let c := setF Reg.PRD_CFG.SLEEP_IDLE idle (setF Reg.PRD_CFG.SLEEP_EN (b2n (decide (idle ≠ 0))) c)
  let c := setF Reg.PSQ_WDI_CFG.RESPONSE (imgGet m Img.WDI_RESPONSE) (setF Reg.PSQ_WDI_CFG.FIRST (imgGet m Img.WDI_FIRST)
    (setF Reg.PSQ_WDI_CFG.TIMEOUT (imgGet m Img.WDI_TIMEOUT) (loadRails m c)))
  { c with psq := { c.psq with up := upOrder c } }

/-- W5: SPI_RESET_N is pulsed and the configuration read once (R51, R55, R57, R61); HUB_CFG_FLOOR shows the floor read now. With no valid copy
the step stays incomplete. -/
def wakeConfig (nor : Option Nor) (c : Ctl) : Ctl :=
  let c := send ⟨.pins, .spiReset, [], []⟩ (setF Reg.HUB_CFG_FLOOR.VALUE c.ef.genFloor c)
  let c := match nor with | some x => { c with nor := x } | none => c
  let r := selectCopy (variantS c) (getF Reg.HUB_STEPPING.HUB c) (dieStepping c) c.ef.genFloor c.fuses c.nor
  let c := setF Reg.HUB_CFG_STATUS.REJECT_A r.rejectA (setF Reg.HUB_CFG_STATUS.REJECT_B r.rejectB
    (setF Reg.HUB_CFG_STATUS.DIR_DUP (b2n r.dirDup) c))
  match r.active with
  | none => { c with waking := { c.waking with cfgBad := true } }
  | some b =>
    let m := norCopy c.nor b
    let c := setF Reg.HUB_CFG_STATUS.ACTIVE_COPY (b2n b) (setF Reg.HUB_CFG_STATUS.FALLBACK (b2n r.fallback)
      (setF Reg.HUB_CFG_STATUS.STAGED 0 (setF Reg.HUB_CFG_GEN.VALUE m.generation { c with cfg := some m })))
    let c := if r.fallback then logEvent 0x0104 1 1 ((if b then r.rejectA else r.rejectB) + b2n (!b) * 16) c else c
    wakeEnd 5 (wakeConfigRegs m { c with waking := { c.waking with cfgBad := false } })

/-- The stored calibration set in use: the newest whose CRC is good, and its slot (R163). -/
def newestCal (l : List CalSlot) : Option (Nat × CalSlot) :=
  (l.zipIdx.filter (fun e => e.1.crcGood)).foldl (fun best e => match best with
    | some b => if slotSeq b.2 < slotSeq e.1 then some (e.2, e.1) else some b
    | none => some (e.2, e.1)) none

/-- The slots of a kind after W7 has checked their CRCs: those that `bad` names have failed. -/
def checkSlots (bad : Nat) (l : List CalSlot) : List CalSlot := l.zipIdx.map (fun e => if bad.testBit e.2 then { e.1 with crcGood := false } else e.1)

/-- W7, interface values: they are loaded by kind; a slot that fails its CRC is reported. `bad` names those that do: bits 0 and 1 the slots of the
DRAM values, bits 2 and 3 those of the flash values. -/
def wakeCalibration (bad : Nat) (c : Ctl) : Ctl :=
  let c := { c with ef := { c.ef with calDram := checkSlots (bad % 4) c.ef.calDram, calFlash := checkSlots (bad / 4) c.ef.calFlash } }
  let d := newestCal c.ef.calDram
  let f := newestCal c.ef.calFlash
  let lanes := fun (o : Option (Nat × CalSlot)) => match o with | some e => e.2.recs.flatMap CalRec.lanes | none => []
  let c := setF Reg.CAL_STATUS.DRAM_SLOT (match d with | some e => e.1 | none => 0) (setF Reg.CAL_STATUS.FLASH_SLOT (match f with | some e => e.1 | none => 0)
    { c with cal := { c.cal with lanes := (lanes d ++ lanes f).foldl (fun l e => mapSet LaneVal.init l e.1 e.2) [] } })
  let badD := c.ef.calDram.any (fun x => !x.crcGood)
  let badF := c.ef.calFlash.any (fun x => !x.crcGood)
  let c := if badD then logEvent 0x0402 4 2 0 c else c
  let c := if badF then logEvent 0x0402 4 2 256 c else c
  if badD || badF then setF Reg.CAL_STATUS.CRC_FAIL_W7 1 c else c

/-- W7, the store (R317, R324): capacity, the charge interval from the snapshot of Dormant entry, and the first reading. -/
def wakeStore (mv : Nat) (c : Ctl) : Ctl :=
  let cap := c.ef.capacity.getD (cfgF c Img.C_NOM * 10000)
  let slept := nowNs c / 1000000000 - getF Reg.HEEL_NRG_SNAP_TIME.S c
  let snap := getF Reg.HEEL_NRG_SNAP.Q_LO c * 10000
  let valid := getF Reg.HEEL_NRG_SNAP.VALID c == 1
  let bound := getF Reg.HEEL_NRG_SNAP.BOUND c
  let loss := (cfgF c Img.SELF_DIS * cap * slept + 86399999999) / 86400000000
  let lo : Int := if valid then clampQ cap ((snap : Int) - loss) else 0
  let hi : Int := if valid then (if bound = 127 then cap else clampQ cap (snap + bound * cap / 400)) else cap
  let q := (lo + hi) / 2
  let c := setF Reg.NRG_Q.Q (fieldOf 40 q) (setF Reg.NRG_LEARN.COUNT c.ef.learnCount { c with nrg := { c.nrg with
    cap := cap, lastLearn := c.ef.lastLearn, q := q, qLo := lo, qHi := hi } })
  let c := setF Reg.NRG_VOLTAGE.STORE mv c
  let c := if mv < 1000 then logEvent 0x0903 9 3 0 (setF Reg.NRG_STATUS.ABSENT 1 (anchor (ocvCharge c false mv) 0 cap c))
    else if valid then restPoint (decide (1800 ≤ slept)) mv c
    else restAnchor false mv c
  eUseRecompute (updateSoc (updateHealth c))

/-- W7 completes: W8 to W11 begin, the populated DRAM channels train, and the save-die and guest links start to train (R137, R352). -/
def wakeSeven (mv bad : Nat) (c : Ctl) : Ctl :=
  let c := setLinkSt 0 1 (setLinkSt 1 1 (wakeStore mv (wakeCalibration bad c)))
  let c := (List.range 8).foldl (fun c ch => if chPopulated c ch then setF (Reg.DRC_STATUS.STATE ch) 1 c else c) c
  let c := if guestPresent c ∧ (groupSlots c 3).all (fun n => (railOf c n).st == .ready) then setF Reg.GST_STATUS.PORT 1 (setLinkSt 2 1 { c with guest := { c.guest with resetN := true } }) else c
  wakeEnd 7 c

/-- W8, hard repair: at most one listed row of a channel, if the channel's stored calibration is valid (R155). -/
def hardRepair (ch : Nat) (c : Ctl) : Ctl :=
  let mine := c.ef.repairs.filter (fun k => k / 4294967296 == ch)
  match mine with
  | [] => c
  | k :: rest =>
    if (calRecOf c 0 ch).isSome then
      setF (Reg.DRC_REPAIR.HARD_DONE ch) 1 (setF (Reg.DRC_REPAIR.HARD_PENDING ch) rest.length
        { c with ef := { c.ef with repairs := c.ef.repairs.filter (· != k) } })
    else setF (Reg.DRC_REPAIR.HARD_PENDING ch) mine.length c

/-- W8: the device marks of the repair region are reloaded (R154). -/
def loadMarks (ch : Nat) (c : Ctl) : Ctl :=
  [0, 1, 2, 3].foldl (fun c j => match mapFind c.ef.marks (ch * 4 + j) with
    | some d => setF (Reg.DRC_MARK.DEVICE ch j) d (setF (Reg.DRC_MARK.VALID ch j) 1 c)
    | none => c) c

/-- The verify run of a channel with stored values falls below the minimum of R162: it is trained in full, as one without stored values (R137). -/
def trainsFully (c : Ctl) (e : DramTrain) : Bool := (calRecOf c 0 e.ch).isNone || eyeBelow (getF Reg.CAL_CFG.EYE_MIN c) e.verify

/-- The channel can be brought up: the runs that it needs have measured every lane, and a full training has found an eye of 8 taps. -/
def trainOk (c : Ctl) (e : DramTrain) : Bool :=
  ((calRecOf c 0 e.ch).isNone || lanesFull c e.ch e.verify)
  && (!trainsFully c e || (lanesFull c e.ch e.full && !eyeBelow 8 e.full))

/-- W8 on a channel (R137): hard repair, then the stored values with a verify run, or full training. -/
def wakeChannel (e : DramTrain) (c : Ctl) : Ctl :=
  let c := loadMarks e.ch (hardRepair e.ch c)
  let fully := trainsFully c e
  let c := if (calRecOf c 0 e.ch).isNone then c
    else eyeEvent 0 e.ch e.verify (dramEye e.ch e.temp e.verify (updChan e.ch (fun k => { k with applying := e.verify }) c))
  let c := if fully then eyeEvent 0 e.ch e.full (trained e.ch e.temp e.full (setF (Reg.CAL_DRAM_EYE.TEMP_LAST e.ch) (fieldOf 8 e.temp) c))
    else calStore (calRecord 0 e.ch e.temp e.verify c) c
  setF (Reg.DRC_STATUS.STATE e.ch) 2 c

/-- W8: every populated channel is initialised and trained; a channel that is not keeps the step incomplete. -/
def wakeDram (chans : List DramTrain) (c : Ctl) : Ctl :=
  let pop := (List.range 8).filter (chPopulated c)
  if pop.all (fun ch => match chans.find? (fun e => e.ch == ch) with | some e => trainOk c e | none => false) then
    wakeEnd 8 (pop.foldl (fun c ch => match chans.find? (fun e => e.ch == ch) with
      | none => c
      | some e => wakeChannel e c) c)
  else c

/-- Nothing is held: no image, no carried image, and no valid base map (R254). -/
def nothingHeld (c : Ctl) : Bool :=
  let dies := [c.weltNv.die0, c.weltNv.die1]
  getF Reg.HEEL_SEAL_STATUS.SEALED_VALID c == 0 && getF Reg.HEEL_CARRY.CARRY_VALID c == 0 && (baseFound dies ((pagesOf dies).flatMap (·.entries))).isNone

def ckpt (c : Ctl) (d : Nat) : Bool := if d = 0 then c.flash.ckpt0 else c.flash.ckpt1

/-- W9: the save die has everything that the step asks of it; the tables are loaded, or built anew when nothing is held (R254). -/
def dieComplete (c : Ctl) (d : Nat) (i : DieInfo) : Bool :=
  linkSt c d == 4 && c.waking.fw.testBit d && !c.waking.missing.testBit d
  && (if d = 0 then getF Reg.SAV_KEY.LOADED_S0 c else getF Reg.SAV_KEY.LOADED_S1 c) == 1
  && ((ckpt c d && !i.noTables) || nothingHeld c)

/-- A NAND channel of W9 (R251): its configuration, its trained or stored values and its state; trained eyes below 8 taps mark it (R162). -/
def wakeFlashChannel (ch : Nat) (i : DieInfo) (c : Ctl) : Ctl :=
  let c := setF (Reg.FLC_CFG.WAYS ch) (2 ^ diesPerChan c - 1) (setF (Reg.FLC_CFG.IFACE ch) (cfgF c Img.IFACE)
    (setF (Reg.FLC_CFG.LUN2 ch) (b2n (cfgF c Img.LUNS == 2)) (setF (Reg.FLC_CFG.RATE ch) (cfgF c Img.RATE) c)))
  let c := setF (Reg.FLC_STATUS.STATE ch) 2 c
  match i.trained.find? (fun e => e.1 == ch) with
  | none => match calRecOf c 1 ch with | some r => setF (Reg.CAL_FLASH_EYE.TEMP_LAST ch) (fieldOf 8 r.temp) c | none => c
  | some e =>
    let ms := e.2.2
    let c := setEyes ms 1 ch (if eyeBelow 8 ms then c else loadLanes 1 ch ms c)
    let c := if eyeBelow 8 ms then markFlashChannel ch c else calStore (calRecord 1 ch e.2.1 ms c) c
    eyeEvent 1 ch ms (addF (Reg.CAL_FLASH_EYE.RUNS ch) (setF (Reg.CAL_FLASH_EYE.TEMP_LAST ch) (fieldOf 8 e.2.1)
      (setF (Reg.CAL_FLASH_EYE.RD_EYE ch) (minOf (·.rdEye) ms) (setF (Reg.CAL_FLASH_EYE.WR_EYE ch) (minOf (·.wrEye) ms) c))))

/-- Blocks whose retirement has waited for their Sole set (log entry 24). -/
def lateRetired (c : Ctl) (d : Nat) : List (Nat × Nat) :=
  (c.flash.blocks.filter (fun e => decide (e.1 / 2048 / 256 = d) && e.2.cause != 0
    && ((e.2.pool == 2 && !setHeld c false) || (e.2.pool == 3 && !setHeld c true)))).map (fun e => (e.1, e.2.cause))

/-- The save die comes into service with its tables, ways and channels; a failed way stays failed until a format (R260). -/
def wakeDie (d : Nat) (i : DieInfo) (c : Ctl) : Ctl :=
  let c := setInService d true c
  let c := if ckpt c d && !i.noTables then setF (Reg.SAV_SD_TABLES.LOADED d) 1 c
    else setF (Reg.SAV_SD_TABLES.FORMATTED d) 1 (setF (Reg.SAV_SD_TABLES.LOADED d) 1 (formatDie d c))
  let c := (dieWays c d).foldl (fun c wk => updWay wk (fun w => { w with state := if i.failedWays.contains wk ∨ w.state = 2 then 2 else 1 }) c) c
  let c := setF (Reg.SAV_SD_TABLES.MIRRORED d) 1 c
  let c := (List.range 32).foldl (fun c n => wakeFlashChannel (d * 32 + n) i c) c
  (lateRetired c d).foldl (fun c e => retire (e.1 / 2048) (e.1 % 2048) e.2 c) c

/-- W9: both save dies, or one with SINGLE_DIE_WAKE (R64). -/
def wakeDies (d0 d1 : Option DieInfo) (c : Ctl) : Ctl :=
  let good := fun (d : Nat) (o : Option DieInfo) => match o with | some i => dieComplete c d i | none => false
  let g0 := good 0 d0
  let g1 := good 1 d1
  let missing := b2n (!g0) + 2 * b2n (!g1)
  if missing ≠ 0 ∧ (missing = 3 ∨ cfgF c Img.SINGLE_DIE_WAKE = 0) then c
  else
    let format := nothingHeld c && ((g0 && (!ckpt c 0 || (d0.map (·.noTables)).getD false)) || (g1 && (!ckpt c 1 || (d1.map (·.noTables)).getD false)))
    let c := match g0, d0 with | true, some i => wakeDie 0 i c | _, _ => c
    let c := match g1, d1 with | true, some i => wakeDie 1 i c | _, _ => c
    let c := if format then newKey c else c
    let c := if missing = 0 then c else
      let d := if g0 then 1 else 0
      let c := logEvent 0x0601 6 3 (d + 4 * 256) { c with waking := { c.waking with missing := missing } }
      setF Reg.SAV_STATUS.SINGLE_DIE 1 (setF Reg.DTK_SOLE.SINGLE_DIE 1 (setF Reg.DTK_WELT_STATUS.SINGLE_MIRROR 1 c))
    let c := leaseGrant (if g0 then 0 else 1) c
    let c := match c.images.newest with
      | some m => setF Reg.SAV_CUT_CSN.CSN m.csnCut (setF Reg.SAV_DURATION.US m.duration c)
      | none => c
    let c := placeLast c
    wakeEnd 9 (setReady (readyBits c) c)

/-- W11, which no later step waits for, has not completed when the device leaves Waking: the PHY can still be released (R78). -/
def lateCxl (c : Ctl) : Bool := intakeState c || c.op == .restoring

/-- A wake step completes. -/
def wakeStep (w : WakeInfo) (c : Ctl) : Ctl :=
  match w with
  | .supplies => if wakeOpen 1 c && [0, 1].all (fun n => (railOf c n).st == .ready) then wakeEnd 1 c else c
  | .oscillator => if wakeOpen 2 c then wakeEnd 2 c else c
  | .plls low =>
    if wakeOpen 3 c then
      let c := clkFromHeel (wakeEnd 3 c)
      setF Reg.EFL_STATUS.WS (eflWaits low c) (setF Reg.EFL_STATUS.BAND_L (b2n low) c)
    else c
  | .firmware slots => if wakeOpen 4 c then wakeFirmware slots c else c
  | .config nor => if wakeOpen 5 c && !c.waking.cfgBad then wakeConfig nor c else c
  | .rails =>
    if wakeOpen 6 c && c.psq.up.isEmpty && getF Reg.PSQ_STATUS.ORDER_HELD c == 0 && !allSlots.any (slotRising c) then wdiStart (wakeEnd 6 c) else c
  | .calibration mv bad => if wakeOpen 7 c then wakeSeven mv bad c else c
  | .dram chans => if wakeOpen 8 c then wakeDram chans c else c
  | .dies d0 d1 => if wakeOpen 9 c then wakeDies d0 d1 c else c
  | .guest => if wakeOpen 10 c && c.guest.ready && !c.waking.guestFailed then wakeEnd 10 c else c
  | .cxl => if wakeOpen 11 c || lateCxl c then wakeEnd 11 c else c

/-- A step is in progress, or held by a thermal trip or by a firmware reset. -/
def wakeCurrent (n : Nat) (c : Ctl) : Bool :=
  wakeGoes c && !wakeDone c n && (n == 1 || wakeDone c (wakeBefore n)) && decide (1 ≤ n) && decide (n ≤ 10)

/-- A step with a timeout is in progress. -/
def timedStep (c : Ctl) : Bool :=
  [1, 2, 3, 4, 5, 6, 7, 8, 9].any (fun n => wakeCurrent n c) || (wakeCurrent 10 c && guestPresent c)

/-- A thermal trip in Waking holds the step in progress until its timeout (R47). With no such step left, before the lock, Waking ends at once with
the RESULT of a thermal hold (log entry 111). -/
def wakeTrip (c : Ctl) : Ctl :=
  let c := { c with waking := { c.waking with thermalHold := true } }
  if wakeGoes c && !timedStep c then wakeFail 4 12 none c else c

/-- The slot that a timeout of W1 or W6 names. -/
def wakeSlot (n : Nat) (c : Ctl) : Option Nat :=
  if n = 1 then [0, 1].find? (fun k => (railOf c k).st != .ready)
  else if n = 6 then c.psq.up.head? else none

/-- A step exceeds its timeout (R62, R64): W10 closes the guest port only, but under a thermal hold it fails Waking like any other (R47). -/
def wakeTimeout (n : Nat) (c : Ctl) : Ctl :=
  if !wakeCurrent n c then c
  else if n = 10 ∧ !c.waking.thermalHold then (if guestPresent c ∧ !c.waking.guestFailed then w10Fail c else c)
  else if n = 10 ∧ !guestPresent c then c
  else
    let result := if c.waking.thermalHold then 4 else if n = 5 ∧ c.waking.cfgBad then 5 else if n = 9 then 6 else 2
    let slot := wakeSlot n c
    let c := if slot.isNone then railLogPut { railRec 1 9 none c with step := n } c else c
    wakeFail result n slot c

end Sys2Proof.Machine
end

