-- ==== Sys2Proof/Machine/Power.lean ====
section
/-! DEFINITION. Sys2Proof/Machine/Power.lean: power-on, wake, the transitions of the operating state, thermal events, restarts and firmware resets
(R13, R14, R47, R61-R72, R444-R449). -/
namespace Sys2Proof.Machine

/-! Heel and its inputs. -/

def execHeelPowerOn (s : State) : Host.Outcome State Fault Refusal := .next (onCtlW heelPowerOn s)

/-- DRAM loses its content with the supply. -/
def execHeelSupplyLoss (s : State) : Host.Outcome State Fault Refusal := .next ⟨heelSupplyLoss s.ctl, [], [], s.pending⟩

/-- The input has been up for 20 ms in Dormant, with input wake armed and auto-wake enabled (R14). -/
def inputWake (c : Ctl) : Ctl :=
  if c.op = .dormant ∧ c.heel.armed ∧ c.heel.inputUp ∧ getF Reg.HEEL_WAKE_CFG.AUTO_WAKE c = 1 then enterWaking c else c

def execInputWake (s : State) : Host.Outcome State Fault Refusal := .next (onCtlW inputWake s)
def execHeelWakeCmd (v : Nat) (s : State) : Host.Outcome State Fault Refusal := .next (onCtlW (heelWakeKey v) s)

def inputRise (c : Ctl) : Ctl := if c.op = .off then c else { c with heel := { c.heel with inputUp := true } }

def execInputRise (s : State) : Host.Outcome State Fault Refusal := .next (onCtl inputRise s)

/-- The input falls: input wake is armed in every state; Waking ends with RESULT 3 (R63); cause 2 in the running states. -/
def inputFall (c : Ctl) : Ctl :=
  if c.op = .off ∨ !c.heel.inputUp then c
  else
    let c := { c with heel := { c.heel with inputUp := false, armed := true } }
    if c.op = .waking then wakeFail 3 (wakeStepNow c) none c else saveTrigger 2 c

def execInputFall (s : State) : Host.Outcome State Fault Refusal := .next (onCtl inputFall s)

/-- PFAIL_N (R28): not monitored in Dormant, an input fall in Waking, ignored in a save that is no Keep entry and in Saved. -/
def pfailAssert (c : Ctl) : Ctl :=
  match c.op with
  | .off => c
  | .dormant => c
  | .saved => c
  | .waking => wakeFail 3 (wakeStepNow c) none c
  | .saving => if c.save.image.cause = 8 then saveTrigger 1 c else c
  | _ => saveTrigger 1 c

def execPfailAssert (s : State) : Host.Outcome State Fault Refusal := .next (onCtl pfailAssert s)

/-! Waking. -/

def execWakeStepComplete (w : WakeInfo) (s : State) : Host.Outcome State Fault Refusal := .next (onCtl (wakeStep w) s)
def execWakeStepTimeout (n : Nat) (s : State) : Host.Outcome State Fault Refusal := .next (onCtl (wakeTimeout n) s)
def execConfigurationLock (s : State) : Host.Outcome State Fault Refusal := .next (onCtl configurationLock s)

/-! Derated and Keep causes (R13, R447). -/

/-- B has been equal to the configured budget for 60 s with both save dies in service. -/
def derateClear (c : Ctl) : Ctl :=
  if c.op = .derated ∧ bothDies c = true ∧ effB c = getF Reg.DTK_BUDGET_CFG.VALUE c then
    goState .serving (setF Reg.HEEL_DEGRADE.DERATE (derateBits c) c)
  else c

def execDerateClear (s : State) : Host.Outcome State Fault Refusal := .next (onCtl derateClear s)

/-- B has been below MIN_SERVICE for SERVICE_WAIT; in Restoring once the background restore is complete: every frame restored and every image
released (R13, R233). -/
def serviceWait (c : Ctl) : Ctl :=
  if !fwRunning c ∨ getF Reg.DTK_BUDGET_MIN.VALUE c ≤ effB c ∨ (c.op = .restoring ∧ restoreEnded c = false) then c else keepCause 1 c

def execServiceWaitExpiry (s : State) : Host.Outcome State Fault Refusal := .next (onCtl serviceWait s)

/-- A source head has been held by the budget with no frame cleaned for SERVICE_WAIT. -/
def stallWait (c : Ctl) : Ctl :=
  if fwRunning c && (heldByBudget c .h0 || heldByBudget c .h1 || heldByBudget c .guest) then keepCause 2 c else c

def execStallWaitExpiry (s : State) : Host.Outcome State Fault Refusal := .next (onCtl stallWait s)

/-! Thermal (R47, R447). Dies: 0 hub, 1 S0, 2 S1. -/

/-- The highest reading of a die is known anew. -/
def setTemp (die : Nat) (t : Int) (c : Ctl) : Ctl :=
  let l := [c.heel.temps.getD 0 0, c.heel.temps.getD 1 0, c.heel.temps.getD 2 0]
  { c with heel := { c.heel with temps := l.set die t } }

/-- DATA of the thermal events: die and temperature (R454). -/
def thermalData (die : Nat) (t : Int) : Nat := die + fieldOf 8 t * 256

def thermalKeep (die : Nat) (t : Int) (c : Ctl) : Ctl :=
  if !hubPowered c ∨ t ≤ 105 then c
  else keepCause 3 (logEvent 0x0B03 11 3 (thermalData die t) (setTemp die t c))

def execThermalKeep (die : Fin 3) (t : Int) (s : State) : Host.Outcome State Fault Refusal := .next (onCtl (thermalKeep die.val t) s)

/-- Every hub and save-die sensor has stayed at or below 95 °C for 60 s. -/
def thermalKeepClear (hub s0 s1 : Int) (c : Ctl) : Ctl :=
  if !hubPowered c ∨ 95 < hub ∨ 95 < s0 ∨ 95 < s1 then c
  else
    let c := setTemp 0 hub (setTemp 1 s0 (setTemp 2 s1 c))
    setF Reg.HEEL_DEGRADE.KEEP (bitClr (getF Reg.HEEL_DEGRADE.KEEP c) 3) c

def execThermalKeepClear (hub s0 s1 : Int) (s : State) : Host.Outcome State Fault Refusal := .next (onCtl (thermalKeepClear hub s0 s1) s)

def thermalWarning (die : Nat) (t : Int) (c : Ctl) : Ctl :=
  if !hubPowered c ∨ t < 95 then c else sbAlertSource 6 (logEvent 0x0B02 11 2 (thermalData die t) (setTemp die t c))

def execThermalWarning (die : Fin 3) (t : Int) (s : State) : Host.Outcome State Fault Refusal := .next (onCtl (thermalWarning die.val t) s)

/-- A trip: a trigger in the running states; in Waking it holds the step in progress; a save in progress is not changed but for its flag. -/
def thermalTrip (die : Nat) (t : Int) (c : Ctl) : Ctl :=
  if !hubPowered c ∨ t < 115 then c
  else
    let c := logEvent 0x0B04 11 4 (thermalData die t) (setTemp die t c)
    let c := { c with heel := { c.heel with thermal := true } }
    match c.op with
    | .waking => wakeTrip c
    | .saving => saveTrigger 6 { c with save := { c.save with image := { c.save.image with thermal := true } } }
    | _ => saveTrigger 6 c

def execThermalTrip (die : Fin 3) (t : Int) (s : State) : Host.Outcome State Fault Refusal := .next (onCtl (thermalTrip die.val t) s)

/-! Commands, restarts and resets (R66-R72). -/

def execHeelSaveCmd (v : Nat) (s : State) : Host.Outcome State Fault Refusal := .next (onCtl (heelSaveKey v) s)
def execHubRestart (v : Nat) (s : State) : Host.Outcome State Fault Refusal := .next (onCtlW (hubRestartKey v) s)
def execHubFwReset (v : Nat) (s : State) : Host.Outcome State Fault Refusal := .next (onCtl (hubFwResetKey v) s)
def execCoreWatchdog (s : State) : Host.Outcome State Fault Refusal := .next (onCtl (fwReset 1) s)

def execJtagDebugRequest (s : State) : Host.Outcome State Fault Refusal :=
  .next (onCtl (fun c => if hubPowered c && fwRunning c then fwReset 3 { c with heel := { c.heel with trstLow := false } } else c) s)

/-- TRST_N low: only the JTAG TAP is reset. -/
def execTrstLow (s : State) : Host.Outcome State Fault Refusal :=
  .next (onCtl (fun c => if c.op = .off then c else { c with heel := { c.heel with trstLow := true } }) s)

/-- Commands that a firmware reset has cut off are completed with Firmware Reset; an activation completes with Success (R387, R404). -/
def closeCut (c : Ctl) : Ctl :=
  let act := c.mbx.running.filter (fun o => o.opcode == 0x0202)
  let cut := c.mbx.running.filter (fun o => o.opcode != 0x0202)
  let c := cut.foldl (fun c o => if 0xC000 ≤ o.opcode then vendorReply o.head o.tag o.era stFwReset 0 o.seq [] c else cxlReply o.head rcAborted o.tag [] c) c
  let c := act.foldl (fun c o =>
    cxlReply o.head rcSuccess o.tag [] (journalClose o.seq 1 stOk rcSuccess 0 true (updMbx (fun m => { m with provEnd := some (c.uptime + 60000000000) }) c))) c
  updMbx (fun m => { m with running := [], jrnl := m.jrnl.map (fun e => if e.st = 0 then { e with st := 2, status := stFwReset, rc := rcAborted } else e) }) c

/-- The firmware runs again: it recomputes the budget, records the reset, and takes up what has waited. -/
def fwBack (slot : Nat) (c : Ctl) : Ctl :=
  let cause := getF Reg.HUB_RESET_CAUSE.FW_CMD c + 2 * getF Reg.HUB_RESET_CAUSE.FW_WDOG c + 4 * getF Reg.HUB_RESET_CAUSE.FW_ACTIVATE c
    + 8 * getF Reg.HUB_RESET_CAUSE.FW_DEBUG c
  let c := setF Reg.HUB_DOMAIN_STATUS.CORE_RUN 15 (setF Reg.HUB_FW_RESET_COUNT.FAILED_RUN 0 (updMbx (fun m => { m with fwSlot := slot }) c))
  let c := logEvent 0x0101 1 1 (cause + getF Reg.HUB_FW_RESET_COUNT.TOTAL c * 65536) c
  let c := closeCut c
  let c := if c.welt.compactJseq.isNone then setF Reg.DTK_WELT_STATUS.COMPACTING 0 { c with welt := { c.welt with compact := none } } else c
  let c := eUseRecompute (freeFolded c)
  let c := if c.dtk.fwAt.isSome then budgetRecompute false c else c
  bankNext (calStorePending c)

/-- A restart of the firmware after a reset: verified as in W4. A failed one in the provisional period rolls back; the third in a row is a
fault. It does not restart in a save (R72). -/
def firmwareRestart (good : Bool) (c : Ctl) : Ctl :=
  if !hubPowered c ∨ fwRunning c = true ∨ !wakeDone c 4 ∨ c.op = .saving ∨ c.op = .saved then c
  else
    let slot := c.ef.bootSlot
    let ok := good && (match fwSlotOf c slot with | some p => fwValid c p | none => false)
    if ok then fwBack slot c
    else
      let c := rollBack (addF Reg.HUB_FW_RESET_COUNT.FAILED_RUN c)
      if 3 ≤ getF Reg.HUB_FW_RESET_COUNT.FAILED_RUN c then restart (logEvent 0x0102 1 3 (getF Reg.HUB_FW_RESET_COUNT.FAILED_RUN c) c) else c

def execFirmwareRestart (good : Bool) (s : State) : Host.Outcome State Fault Refusal := .next (onCtl (firmwareRestart good) s)

/-- A save-die core watchdog resets its die, which leaves service; before W9 it is missing there. -/
def saveDieWatchdog (d : Nat) (c : Ctl) : Ctl :=
  if !hubPowered c then c
  else if dieInService c d then dieLeaves d 2 c
  else if c.op = .waking ∧ !wakeDone c 9 then
    let c := saveDieReset d { c with waking := { c.waking with missing := bitSet c.waking.missing d, fw := bitClr c.waking.fw d } }
    setF (if d = 0 then Reg.HUB_RESET_CAUSE.S0 else Reg.HUB_RESET_CAUSE.S1) 1
      (if d = 0 then setF Reg.SAV_KEY.LOADED_S0 0 c else setF Reg.SAV_KEY.LOADED_S1 0 c)
  else c

def execSaveDieWatchdog (d : Fin 2) (s : State) : Host.Outcome State Fault Refusal := .next (onCtl (saveDieWatchdog d.val) s)

/-- A sticky hub fault requests a restart (R445). -/
def stickyFault (unit word : Nat) (c : Ctl) : Ctl :=
  if hubPowered c then restart (logEvent 0x0103 1 4 (unit % 65536 + word * 65536) c) else c

def execStickyHubFault (unit word : Nat) (s : State) : Host.Outcome State Fault Refusal := .next (onCtl (stickyFault unit word) s)

/-- The fclk PLL has not relocked: the save cannot run and ends unsealed (R216, R445). -/
def fclkTimeout (c : Ctl) : Ctl :=
  if c.op = .saving ∧ (wholeDown c).isNone then endUnsealed (savePipesEnd c) else c

def execFclkRelockTimeout (s : State) : Host.Outcome State Fault Refusal := .next (onCtl fclkTimeout s)

end Sys2Proof.Machine
end

