-- ==== Sys2Proof/Machine/SaveDie.lean ====
section
/-! DEFINITION. Sys2Proof/Machine/SaveDie.lean: the Perud messages that bring a save die into service (R19, R219, R360). -/
namespace Sys2Proof.Machine

/-- The hub sends the save-die image of the slot that it booted (R19, R401). -/
def fwLoad (d : Nat) (c : Ctl) : Ctl :=
  if c.op = .waking ∧ wakeGoes c = true ∧ wakeDone c 7 = true ∧ linkLive c d = true then
    sendLink d .fwLoad [c.mbx.fwSlot] [] { c with
      waking := { c.waking with fw := bitSet c.waking.fw d }
      mbx := { c.mbx with sdSlot := c.mbx.fwSlot } }
  else c

def execFwLoad (d : Fin 2) (s : State) : Host.Outcome State Fault Refusal := .next (onCtl (fwLoad d.val) s)

/-- The hub sends the media key of the generation in force (R219); in Waking the die must run its image. -/
def keyLoad (d : Nat) (c : Ctl) : Ctl :=
  if hubPowered c && linkLive c d && (dieInService c d || (c.op == .waking && c.waking.fw.testBit d)) then
    keyGo d (setF (if d = 0 then Reg.SAV_KEY.LOADED_S0 else Reg.SAV_KEY.LOADED_S1) 1 c)
  else c

def execKey (d : Fin 2) (s : State) : Host.Outcome State Fault Refusal := .next (onCtl (keyLoad d.val) s)

/-- The hub tells a save die that the other is out of service (R215, R360). -/
def service (d : Nat) (c : Ctl) : Ctl :=
  if hubPowered c && dieInService c d && !dieInService c (1 - d) && linkLive c d then sendLink d .service [1 - d] [] c else c

def execService (d : Fin 2) (s : State) : Host.Outcome State Fault Refusal := .next (onCtl (service d.val) s)

end Sys2Proof.Machine
end

