-- ==== Sys2Proof/Machine/Sideband.lean ====
section
/-! DEFINITION. Sys2Proof/Machine/Sideband.lean: the meanings of the commands of the sideband bus (16_sideband_bus.md). -/
namespace Sys2Proof.Machine

def hubServing (c : Ctl) : Bool := getF Reg.HEEL_SB_STATUS.HUB_SERVING c == 1
def sbPage (c : Ctl) : Nat := getF Reg.HEEL_SB_STATUS.PAGE c
def sbI2c (c : Ctl) : Bool := getF Reg.HEEL_SB_CFG.I2C c == 1
def sbPec (c : Ctl) : Bool := !sbI2c c && getF Reg.HEEL_SB_CFG.PEC_EN c == 1

/-- The data bytes of a read transfer with PEC (R415). -/
def pecLen (c : Ctl) : Nat :=
  match getF Reg.HEEL_SB_CFG.PEC_RD_LEN c with
  | 0 => 1
  | 1 => 2
  | _ => 4

/-- Some side answers the bus (R411). -/
def sbAnswers (c : Ctl) : Bool := c.op != .off

def setPtr (p : Nat) (c : Ctl) : Ctl := setF Reg.HEEL_SB_STATUS.POINTER p c

/-! The CRC-8 of SMBus 3.2 (R415): polynomial x^8 + x^2 + x + 1. -/
def crc8Bit (c : Nat) : Nat := if 128 ≤ c then ((c - 128) * 2) ^^^ 7 else c * 2
def crc8Byte (c : Nat) (b : Byte) : Nat :=
  crc8Bit (crc8Bit (crc8Bit (crc8Bit (crc8Bit (crc8Bit (crc8Bit (crc8Bit (c ^^^ b.toNat))))))))
def crc8 (bs : List Byte) : Nat := bs.foldl crc8Byte 0

/-- The management address of a word of the page in force, when the page serves it (R411, R412). -/
def sbMpa (c : Ctl) (word : Nat) : Option Nat :=
  if word % 256 ≥ 0xFC then none
  else if word / 256 = 0 then (if hubServing c then some (0xF0000 + word % 256) else none)
  else if word / 256 = 1 then some (0xB0000 + word % 256)
  else none

/-! Indirect access (R416). -/

def indMpa (c : Ctl) : Nat := getF Reg.SBB_IND_ADDR.WORD c * 4

/-- AUTO_INC moves WORD by 1 after each indirect access. -/
def indNext (c : Ctl) : Ctl :=
  if getF Reg.SBB_IND_ADDR.AUTO_INC c = 1 then setF Reg.SBB_IND_ADDR.WORD (getF Reg.SBB_IND_ADDR.WORD c + 1) c else c

/-- The outcome of an access at a management address before it is made: 3 outside the blocks, 1 not reachable. -/
def indBefore (mpa : Nat) (c : Ctl) : Nat :=
  if !mpaInBlock mpa then 3 else if !mpaReachable .sideband mpa c then 1 else 0

/-- One indirect read; `late` says that no value came within 50 µs. -/
def indRead (late : Bool) (c : Ctl) : Nat × Ctl :=
  let mpa := indMpa c
  let e := indBefore mpa c
  let e := if e = 0 ∧ late then 2 else e
  let p := if e ≠ 0 then (0xFFFFFFFF, c)
    else if mpa = 0xF0008 ∨ mpa = 0xF000C then (0, c)
    else regRead .sideband mpa c
  (p.1, indNext (setF Reg.SBB_IND_DATA.DATA p.1 (setF Reg.SBB_STATUS.IND_ERR e p.2)))

/-- One indirect write. -/
def indWrite (v : Nat) (c : Ctl) : Ctl :=
  let mpa := indMpa c
  let e := indBefore mpa c
  let e := if e = 0 ∧ regRestricted .sideband mpa then 4 else e
  let c := if e ≠ 0 ∨ mpa = 0xF0008 ∨ mpa = 0xF000C then c else regWrite .sideband mpa v c
  indNext (setF Reg.SBB_STATUS.IND_ERR e c)

/-! Bytes (R413, R414). -/

/-- Take a snapshot of a word into the read latch. -/
def sbSnapshot (late : Bool) (word : Nat) (c : Ctl) : Nat × Ctl :=
  match sbMpa c word with
  | none => (0, c)
  | some mpa =>
    let p := if mpa = 0xF000C then indRead late c else regRead .sideband mpa c
    (p.1, { p.2 with sbb := { p.2.sbb with latch := some (word, p.1) } })

/-- Read the byte at pointer `p` of the page in force. -/
def sbReadByte (p : Nat) (c : Ctl) : Byte × Ctl :=
  if p = 0xFF then (BitVec.ofNat 8 (sbPage c), c)
  else
    let word := sbPage c * 256 + p / 4 * 4
    let r := match c.sbb.latch with
      | some (w, v) => if w = word ∧ p % 4 ≠ 0 then (v, c) else sbSnapshot false word c
      | none => sbSnapshot false word c
    (BitVec.ofNat 8 (r.1 / 2 ^ (8 * (p % 4))), r.2)

/-- Commit one 32-bit write: the latch is released; SBB_IND_DATA performs an indirect write. -/
def sbCommit (word v : Nat) (c : Ctl) : Ctl :=
  let c := { c with sbb := { c.sbb with staged := none, latch := none } }
  match sbMpa c word with
  | none => c
  | some mpa => if mpa = 0xF000C then indWrite v c else regWrite .sideband mpa v c

/-- Stage a byte for its word; byte 3 commits. -/
def sbStage (word i : Nat) (b : Byte) (c : Ctl) : Ctl :=
  let other := match c.sbb.staged with
    | some s => s.word != word
    | none => false
  let c := if other && hubServing c then addF Reg.SBB_BUS_COUNTS.DISCARDED c else c
  let s : Staged := match c.sbb.staged with
    | some s => if s.word = word then s else ⟨word, 0, 0, 0⟩
    | none => ⟨word, 0, 0, 0⟩
  let v := s.bytes - bitsOf s.bytes (8 * i) 8 * 2 ^ (8 * i) + b.toNat * 2 ^ (8 * i)
  if i = 3 then sbCommit word v c
  else { c with sbb := { c.sbb with staged := some ⟨word, v, bitSet s.mask i, bitSet s.mine i⟩ } }

/-- Write a byte at the pointer, which moves on; a write of the page byte goes on at pointer 0 of the new page. -/
def sbWriteByte (b : Byte) (c : Ctl) : Ctl :=
  let p := getF Reg.HEEL_SB_STATUS.POINTER c
  if p = 0xFF then
    setPtr 0 (if b.toNat ≤ 1 then setF Reg.HEEL_SB_STATUS.PAGE b.toNat c else c)
  else
    let word := sbPage c * 256 + p / 4 * 4
    setPtr (p + 1) (if (sbMpa c word).isSome then sbStage word (p % 4) b c else c)

/-- The bytes of a write transfer: the first sets the pointer. -/
def sbWriteBytes (bs : List Byte) (c : Ctl) : Ctl :=
  match bs with
  | [] => c
  | p :: ds => ds.foldl (fun c b => sbWriteByte b c) (setPtr p.toNat c)

/-- `n` bytes from the pointer on. -/
def sbReadBytes : Nat → Nat → Ctl → List Byte × Ctl
  | 0, _, c => ([], c)
  | n + 1, p, c =>
    let r := sbReadByte p c
    let rest := sbReadBytes n ((p + 1) % 256) r.2
    (r.1 :: rest.1, rest.2)

/-- Heel is the side that answers: in Dormant, and once the down order has reached slot 1 (R411). -/
def heelSide (c : Ctl) : Bool :=
  c.op == .dormant || (match wholeDown c with | some o => o.left.all (fun n => decide (n ≤ 1)) | none => false)

/-- The next STOP passes the answer to the hub: W2 has completed (R411). -/
def handoffDue (c : Ctl) : Bool := !hubServing c && c.op != .off && !heelSide c && (c.op != .waking || wakeDone c 2)

/-- STOP: a new address takes effect (R410), the next transfer has staged nothing yet, and a due handoff to the hub takes place (R411). -/
def sbStop (c : Ctl) : Ctl :=
  let c := { c with sbb := { c.sbb with addr := getF Reg.HEEL_SB_CFG.ADDR c, staged := c.sbb.staged.map (fun s => { s with mine := 0 }) } }
  if handoffDue c then sbHandoffTo true false c else c

def addrW (c : Ctl) : Byte := BitVec.ofNat 8 (c.sbb.addr * 2)
def addrR (c : Ctl) : Byte := BitVec.ofNat 8 (c.sbb.addr * 2 + 1)

/-- SB_WRITE_TRANSFER: a write transfer to an address, with the bytes after the address; with PEC the last byte is the PEC and the
bytes are applied at STOP (R413, R415). -/
def execSbWriteTransfer (addr : Nat) (bytes : List Byte) (s : State) : Host.Outcome State Fault Refusal :=
  .next (onCtlW (fun c =>
    if !sbAnswers c then c
    else if addr ≠ c.sbb.addr then sbStop c
    else if !sbPec c then sbStop (sbWriteBytes bytes c)
    else if 34 < bytes.length ∨ bytes = [] then sbStop c
    else if crc8 (addrW c :: bytes.dropLast) = (bytes.getLast?.getD 0).toNat then sbStop (sbWriteBytes bytes.dropLast c)
    else sbStop (if hubServing c then addF Reg.SBB_BUS_COUNTS.PEC_ERRORS c else c)) s)

/-- SB_READ_TRANSFER: a read transfer of `n` bytes, after a pointer write and a repeated START when `ptr` is given (R413-R415). -/
def execSbReadTransfer (addr : Nat) (ptr : Option Nat) (n : Nat) (s : State) : Host.Outcome State Fault Refusal :=
  .next (onCtl (fun c =>
    if !sbAnswers c then c
    else if addr ≠ c.sbb.addr then sbStop c
    else
      let head := match ptr with
        | some p => [addrW c, BitVec.ofNat 8 p, addrR c]
        | none => [addrR c]
      let c := match ptr with
        | some p => setPtr (p % 256) c
        | none => c
      let p := getF Reg.HEEL_SB_STATUS.POINTER c
      let m := if sbPec c then min n (pecLen c) else n
      let r := sbReadBytes m p c
      let out := if sbPec c then
          (r.1 ++ (if pecLen c < n then [BitVec.ofNat 8 (crc8 (head ++ r.1))] else []) ++ List.replicate (n - (pecLen c + 1)) 0xFF)
        else r.1
      sbStop (send ⟨.sideband, .sbByte, [addr], out⟩ (setPtr ((p + m) % 256) r.2))) s)

/-- SB_QUICK_COMMAND: the address is acknowledged, in SMBus mode, and nothing else happens (R409). -/
def execSbQuickCommand (addr : Nat) (s : State) : Host.Outcome State Fault Refusal :=
  .next (onCtl (fun c =>
    if !sbAnswers c then c
    else sbStop (if addr = c.sbb.addr ∧ !sbI2c c then send ⟨.sideband, .sbByte, [addr], []⟩ c else c)) s)

/-- SBB_IND_READ: a snapshot of SBB_IND_DATA; `late` when no value came within 50 µs (R416). -/
def execSbbIndRead (late : Bool) (s : State) : Host.Outcome State Fault Refusal :=
  .next (onCtl (fun c => if hubServing c then (sbSnapshot late 0x0C c).2 else c) s)

/-- SBB_IND_WRITE: a commit of SBB_IND_DATA with a value (R416). -/
def execSbbIndWrite (v : Word) (s : State) : Host.Outcome State Fault Refusal :=
  .next (onCtlW (fun c => if hubServing c then sbCommit 0x0C v.toNat c else c) s)

/-- SB_HANDOFF: to the hub at a STOP of other traffic once W2 has completed; to Heel when the down order reaches slot 1 and in Dormant (R411).
`cut` says that a transfer was in progress. -/
def execSbHandoff (cut : Bool) (s : State) : Host.Outcome State Fault Refusal :=
  .next (onCtl (fun c =>
    if hubServing c then (if heelSide c then sbHandoffTo false cut c else c)
    else if handoffDue c then sbStop c
    else c) s)

/-- SB_CLOCK_LOW_TIMEOUT: SCL held low for 25 ms ends a write transfer of which `bytes` had arrived; its staged bytes are
discarded (R417). Not in I2C mode. -/
def execSbClockLowTimeout (bytes : List Byte) (s : State) : Host.Outcome State Fault Refusal :=
  .next (onCtlW (fun c =>
    if !sbAnswers c || sbI2c c then c
    else
      let c := if sbPec c then c else sbWriteBytes bytes c
      let left := match c.sbb.staged with
        | some st => if st.mask - (st.mask &&& st.mine) = 0 then none else some { st with mask := st.mask - (st.mask &&& st.mine), mine := 0 }
        | none => none
      let c := { c with sbb := { c.sbb with staged := left } }
      if hubServing c then addF Reg.SBB_BUS_COUNTS.TIMEOUTS c else addF Reg.HEEL_SB_STATUS.ABORTS c) s)

/-- ALERT_RESPONSE_ADDRESS: a read of address 0x0C, won or lost in arbitration (R419). -/
def execAlertResponseAddress (won : Bool) (s : State) : Host.Outcome State Fault Refusal :=
  .next (onCtl (fun c =>
    if c.sbb.alertLow && !sbI2c c then
      (if won then addF Reg.SBB_BUS_COUNTS.ARA_WON (sbRelease (send ⟨.sideband, .sbByte, [0x0C], [addrW c]⟩ c)) else c)
    else c) s)

/-- SB_ALERT_ASSERT: COALESCE ends with an alert waiting, and SB_ALERT_N goes low (R419). -/
def execSbAlertAssert (s : State) : Host.Outcome State Fault Refusal :=
  .next (onCtl (fun c => if c.sbb.alertWait && !c.sbb.alertLow && c.op != .dormant then sbAssert c else c) s)

/-- SBB_ALERT_PEND_CLEAR: a W1C write of SBB_ALERT_PEND (R419). -/
def execSbbAlertPendClear (v : Word) (s : State) : Host.Outcome State Fault Refusal :=
  .next (onCtl (fun c => if hubPowered c then sbPendClear v.toNat c else c) s)

/-- The data word of a notify (R420): it carries the number it will have when it is acknowledged (log entry 11). -/
def notifyWord (c : Ctl) : Nat :=
  (getF Reg.SBB_ALERT_PEND.PEND c &&& getF Reg.SBB_ALERT_CFG.MASK c) + opCode c.op * 256 + (getF Reg.SBB_NOTIFY_STATUS.SEQ c + 1) % 16 * 4096

/-- The device may start a notify (R420): the hub answers the bus, and a source waits with no notify within the last COALESCE, or a notify that lost
arbitration waits for its retry (R421). -/
def notifyStarts (c : Ctl) : Bool :=
  hubServing c && c.op != .dormant
  && ((c.sbb.notify == 1 && (match c.sbb.notified with | none => true | some t => decide (t + getF Reg.SBB_ALERT_CFG.COALESCE c * 1000000 ≤ c.uptime)))
    || c.sbb.notify == 3)

/-- A notify is sent, and acknowledged through its last byte or not (R420). -/
def notifySend (acked : Bool) (c : Ctl) : Ctl :=
  let c := send ⟨.sideband, .hostNotify, [0x10, c.sbb.addr * 2, notifyWord c], []⟩ { c with sbb := { c.sbb with notified := some c.uptime } }
  if acked then
    setF Reg.SBB_NOTIFY_STATUS.SEQ (getF Reg.SBB_NOTIFY_STATUS.SEQ c + 1) { c with sbb := { c.sbb with notify := 0, tries := 0 } }
  else
    let c := addF Reg.SBB_NOTIFY_STATUS.NACKED c
    if c.sbb.tries < 3 then { c with sbb := { c.sbb with notify := 2, tries := c.sbb.tries + 1 } }
    else addF Reg.SBB_NOTIFY_STATUS.ABANDONED { c with sbb := { c.sbb with notify := 0, tries := 0 } }

/-- HOST_NOTIFY: the notify that waits is sent (R420). -/
def execHostNotify (acked : Bool) (s : State) : Host.Outcome State Fault Refusal :=
  .next (onCtl (fun c => if notifyStarts c then notifySend acked c else c) s)

/-- HOST_NOTIFY_RETRY: 10 ms after a NACK the notify is sent again with the data current then (R420). -/
def execHostNotifyRetry (acked : Bool) (s : State) : Host.Outcome State Fault Refusal :=
  .next (onCtl (fun c => if hubServing c && c.op != .dormant && c.sbb.notify == 2 then notifySend acked c else c) s)

/-- ARBITRATION_LOST: the device loses as controller and becomes target; the notify is sent again after the next STOP, whatever COALESCE says (R421).
Where the address byte was the device's own, the transfer itself is a command of its own. -/
def execArbitrationLost (s : State) : Host.Outcome State Fault Refusal :=
  .next (onCtl (fun c =>
    if notifyStarts c || (hubServing c && c.op != .dormant && c.sbb.notify == 2) then
      addF Reg.SBB_NOTIFY_STATUS.ARB_LOST { c with sbb := { c.sbb with notify := 3 } }
    else c) s)

end Sys2Proof.Machine
end

