-- ==== Sys2Proof/Machine/Vendor.lean ====
section
/-! DEFINITION. Sys2Proof/Machine/Vendor.lean: the Jarica vendor commands (15_mailbox_and_command_journal.md), the release drain of R452
and HEEL_RESTORE_TGT. A command whose doorbell is set while the firmware does not run changes nothing else (R387). -/
namespace Sys2Proof.Machine

/-! Information. -/

/-- Get Jarica Info (R388): ten registers, then 24 reserved bytes. -/
def jaricaInfo (c : Ctl) : List Byte :=
  ([0xE002C, 0xE0034, 0x90030, 0x10010, 0x10014, 0x10018, 0xE0030, 0xE0000, 0xB0000, 0xB0050].map (fun a => leBytes (regValue a c) 4)).flatten
    ++ List.replicate 24 0

def execGetJaricaInfo (h : HeadId) (tag era : Nat) (s : State) : Host.Outcome State Fault Refusal :=
  .next (onCtl (vendorPlain h tag era (fun c => { answered c stOk 0 false with data := jaricaInfo c })) s)

/-- The number of the oldest entry. -/
def oldestSeq (c : Ctl) : Nat := match c.mbx.jrnl.getLast? with | some e => e.seq | none => 0

def newestSeq (c : Ctl) : Nat := match c.mbx.jrnl with | e :: _ => e.seq | [] => 0

/-- Get Journal (R398): the summary and up to MAX entries from START_SEQ on, in SEQ order, of all heads or of one. -/
def journalData (start max filter : Nat) (c : Ctl) : List Byte :=
  let es := (c.mbx.jrnl.reverse.filter (fun e => decide (start ≤ e.seq) && (filter == 0 || e.head.val + 1 == filter))).take max
  leBytes (newestSeq c) 8 ++ leBytes (oldestSeq c) 8 ++ leBytes es.length 4
    ++ leBytes (b2n (decide (start < oldestSeq c)) + b2n c.mbx.lost * 2) 4 ++ (es.map jnlBytes).flatten

def execGetJournal (h : HeadId) (tag era start max filter : Nat) (s : State) : Host.Outcome State Fault Refusal :=
  .next (onCtl (vendorPlain h tag era (fun c =>
    if max = 0 ∨ 2040 < max ∨ 2 < filter then answered c stRefused 0 false
    else { answered c stOk 0 false with data := journalData start max filter c })) s)

/-- Read Integrator Data (R388): a part of the instance-th section of type 0x000F. -/
def execReadIntegratorData (h : HeadId) (tag era inst off len : Nat) (s : State) : Host.Outcome State Fault Refusal :=
  .next (onCtl (vendor 0xC017 h tag era (leBytes inst 1 ++ leBytes off 4 ++ leBytes len 4) false anyState false false (fun _ c =>
    match (c.cfg.map (fun m => m.integrator.getD inst [])) with
    | none => answered c stRefused 0 false
    | some d => if 65504 < len ∨ d = [] then answered c stRefused 0 false
      else { answered c stOk 0 false with data := (d.drop off).take len })) s)

/-- Get Diagnostics (R388): a run of registers from a block base, each read as a BAR 2 read would. -/
def execGetDiagnostics (h : HeadId) (tag era mpa count : Nat) (s : State) : Host.Outcome State Fault Refusal :=
  .next (onCtl (vendor 0xC050 h tag era (leBytes mpa 4 ++ leBytes count 2) false anyState false false (fun _ c =>
    if !mpaInBlock mpa ∨ mpa % 4 ≠ 0 then answered c stRefused 1 false
    else if 4096 < count then answered c stRefused 0 false
    else
      let r := (List.range count).foldl (fun (x : Ctl × List Byte) i =>
        let v := regRead .bar2 (mpa + 4 * i) x.1
        (v.2, x.2 ++ leBytes v.1 4)) (c, [])
      { answered r.1 stOk 0 false with data := r.2 })) s)

/-! Sessions (R385). -/

/-- Open Session: the new era is one to eight ahead of the era in force, or no session has been opened since the journal was formed. -/
def openSession (h : HeadId) (tag era : Nat) (c : Ctl) : Ctl :=
  if !reachable c h then c
  else if !fwRunning c then ringDoorbell h c
  else
    let c := takeDoorbell h c
    let e := era % 16
    let d := (e + 16 - sessionEra c h) % 16
    if sessionOpen c h ∧ ¬ (1 ≤ d ∧ d ≤ 8) then vendorReply h tag e stStaleEra 0 0 [] c
    else match earlierEntry h tag e c with
    | some x => vendorReply h tag e stDuplicate x.status x.seq [] c
    | none =>
      let seq := c.mbx.nextSeq
      let c := journalOpen 0xC001 h tag e (crc32 []) c
      let c := updMbx (fun m => if h = 0 then { m with era0 := e, open0 := true } else { m with era1 := e, open1 := true }) c
      vendorReply h tag e stOk 0 seq [] (journalClose seq 1 stOk rcSuccess 0 true c)

def execOpenSession (h : HeadId) (tag era : Nat) (s : State) : Host.Outcome State Fault Refusal := .next (onCtl (openSession h tag era) s)

/-! Configuration staging (R58, R59, R389). -/

/-- The copy that is not active: `true` B. -/
def inactiveCopy (c : Ctl) : Bool := getF Reg.HUB_CFG_STATUS.ACTIVE_COPY c == 0

/-- The directory in use (R51). -/
def dirInUse (c : Ctl) : Directory := if getF Reg.HUB_CFG_STATUS.DIR_DUP c = 1 then c.nor.duplicate else c.nor.primary

def putInactive (m : ImageCopy) (c : Ctl) : Ctl :=
  { c with nor := if inactiveCopy c then { c.nor with copyB := m } else { c.nor with copyA := m } }

/-- Checks 2 to 5 of R55 on a header to be staged, then GENERATION above that of the active copy: REJECT code. -/
def stageReject (m : ImageCopy) (c : Ctl) : Nat :=
  let r := dirRegion (dirInUse c) (inactiveCopy c)
  if !regionOk c.nor (dirInUse c) (inactiveCopy c) then 1
  else if m.magic ≠ 0x49435058 then 2
  else if m.formatVersion ≠ 1 ∨ m.headerSize ≠ 0x100 ∨ m.sigAlg ≠ 1 ∨ r.2 < m.imageSize then 3
  else if m.part ≠ 0x8640 ∨ (variantS c && !m.validS) ∨ (!variantS c && !m.validG)
      ∨ getF Reg.HUB_STEPPING.HUB c < m.hubStepping ∨ dieStepping c < m.dieStepping then 4
  else if m.generation < c.ef.genFloor ∨ m.generation ≤ getF Reg.HUB_CFG_GEN.VALUE c then 5
  else 0

/-- The 256-byte header of an image (R52), and nothing behind it. -/
def headerOf (b : List Byte) : ImageCopy :=
  let at_ := fun (o n : Nat) => leNat ((b.drop o).take n)
  let target := at_ 0x10 4
  ⟨at_ 0 4, at_ 4 2, at_ 6 2, at_ 8 4, at_ 0xC 4, target % 65536, target.testBit 16, target.testBit 17, target / 2 ^ 20 % 16, target / 2 ^ 24 % 16,
    at_ 0x16 1, at_ 0x17 1, false, false, false, none, [], [], [], [], []⟩

/-- Another head owns the staging. -/
def stageBusy (h : HeadId) (c : Ctl) : Bool := staging c && c.mbx.stage.head != h

/-- A header with no body behind it: its signature block is not there yet (R59: REJECT 0x7). -/
def headerOnly (m : ImageCopy) : ImageCopy :=
  { m with signatureGood := false, digestGood := false, parses := false, sections := [], vals := [], badBlocks := [], integrator := [], seeds := [] }

/-- A copy of which every byte has been programmed and whose read-back has not passed: header and signature block are whole, and it is still
invalid (R59, R389). The model leaves it failing the check of the body, 0x8 (log entry 110). -/
def bodyUnread (c : Ctl) (m : ImageCopy) : ImageCopy :=
  { headerOnly m with
    signatureGood := true, sections := [⟨1, true⟩]
    vals := match (c.fuses[m.keySlot]?).bind (·.hash) with | some k => mapSet 0 [] Img.KEY_HASH.key k | none => [] }

def stageStart (h : HeadId) (hdr : ImageCopy) (sizeCheck : Nat) (c : Ctl) : MbxResult :=
  if stageBusy h c then answered c stBusy 0 false else
    let r := if sizeCheck ≠ hdr.imageSize then 3 else stageReject hdr c
    if r ≠ 0 then answered (updMbx (fun m => { m with stage := { m.stage with reject := r } }) c) stRefused r false
    else
      let c := setF Reg.HUB_CFG_STATUS.STAGED 0 (putInactive ImageCopy.erased c)
      answered (updMbx (fun m => { m with stage := ⟨2, h, 0, 0, headerOnly hdr, c.uptime⟩ }) c) stOk 0 true

def execStageStart (h : HeadId) (tag era : Nat) (hdr : List Byte) (sizeCheck : Nat) (s : State) : Host.Outcome State Fault Refusal :=
  .next (onCtl (vendor 0xC010 h tag era (hdr ++ leBytes sizeCheck 4) true stageStates true false (fun _ => stageStart h (headerOf hdr) sizeCheck)) s)

def stageData (h : HeadId) (off : Nat) (data : List Byte) (good : Bool) (c : Ctl) : MbxResult :=
  if stageBusy h c then answered c stBusy 0 false
  else if c.mbx.stage.st ≠ 2 then answered c stSequence 0 false
  else
    let g := c.mbx.stage
    let n := data.length
    if off ≠ g.bytes then answered c stSequence g.bytes false
    else if g.hdr.imageSize < off + n then answered c stRefused 2 false
    else if n = 0 ∨ 61440 < n ∨ (n % 4096 ≠ 0 ∧ off + n ≠ g.hdr.imageSize) then answered c stRefused 2 false
    else if !good then answered (abortStage false c) stMedia 0 false
    else
      let b := off + n
      let c := putInactive (if b < 256 then ImageCopy.erased else if b < g.hdr.imageSize then g.hdr else bodyUnread c g.hdr) c
      let c := updMbx (fun m => { m with stage := { m.stage with bytes := b, last := c.uptime } }) c
      { answered c stOk 0 true with data := leBytes b 8, out := b }

def execStageData (h : HeadId) (tag era off : Nat) (data : List Byte) (good : Bool) (s : State) : Host.Outcome State Fault Refusal :=
  .next (onCtl (vendor 0xC011 h tag era (leBytes off 8 ++ data) true stageStates true false (fun _ => stageData h off data good)) s)

/-- Stage Finish: the copy is read back as `img` and R55 is applied to it. -/
def stageFinish (h : HeadId) (img : ImageCopy) (c : Ctl) : MbxResult :=
  if stageBusy h c then answered c stBusy 0 false
  else if c.mbx.stage.st ≠ 2 ∨ c.mbx.stage.bytes ≠ c.mbx.stage.hdr.imageSize ∨ headerOnly img ≠ { c.mbx.stage.hdr with readFails := img.readFails } then
    answered c stSequence c.mbx.stage.bytes false
  else
    let c := putInactive img c
    let r1 := headerReject c.nor (dirInUse c) (inactiveCopy c)
    let r := if r1 ≠ 0 then r1 else
      fullReject (variantS c) ((dirInUse c).spiMode == 0) (getF Reg.HUB_STEPPING.HUB c) (dieStepping c) c.ef.genFloor c.fuses img
    if r = 0 then
      let c := setF Reg.HUB_CFG_STATUS.STAGED 1 (updMbx (fun m => { m with stage := { m.stage with st := 4, reject := 0, last := c.uptime } }) c)
      { answered c stOk 0 true with data := leBytes img.generation 4, out := img.generation }
    else answered (updMbx (fun m => { m with stage := { m.stage with st := 5, reject := r } }) c) stRefused r false

def execStageFinish (h : HeadId) (tag era : Nat) (img : ImageCopy) (s : State) : Host.Outcome State Fault Refusal :=
  .next (onCtl (vendor 0xC012 h tag era [] true stageStates true false (fun _ => stageFinish h img)) s)

def execStageAbort (h : HeadId) (tag era : Nat) (s : State) : Host.Outcome State Fault Refusal :=
  .next (onCtl (vendor 0xC013 h tag era [] true anyState true false (fun _ c =>
    if stageBusy h c then answered c stBusy 0 false
    else answered (abortStage false c) stOk 0 true)) s)

/-- No Stage command for 60 s ends staging and raises alert bit 3 (R389, R393). -/
def execStagingIdleTimeout (s : State) : Host.Outcome State Fault Refusal :=
  .next (onCtl (fun c => if fwRunning c then abortStage true c else c) s)

/-! Floors, keys and formats (R390, R405). -/

def raiseGenFloor (v : Nat) (c : Ctl) : MbxResult :=
  if v ≤ c.ef.genFloor ∨ getF Reg.HUB_CFG_GEN.VALUE c < v then answered c stRefused 0 false
  else
    let g := (if inactiveCopy c then c.nor.copyB else c.nor.copyA).generation
    answered { c with ef := { c.ef with genFloor := v } } stOk (if g < v then 1 else 0) true

def execRaiseGenerationFloor (h : HeadId) (tag era v : Nat) (s : State) : Host.Outcome State Fault Refusal :=
  .next (onCtl (vendor 0xC014 h tag era (leBytes v 4) true servingStates true false (fun _ => raiseGenFloor v)) s)

def keySlotOf (c : Ctl) (n : Nat) : KeySlot := c.fuses.getD n ⟨none, false⟩

def programKey (slot hash : Nat) (c : Ctl) : MbxResult :=
  if slot = 0 ∨ 3 < slot ∨ (keySlotOf c slot).hash.isSome then answered c stRefused 0 false
  else answered { c with fuses := c.fuses.set slot { keySlotOf c slot with hash := some hash } } stOk 0 true

def execProgramKeySlot (h : HeadId) (tag era slot hash : Nat) (s : State) : Host.Outcome State Fault Refusal :=
  .next (onCtl (vendor 0xC015 h tag era (leBytes slot 1 ++ leBytes hash 48) true servingStates true false (fun _ => programKey slot hash)) s)

/-- Revoke Key Slot refuses the slot that signed the active copy, and the last usable slot (R390). -/
def revokeKey (slot : Nat) (c : Ctl) : MbxResult :=
  let usable := (List.range 4).filter (fun n => (keySlotOf c n).hash.isSome && !(keySlotOf c n).revoked)
  let signer := match c.cfg with | some m => m.keySlot | none => 4
  if 3 < slot then answered c stRefused 0 false
  else if slot = signer ∨ usable = [slot] then answered c stRefused 3 false
  else answered { c with fuses := c.fuses.set slot { keySlotOf c slot with revoked := true } } stOk 0 true

def execRevokeKeySlot (h : HeadId) (tag era slot : Nat) (s : State) : Host.Outcome State Fault Refusal :=
  .next (onCtl (vendor 0xC016 h tag era (leBytes slot 1) true servingStates true false (fun _ => revokeKey slot)) s)

def raiseFwFloor (v : Nat) (c : Ctl) : MbxResult :=
  match runningFw c with
  | none => answered c stRefused 0 false
  | some p => if v ≤ c.ef.fwFloor ∨ p.svn < v then answered c stRefused 0 false
    else answered { c with ef := { c.ef with fwFloor := v } } stOk 0 true

def execRaiseFirmwareFloor (h : HeadId) (tag era v : Nat) (s : State) : Host.Outcome State Fault Refusal :=
  .next (onCtl (vendor 0xC040 h tag era (leBytes v 4) true servingStates true false (fun _ => raiseFwFloor v)) s)

/-- Advance Format (R404, R405): outside a group, by one, within what both packages read, not in a provisional period. -/
def advanceFormat (f : Nat) (c : Ctl) : MbxResult :=
  if c.mbx.provEnd.isSome then answered c stLevel 2 false
  else if (match c.cfg with | some m => imgHas m 12 | none => false) then answered c stRefused 4 false
  else
    let cur := getF Reg.HEEL_GRP.FORMAT c
    let other := fwSlotOf c (3 - c.mbx.fwSlot)
    let mine := match runningFw c with | some p => decide (f ≤ p.formatMax) | none => false
    let theirs := match other with | some p => decide (f ≤ p.formatMax) | none => true
    if f = cur + 1 && mine && theirs then
      answered (setF Reg.HEEL_GRP.FORMAT f c) stOk 0 true
    else answered c stRefused 0 false

def execAdvanceFormat (h : HeadId) (tag era f : Nat) (s : State) : Host.Outcome State Fault Refusal :=
  .next (onCtl (vendor 0xC041 h tag era (leBytes f 1) true servingStates true false (fun _ => advanceFormat f)) s)

/-- Set Alert Enables (R388, R407). -/
def setAlertEnables (v : Nat) (c : Ctl) : Ctl :=
  setF Reg.MBX_ALERT_EN.H0 v (setF Reg.MBX_ALERT_EN.H1 (v / 256) (setF Reg.MBX_ALERT_EN.WAKE (v / 65536) c))

def execSetAlertEnables (h : HeadId) (tag era v : Nat) (s : State) : Host.Outcome State Fault Refusal :=
  .next (onCtl (vendor 0xC051 h tag era (leBytes v 4) true anyState false false (fun _ c => answered (setAlertEnables v c) stOk 0 true)) s)

/-! Saves, targets and the release of a Keep image (R391, R452). -/

/-- Save Now: the entry is completed and applied first, then the trigger latch is set with cause 0x4; no response goes out. -/
def saveNow (seq : Nat) (c : Ctl) : MbxResult :=
  answered (saveTrigger 4 (journalClose seq 1 stOk rcSuccess 0 true c)) stOk 0 true

def execSaveNow (h : HeadId) (tag era : Nat) (s : State) : Host.Outcome State Fault Refusal :=
  .next (onCtl (vendor 0xC020 h tag era [] true saveStates false true saveNow) s)

/-- A write of HEEL_RESTORE_TGT (R239, R246): the target 3 is discarded. -/
def setRestoreTarget (target : Nat) (once : Bool) (c : Ctl) : Ctl :=
  if target = 3 then c else setF Reg.HEEL_RESTORE_TGT.TARGET target (setF Reg.HEEL_RESTORE_TGT.ONCE (b2n once) c)

def execSetRestoreTarget (h : HeadId) (tag era target : Nat) (once : Bool) (s : State) : Host.Outcome State Fault Refusal :=
  .next (onCtl (vendor 0xC021 h tag era (leBytes (target % 4 + b2n once * 16) 1) true anyState false false (fun _ c =>
    if 3 ≤ target then answered c stRefused 0 false else answered (setRestoreTarget target once c) stOk 0 true)) s)

def execHeelRestoreTgt (v : Nat) (s : State) : Host.Outcome State Fault Refusal :=
  .next (onCtl (setRestoreTarget (v % 4) (v.testBit 4)) s)

/-- Release Keep Image (R452): refused while a Keep cause stands or a release is pending; accepted, it runs a drain and answers
when the drain ends. -/
def releaseKeep (h : HeadId) (tag era seq : Nat) (c : Ctl) : MbxResult :=
  let c := keepCausesNow c
  let k := getF Reg.HEEL_DEGRADE.KEEP c
  if k ≠ 0 then answered c stRefused (1 + k * 256) false
  else if getF Reg.HEEL_DEGRADE.RELEASE_PENDING c = 1 then answered c stRefused 4 false
  else answered (updMbx (fun m => { m with running := m.running ++ [⟨h, 0xC022, tag, era, seq⟩] })
    (setF Reg.HEEL_DEGRADE.RELEASE_PENDING 1 c)) stOk 0 false

def execReleaseKeepImage (h : HeadId) (tag era : Nat) (s : State) : Host.Outcome State Fault Refusal :=
  .next (onCtl (vendor 0xC022 h tag era [] true keepState false true (fun seq => releaseKeep h tag era seq)) s)

/-- The command in progress of an opcode ends: its entry is completed and its response goes out. -/
def endRunning (opcode status detail : Nat) (applied : Bool) (c : Ctl) : Ctl :=
  match c.mbx.running.find? (fun o => o.opcode == opcode) with
  | none => c
  | some o =>
    let c := updMbx (fun m => { m with running := m.running.filter (fun x => x.seq != o.seq) }) c
    vendorReply o.head o.tag o.era status detail o.seq [] (journalClose o.seq 1 status (rcOf status) detail applied c)

/-- The drain has ended (R452, steps 2 and 3): no slotless frame and D ≤ B; the device leaves Keep and the image is released. A Keep cause that
arose in the drain and still holds is evaluated again in the new state (R15, R447). -/
def releaseDone (c : Ctl) : Ctl :=
  if c.op = .keep ∧ getF Reg.HEEL_DEGRADE.RELEASE_PENDING c = 1 ∧ slotless c = 0
      ∧ dirtyCount c ≤ effB c then
    let full := effB c = getF Reg.DTK_BUDGET_CFG.VALUE c ∧ dieInService c 0 ∧ dieInService c 1
    let c := setF Reg.HEEL_DEGRADE.RELEASE_PENDING 0 (setF Reg.HEEL_RECOVERY.KEEP_WRITES 0 (keepCausesNow c))
    let c := releaseImages true true (setF Reg.HEEL_SEAL_STATUS.SEALED_VALID 0 (setF Reg.HEEL_SEAL_STATUS.PROTECTED 0 c))
    let c := releaseReports c
    let c := endRunning 0xC022 stOk 0 true (goState (if full then .serving else .derated) c)
    if getF Reg.HEEL_DEGRADE.KEEP c = 0 then c else saveTrigger 8 c
  else c

def execReleaseDrainDone (s : State) : Host.Outcome State Fault Refusal := .next (onCtl releaseDone s)

/-- 120 s pass first: the throttle is lifted and the command completes with DETAIL 3 (R452, step 4). -/
def execReleaseDrainTimeout (s : State) : Host.Outcome State Fault Refusal :=
  .next (onCtl (fun c =>
    if getF Reg.HEEL_DEGRADE.RELEASE_PENDING c = 1 then
      endRunning 0xC022 stRefused 3 false (setF Reg.HEEL_DEGRADE.RELEASE_PENDING 0 c)
    else c) s)

end Sys2Proof.Machine
end

