-- ==== Sys2Proof/Machine/Dispatch.lean ====
section
/-! DEFINITION. Sys2Proof/Machine/Dispatch.lean: one arm for each command, a direct call of its meaning. -/
namespace Sys2Proof.Machine

/-- The effect of a command on everything but the queue. -/
def exec (i : Instr) (s : State) : Host.Outcome State Fault Refusal :=
  match i with
  | .heelPowerOn => Sys2Proof.Machine.execHeelPowerOn s
  | .heelSupplyLoss => Sys2Proof.Machine.execHeelSupplyLoss s
  | .inputWake => Sys2Proof.Machine.execInputWake s
  | .heelWakeCmd v => Sys2Proof.Machine.execHeelWakeCmd v s
  | .inputRise => Sys2Proof.Machine.execInputRise s
  | .inputFall => Sys2Proof.Machine.execInputFall s
  | .wakeStepComplete w => Sys2Proof.Machine.execWakeStepComplete w s
  | .wakeStepTimeout n => Sys2Proof.Machine.execWakeStepTimeout n s
  | .configurationLock => Sys2Proof.Machine.execConfigurationLock s
  | .restoreStepComplete info => Sys2Proof.Machine.execRestoreStepComplete info s
  | .restoreComplete => Sys2Proof.Machine.execRestoreComplete s
  | .derateClear => Sys2Proof.Machine.execDerateClear s
  | .serviceWaitExpiry => Sys2Proof.Machine.execServiceWaitExpiry s
  | .stallWaitExpiry => Sys2Proof.Machine.execStallWaitExpiry s
  | .thermalKeep die t => Sys2Proof.Machine.execThermalKeep die t s
  | .thermalKeepClear hub s0 s1 => Sys2Proof.Machine.execThermalKeepClear hub s0 s1 s
  | .thermalWarning die t => Sys2Proof.Machine.execThermalWarning die t s
  | .thermalTrip die t => Sys2Proof.Machine.execThermalTrip die t s
  | .pfailAssert => Sys2Proof.Machine.execPfailAssert s
  | .heelSaveCmd v => Sys2Proof.Machine.execHeelSaveCmd v s
  | .hubRestart v => Sys2Proof.Machine.execHubRestart v s
  | .hubFwReset v => Sys2Proof.Machine.execHubFwReset v s
  | .coreWatchdog => Sys2Proof.Machine.execCoreWatchdog s
  | .jtagDebugRequest => Sys2Proof.Machine.execJtagDebugRequest s
  | .trstLow => Sys2Proof.Machine.execTrstLow s
  | .firmwareRestart good => Sys2Proof.Machine.execFirmwareRestart good s
  | .saveDieWatchdog d => Sys2Proof.Machine.execSaveDieWatchdog d s
  | .stickyHubFault unit word => Sys2Proof.Machine.execStickyHubFault unit word s
  | .fclkRelockTimeout => Sys2Proof.Machine.execFclkRelockTimeout s
  | .saveStart d => Sys2Proof.Machine.execSaveStart d s
  | .fill d => Sys2Proof.Machine.execFill d s
  | .sfetch d => Sys2Proof.Machine.execSfetch d s
  | .sfetchData d => Sys2Proof.Machine.execSfetchData d s
  | .unitProgramDone d k r pos ok busy => Sys2Proof.Machine.execUnitProgramDone d k r pos ok busy s
  | .dieDropTimeout d k pos => Sys2Proof.Machine.execDieDropTimeout d k pos s
  | .confirm d => Sys2Proof.Machine.execConfirm d s
  | .saveDieLossTimeout d => Sys2Proof.Machine.execSaveDieLossTimeout d s
  | .saveDieLost d core => Sys2Proof.Machine.execSaveDieLost d core s
  | .sealReq d gen us => Sys2Proof.Machine.execSealReq d gen us s
  | .leaseRenew d => Sys2Proof.Machine.execLeaseRenew d s
  | .leaseClaim s0 s1 => Sys2Proof.Machine.execLeaseClaim s0 s1 s
  | .leaseExpiry => Sys2Proof.Machine.execLeaseExpiry s
  | .leadHoldExpiry d => Sys2Proof.Machine.execLeadHoldExpiry d s
  | .storeCutoff => Sys2Proof.Machine.execStoreCutoff s
  | .downOrderComplete => Sys2Proof.Machine.execDownOrderComplete s
  | .memRd h tag hpa => Sys2Proof.Machine.execMemRd h tag hpa s
  | .memRdData h tag hpa => Sys2Proof.Machine.execMemRdData h tag hpa s
  | .memWr h tag hpa data poison => Sys2Proof.Machine.execMemWr h tag hpa data poison s
  | .memWrPtl h tag hpa data mask poison => Sys2Proof.Machine.execMemWrPtl h tag hpa data mask poison s
  | .memInv h tag hpa => Sys2Proof.Machine.execMemInv h tag hpa s
  | .memInvNt h tag hpa => Sys2Proof.Machine.execMemInvNt h tag hpa s
  | .memSpecRd h hpa => Sys2Proof.Machine.execMemSpecRd h hpa s
  | .m2sProtocolError h opcode => Sys2Proof.Machine.execM2sProtocolError h opcode s
  | .arbitrateGrant => Sys2Proof.Machine.execArbitrateGrant s
  | .throttleTrickle => Sys2Proof.Machine.execThrottleTrickle s
  | .dramReadIssue ch sub => Sys2Proof.Machine.execDramReadIssue ch sub s
  | .dramWriteIssue ch sub => Sys2Proof.Machine.execDramWriteIssue ch sub s
  | .writeAgeExpiry ch => Sys2Proof.Machine.execWriteAgeExpiry ch s
  | .rowIdleClose ch bank => Sys2Proof.Machine.execRowIdleClose ch bank s
  | .readDataReturn ch back resource => Sys2Proof.Machine.execReadDataReturn ch back resource s
  | .writeCrcAlert a => Sys2Proof.Machine.execWriteCrcAlert a s
  | .refreshDue ch rank postpone => Sys2Proof.Machine.execRefreshDue ch rank postpone s
  | .mr4Poll ch hot => Sys2Proof.Machine.execMr4Poll ch hot s
  | .patrolScrubRead ch => Sys2Proof.Machine.execPatrolScrubRead ch s
  | .phyPllLockLoss ch relocked => Sys2Proof.Machine.execPhyPllLockLoss ch relocked s
  | .calibrationCheck hub s0 s1 aged => Sys2Proof.Machine.execCalibrationCheck hub s0 s1 aged s
  | .incrementalRun ch temp lanes retrain => Sys2Proof.Machine.execIncrementalRun ch temp lanes retrain s
  | .flashInterfaceRun ch temp lanes => Sys2Proof.Machine.execFlashInterfaceRun ch temp lanes s
  | .runDram => Sys2Proof.Machine.execRunDram s
  | .runFlash => Sys2Proof.Machine.execRunFlash s
  | .reelSelection => Sys2Proof.Machine.execReelSelection s
  | .coldSweepVisit => Sys2Proof.Machine.execColdSweepVisit s
  | .copyData frame => Sys2Proof.Machine.execCopyData frame s
  | .copyDone frame => Sys2Proof.Machine.execCopyDone frame s
  | .journalPageFlush => Sys2Proof.Machine.execJournalPageFlush s
  | .jpage d => Sys2Proof.Machine.execJpage d s
  | .journalPageDurable d => Sys2Proof.Machine.execJournalPageDurable d s
  | .compactionStart => Sys2Proof.Machine.execCompactionStart s
  | .baseMapWritten => Sys2Proof.Machine.execBaseMapWritten s
  | .budgetRecompute secondPassed => Sys2Proof.Machine.execBudgetRecompute secondPassed s
  | .budgetStale => Sys2Proof.Machine.execBudgetStale s
  | .noCopyUnitTimeout => Sys2Proof.Machine.execNoCopyUnitTimeout s
  | .readyMap d => Sys2Proof.Machine.execReadyMap d s
  | .rstrReq d => Sys2Proof.Machine.execRstrReq d s
  | .rstrData frame lost => Sys2Proof.Machine.execRstrData frame lost s
  | .touchReq d => Sys2Proof.Machine.execTouchReq d s
  | .touchData d lost us => Sys2Proof.Machine.execTouchData d lost us s
  | .reset ch a => Sys2Proof.Machine.execReset ch a s
  | .identify ch a => Sys2Proof.Machine.execIdentify ch a s
  | .feature ch a => Sys2Proof.Machine.execFeature ch a s
  | .train ch a => Sys2Proof.Machine.execTrain ch a s
  | .programUnit ch a => Sys2Proof.Machine.execProgramUnit ch a s
  | .programWl ch a => Sys2Proof.Machine.execProgramWl ch a s
  | .read ch a => Sys2Proof.Machine.execRead ch a s
  | .erase ch a => Sys2Proof.Machine.execErase ch a s
  | .eraseCheck ch a => Sys2Proof.Machine.execEraseCheck ch a s
  | .descriptorCompletion ch way status wait retried soft rebuilt => Sys2Proof.Machine.execDescriptorCompletion ch way status wait retried soft rebuilt s
  | .operationTimeout ch way => Sys2Proof.Machine.execOperationTimeout ch way s
  | .eraseAhead ch way => Sys2Proof.Machine.execEraseAhead ch way s
  | .solePeriodicCheck ch way setB entry => Sys2Proof.Machine.execSolePeriodicCheck ch way setB entry s
  | .copyRowPad group reloc => Sys2Proof.Machine.execCopyRowPad group reloc s
  | .reclamationStart group => Sys2Proof.Machine.execReclamationStart group s
  | .wearLevelling ch way => Sys2Proof.Machine.execWearLevelling ch way s
  | .tableLogProgram d => Sys2Proof.Machine.execTableLogProgram d s
  | .checkpointWrite d => Sys2Proof.Machine.execCheckpointWrite d s
  | .programTimeCheck ch way median => Sys2Proof.Machine.execProgramTimeCheck ch way median s
  | .channelRetrain ch pass lanes => Sys2Proof.Machine.execChannelRetrain ch pass lanes s
  | .join h tag era grp inc level module epoch sent resume => Sys2Proof.Machine.execJoin h tag era grp inc level module epoch sent resume s
  | .close h tag era grp inc level module epoch sent => Sys2Proof.Machine.execClose h tag era grp inc level module epoch sent s
  | .commit h tag era grp inc level module epoch sent => Sys2Proof.Machine.execCommit h tag era grp inc level module epoch sent s
  | .abort h tag era grp inc level module epoch sent => Sys2Proof.Machine.execAbort h tag era grp inc level module epoch sent s
  | .leave h tag era grp inc level module epoch sent => Sys2Proof.Machine.execLeave h tag era grp inc level module epoch sent s
  | .level h tag era grp inc level module epoch sent => Sys2Proof.Machine.execLevel h tag era grp inc level module epoch sent s
  | .status h tag era grp inc level module epoch sent => Sys2Proof.Machine.execStatus h tag era grp inc level module epoch sent s
  | .epochPulseEdge t => Sys2Proof.Machine.execEpochPulseEdge t s
  | .pulseFault k => Sys2Proof.Machine.execPulseFault k s
  | .pulseSourceDrive k => Sys2Proof.Machine.execPulseSourceDrive k s
  | .pulseContention => Sys2Proof.Machine.execPulseContention s
  | .ptmRequest => Sys2Proof.Machine.execPtmRequest s
  | .ptmResponse off => Sys2Proof.Machine.execPtmResponse off s
  | .holdoverEntry => Sys2Proof.Machine.execHoldoverEntry s
  | .preciseSample code storeMv inputMv => Sys2Proof.Machine.execPreciseSample code storeMv inputMv s
  | .offsetCalibration code => Sys2Proof.Machine.execOffsetCalibration code s
  | .storeTempSample t => Sys2Proof.Machine.execStoreTempSample t s
  | .overVoltage => Sys2Proof.Machine.execOverVoltage s
  | .restPoint storeMv => Sys2Proof.Machine.execRestPoint storeMv s
  | .learn => Sys2Proof.Machine.execLearn s
  | .learnStop => Sys2Proof.Machine.execLearnStop s
  | .learnCycleDue => Sys2Proof.Machine.execLearnCycleDue s
  | .eUseRecompute => Sys2Proof.Machine.execEUseRecompute s
  | .chargerTargetUpdate cvOut => Sys2Proof.Machine.execChargerTargetUpdate cvOut s
  | .headroomGuard => Sys2Proof.Machine.execHeadroomGuard s
  | .chargerTargetTimeout => Sys2Proof.Machine.execChargerTargetTimeout s
  | .cvTermination => Sys2Proof.Machine.execCvTermination s
  | .holdEntry => Sys2Proof.Machine.execHoldEntry s
  | .holdExit => Sys2Proof.Machine.execHoldExit s
  | .chargerFaultClear => Sys2Proof.Machine.execChargerFaultClear s
  | .prechargeTimeout storeMv => Sys2Proof.Machine.execPrechargeTimeout storeMv s
  | .upDelayElapsed => Sys2Proof.Machine.execUpDelayElapsed s
  | .inrushElapsed slot => Sys2Proof.Machine.execInrushElapsed slot s
  | .slotReady slot vs ramp => Sys2Proof.Machine.execSlotReady slot vs ramp s
  | .pgTimeout slot vs => Sys2Proof.Machine.execPgTimeout slot vs s
  | .slotFault slot cause vs delay => Sys2Proof.Machine.execSlotFault slot cause vs delay s
  | .slotFallen slot => Sys2Proof.Machine.execSlotFallen slot s
  | .fallTimeout slot => Sys2Proof.Machine.execFallTimeout slot s
  | .retryOffElapsed slot => Sys2Proof.Machine.execRetryOffElapsed slot s
  | .retryCountReset slot => Sys2Proof.Machine.execRetryCountReset slot s
  | .wdiEdge gap => Sys2Proof.Machine.execWdiEdge gap s
  | .wdiTimeout => Sys2Proof.Machine.execWdiTimeout s
  | .vheelLoss inProgress => Sys2Proof.Machine.execVheelLoss inProgress s
  | .holdCharged => Sys2Proof.Machine.execHoldCharged s
  | .heelRlogClear key => Sys2Proof.Machine.execHeelRlogClear key s
  | .linkTrained k m0 m1 x80 x81 rate => Sys2Proof.Machine.execLinkTrained k m0 m1 x80 x81 rate s
  | .trainTimeout k => Sys2Proof.Machine.execTrainTimeout k s
  | .hello k version role guestId => Sys2Proof.Machine.execHello k version role guestId s
  | .helloAck k version role guestId => Sys2Proof.Machine.execHelloAck k version role guestId s
  | .credit k cls count => Sys2Proof.Machine.execCredit k cls count s
  | .ready => Sys2Proof.Machine.execReady s
  | .portReset cause => Sys2Proof.Machine.execPortReset cause s
  | .portResetAck => Sys2Proof.Machine.execPortResetAck s
  | .portResetAckTimeout => Sys2Proof.Machine.execPortResetAckTimeout s
  | .gstCtrl key => Sys2Proof.Machine.execGstCtrl key s
  | .err fatal code => Sys2Proof.Machine.execErr fatal code s
  | .gsAlert => Sys2Proof.Machine.execGsAlert s
  | .tempTimeout => Sys2Proof.Machine.execTempTimeout s
  | .temp t => Sys2Proof.Machine.execTemp t s
  | .int v => Sys2Proof.Machine.execInt v s
  | .evt => Sys2Proof.Machine.execEvt s
  | .mrd tid era ga hint => Sys2Proof.Machine.execMrd tid era ga hint s
  | .mwr tid era ga hint data poison => Sys2Proof.Machine.execMwr tid era ga hint data poison s
  | .mwrp tid era ga hint data mask poison => Sys2Proof.Machine.execMwrp tid era ga hint data mask poison s
  | .cmp tid => Sys2Proof.Machine.execCmp tid s
  | .data tid => Sys2Proof.Machine.execData tid s
  | .derr tid => Sys2Proof.Machine.execDerr tid s
  | .mmrd => Sys2Proof.Machine.execMmrd s
  | .mmwr => Sys2Proof.Machine.execMmwr s
  | .mmcpl tid era status data => Sys2Proof.Machine.execMmcpl tid era status data s
  | .bar4Read h tag off n => Sys2Proof.Machine.execBar4Read h tag off n s
  | .bar4Write off data => Sys2Proof.Machine.execBar4Write off data s
  | .mmioTimeout tid => Sys2Proof.Machine.execMmioTimeout tid s
  | .tidQuarantineEnd tid => Sys2Proof.Machine.execTidQuarantineEnd tid s
  | .flitCrcError flit => Sys2Proof.Machine.execFlitCrcError flit s
  | .nak k ackSeq => Sys2Proof.Machine.execNak k ackSeq s
  | .replayTimeout k => Sys2Proof.Machine.execReplayTimeout k s
  | .replayRetrain k => Sys2Proof.Machine.execReplayRetrain k s
  | .moduleLoss k upper => Sys2Proof.Machine.execModuleLoss k upper s
  | .sleepProposal => Sys2Proof.Machine.execSleepProposal s
  | .slpPrep k busy => Sys2Proof.Machine.execSlpPrep k busy s
  | .slpAck k n => Sys2Proof.Machine.execSlpAck k n s
  | .slpNak k n => Sys2Proof.Machine.execSlpNak k n s
  | .sleepAckTimeout => Sys2Proof.Machine.execSleepAckTimeout s
  | .slpGo k => Sys2Proof.Machine.execSlpGo k s
  | .slpCancel k => Sys2Proof.Machine.execSlpCancel k s
  | .slpWake k n => Sys2Proof.Machine.execSlpWake k n s
  | .sleepEntryComplete => Sys2Proof.Machine.execSleepEntryComplete s
  | .sleepExit => Sys2Proof.Machine.execSleepExit s
  | .fwLoad d => Sys2Proof.Machine.execFwLoad d s
  | .key d => Sys2Proof.Machine.execKey d s
  | .service d => Sys2Proof.Machine.execService d s
  | .perstAssert h => Sys2Proof.Machine.execPerstAssert h s
  | .perstDeassert h => Sys2Proof.Machine.execPerstDeassert h s
  | .hotReset h => Sys2Proof.Machine.execHotReset h s
  | .linkDownReset h => Sys2Proof.Machine.execLinkDownReset h s
  | .cxlReset h => Sys2Proof.Machine.execCxlReset h s
  | .functionLevelReset h => Sys2Proof.Machine.execFunctionLevelReset h s
  | .linkUp h rate width flit256 link => Sys2Proof.Machine.execLinkUp h rate width flit256 link s
  | .hdmDecoderCommit h dec base size ways gran target skip => Sys2Proof.Machine.execHdmDecoderCommit h dec base size ways gran target skip s
  | .viral h => Sys2Proof.Machine.execViral h s
  | .gpfPhase1 h => Sys2Proof.Machine.execGpfPhase1 h s
  | .gpfPhase2 h => Sys2Proof.Machine.execGpfPhase2 h s
  | .gpfTimeout => Sys2Proof.Machine.execGpfTimeout s
  | .pmeTurnOff h => Sys2Proof.Machine.execPmeTurnOff h s
  | .aspmL1Entry h => Sys2Proof.Machine.execAspmL1Entry h s
  | .identifyMemoryDevice h tag => Sys2Proof.Machine.execIdentifyMemoryDevice h tag s
  | .getPartitionInfo h tag => Sys2Proof.Machine.execGetPartitionInfo h tag s
  | .setPartitionInfo h tag => Sys2Proof.Machine.execSetPartitionInfo h tag s
  | .getLsa h tag off len => Sys2Proof.Machine.execGetLsa h tag off len s
  | .setLsa h tag off data => Sys2Proof.Machine.execSetLsa h tag off data s
  | .getHealthInfo h tag temp => Sys2Proof.Machine.execGetHealthInfo h tag temp s
  | .getAlertConfiguration h tag => Sys2Proof.Machine.execGetAlertConfiguration h tag s
  | .setAlertConfiguration h tag valid enable vals => Sys2Proof.Machine.execSetAlertConfiguration h tag valid enable vals s
  | .getShutdownState h tag => Sys2Proof.Machine.execGetShutdownState h tag s
  | .setShutdownState h tag dirty => Sys2Proof.Machine.execSetShutdownState h tag dirty s
  | .getPoisonList h tag dpa lines => Sys2Proof.Machine.execGetPoisonList h tag dpa lines s
  | .injectPoison h tag dpa => Sys2Proof.Machine.execInjectPoison h tag dpa s
  | .clearPoison h tag dpa data => Sys2Proof.Machine.execClearPoison h tag dpa data s
  | .getScanMediaCapabilities h tag dpa lines => Sys2Proof.Machine.execGetScanMediaCapabilities h tag dpa lines s
  | .scanMedia h tag dpa lines => Sys2Proof.Machine.execScanMedia h tag dpa lines s
  | .getScanMediaResults h tag => Sys2Proof.Machine.execGetScanMediaResults h tag s
  | .sanitize h tag => Sys2Proof.Machine.execSanitize h tag s
  | .secureErase h tag => Sys2Proof.Machine.execSecureErase h tag s
  | .backgroundOperationDone opcode => Sys2Proof.Machine.execBackgroundOperationDone opcode s
  | .getSecurityState h tag => Sys2Proof.Machine.execGetSecurityState h tag s
  | .setPassphrase h tag master old new => Sys2Proof.Machine.execSetPassphrase h tag master old new s
  | .disablePassphrase h tag master pass => Sys2Proof.Machine.execDisablePassphrase h tag master pass s
  | .unlock h tag pass => Sys2Proof.Machine.execUnlock h tag pass s
  | .freezeSecurityState h tag => Sys2Proof.Machine.execFreezeSecurityState h tag s
  | .passphraseSecureErase h tag master pass => Sys2Proof.Machine.execPassphraseSecureErase h tag master pass s
  | .getEventRecords h tag log => Sys2Proof.Machine.execGetEventRecords h tag log s
  | .clearEventRecords h tag log all handles => Sys2Proof.Machine.execClearEventRecords h tag log all handles s
  | .getEventInterruptPolicy h tag => Sys2Proof.Machine.execGetEventInterruptPolicy h tag s
  | .setEventInterruptPolicy h tag policy => Sys2Proof.Machine.execSetEventInterruptPolicy h tag policy s
  | .getFwInfo h tag => Sys2Proof.Machine.execGetFwInfo h tag s
  | .transferFw h tag action slot off len inCrc pkg => Sys2Proof.Machine.execTransferFw h tag action slot off len inCrc pkg s
  | .transferFwTimeout => Sys2Proof.Machine.execTransferFwTimeout s
  | .activateFw h tag online slot => Sys2Proof.Machine.execActivateFw h tag online slot s
  | .provisionalPeriodEnd => Sys2Proof.Machine.execProvisionalPeriodEnd s
  | .getTimestamp h tag => Sys2Proof.Machine.execGetTimestamp h tag s
  | .setTimestamp h tag t => Sys2Proof.Machine.execSetTimestamp h tag t s
  | .getSupportedLogs h tag => Sys2Proof.Machine.execGetSupportedLogs h tag s
  | .getLog h tag vendor off len => Sys2Proof.Machine.execGetLog h tag vendor off len s
  | .unsupportedCommand h tag cmd => Sys2Proof.Machine.execUnsupportedCommand h tag cmd s
  | .getJaricaInfo h tag era => Sys2Proof.Machine.execGetJaricaInfo h tag era s
  | .openSession h tag era => Sys2Proof.Machine.execOpenSession h tag era s
  | .getJournal h tag era start max filter => Sys2Proof.Machine.execGetJournal h tag era start max filter s
  | .stageStart h tag era hdr sizeCheck => Sys2Proof.Machine.execStageStart h tag era hdr sizeCheck s
  | .stageData h tag era off data good => Sys2Proof.Machine.execStageData h tag era off data good s
  | .stageFinish h tag era img => Sys2Proof.Machine.execStageFinish h tag era img s
  | .stageAbort h tag era => Sys2Proof.Machine.execStageAbort h tag era s
  | .stagingIdleTimeout => Sys2Proof.Machine.execStagingIdleTimeout s
  | .raiseGenerationFloor h tag era v => Sys2Proof.Machine.execRaiseGenerationFloor h tag era v s
  | .programKeySlot h tag era slot hash => Sys2Proof.Machine.execProgramKeySlot h tag era slot hash s
  | .revokeKeySlot h tag era slot => Sys2Proof.Machine.execRevokeKeySlot h tag era slot s
  | .readIntegratorData h tag era inst off len => Sys2Proof.Machine.execReadIntegratorData h tag era inst off len s
  | .saveNow h tag era => Sys2Proof.Machine.execSaveNow h tag era s
  | .setRestoreTarget h tag era target once => Sys2Proof.Machine.execSetRestoreTarget h tag era target once s
  | .releaseKeepImage h tag era => Sys2Proof.Machine.execReleaseKeepImage h tag era s
  | .releaseDrainDone => Sys2Proof.Machine.execReleaseDrainDone s
  | .releaseDrainTimeout => Sys2Proof.Machine.execReleaseDrainTimeout s
  | .raiseFirmwareFloor h tag era v => Sys2Proof.Machine.execRaiseFirmwareFloor h tag era v s
  | .advanceFormat h tag era f => Sys2Proof.Machine.execAdvanceFormat h tag era f s
  | .getDiagnostics h tag era mpa count => Sys2Proof.Machine.execGetDiagnostics h tag era mpa count s
  | .setAlertEnables h tag era v => Sys2Proof.Machine.execSetAlertEnables h tag era v s
  | .heelRestoreTgt v => Sys2Proof.Machine.execHeelRestoreTgt v s
  | .sbWriteTransfer addr bytes => Sys2Proof.Machine.execSbWriteTransfer addr bytes s
  | .sbReadTransfer addr ptr n => Sys2Proof.Machine.execSbReadTransfer addr ptr n s
  | .sbQuickCommand addr => Sys2Proof.Machine.execSbQuickCommand addr s
  | .sbbIndRead late => Sys2Proof.Machine.execSbbIndRead late s
  | .sbbIndWrite v => Sys2Proof.Machine.execSbbIndWrite v s
  | .sbHandoff cut => Sys2Proof.Machine.execSbHandoff cut s
  | .sbClockLowTimeout bytes => Sys2Proof.Machine.execSbClockLowTimeout bytes s
  | .alertResponseAddress won => Sys2Proof.Machine.execAlertResponseAddress won s
  | .sbAlertAssert => Sys2Proof.Machine.execSbAlertAssert s
  | .sbbAlertPendClear v => Sys2Proof.Machine.execSbbAlertPendClear v s
  | .hostNotify acked => Sys2Proof.Machine.execHostNotify acked s
  | .hostNotifyRetry acked => Sys2Proof.Machine.execHostNotifyRetry acked s
  | .arbitrationLost => Sys2Proof.Machine.execArbitrationLost s
  | .eflHkey v => Sys2Proof.Machine.execEflHkey v s
  | .eflUnlockTimeout => Sys2Proof.Machine.execEflUnlockTimeout s
  | .eflHbuf v => Sys2Proof.Machine.execEflHbuf v s
  | .eflRead got => Sys2Proof.Machine.execEflRead got s
  | .eflProgram => Sys2Proof.Machine.execEflProgram s
  | .eflErase => Sys2Proof.Machine.execEflErase s
  | .eflBlankCheck => Sys2Proof.Machine.execEflBlankCheck s
  | .eflClearBuf => Sys2Proof.Machine.execEflClearBuf s
  | .eflFetch addr stall ecc => Sys2Proof.Machine.execEflFetch addr stall ecc s
  | .eflResume bank => Sys2Proof.Machine.execEflResume bank s
  | .eflOperationDone bank failAt => Sys2Proof.Machine.execEflOperationDone bank failAt s
  | .eventRecord code source severity data => Sys2Proof.Machine.execEventRecord code source severity data s
  | .foldWindowClose code source => Sys2Proof.Machine.execFoldWindowClose code source s
  | .evrFlush => Sys2Proof.Machine.execEvrFlush s
  | .evrClear => Sys2Proof.Machine.execEvrClear s
  | .evrFlushCmd => Sys2Proof.Machine.execEvrFlushCmd s
  | .loReadLatch p a => Sys2Proof.Machine.execLoReadLatch p a s
  | .registerWrite p mpa v aligned => Sys2Proof.Machine.execRegisterWrite p mpa v aligned s
  | .idleFlit k fseq ackSeq cra crb => Sys2Proof.Machine.execIdleFlit k fseq ackSeq cra crb s
  | .guestRetrainExpiry => Sys2Proof.Machine.execGuestRetrainExpiry s
  | .eflWaitBand vs => Sys2Proof.Machine.execEflWaitBand vs s
  | .zeroFrameFill frame => Sys2Proof.Machine.execZeroFrameFill frame s
  | .guestL1Request => Sys2Proof.Machine.execGuestL1Request s

end Sys2Proof.Machine
end

