-- ==== Sys2Proof/Machine/Tick.lean ====
section
/-! DEFINITION. Sys2Proof/Machine/Tick.lean: what passes with time alone (R16, R128, R300). -/
namespace Sys2Proof.Machine

/-- One tick of the 250 MHz time base (log entry 4): 4 ns pass. Module time moves on, except in Dormant and up to W3, where Heel counts it (R302);
the hold times of the source heads grow (R128), throttle tokens trickle in (R130), the age of the budget grows (R178), the
internal engines go on (R181), a port reset that has waited for its era goes on (R369), and an idle bank of the embedded flash starts what waits for it (R427, R440). -/
def tick (c : Ctl) : Ctl :=
  let c := { c with uptime := c.uptime + 4 }
  if !hubPowered c then c
  else
    let c := if c.clk.dormantAt.isNone then clkElapse 4 c else c
    bankNext <| portExchange (engines (staleCheck (trickleElapse (holdElapse 4 c))))

end Sys2Proof.Machine
end

