-- ==== Sys2Proof/Machine/Step.lean ====
section
/-! DEFINITION. Sys2Proof/Machine/Step.lean: one step of the block. -/
namespace Sys2Proof.Machine

/-- The command at the front of the queue takes effect, with the rest of the queue waiting; with none waiting, a tick passes
(log entry 4, DESIGN CHOICE). -/
def step (s : State) : Host.Outcome State Fault Refusal :=
  match s.pending with
  | [] => .next (onCtl tick s)
  | i :: rest => exec i { s with pending := rest }

/-- The command that a table word spells, put at the front of the queue; a word that spells none changes nothing. -/
def State.withFetchWord (s : State) (nbits w : Nat) : State :=
  match decodeTableWord nbits w with
  | some i => { s with pending := i :: s.pending }
  | none => s

end Sys2Proof.Machine
end

