-- ==== Sys2Proof/Safety.lean ====
section
/-! DEFINITION. Sys2Proof/Safety.lean: what statements about the block are said in: what a command leads to, what it leaves
unchanged, and the form that every state keeps. -/
namespace Sys2Proof.Machine

/-- The command leads to `a` where `cond` holds, and changes nothing where it does not. -/
def LeadsTo (i : Instr) (s : State) (cond : Prop) (a : State) : Prop :=
  (cond → exec i s = .next a) ∧ (¬ cond → exec i s = .next s)

/-- Every register field keeps its value, but those listed. -/
def KeepsRegs (fs : List Fld) (s t : State) : Prop :=
  ∀ k, k ∉ fs.map Fld.key → mapGet 0 t.ctl.rf k = mapGet 0 s.ctl.rf k

/-- Every byte and every poison marker of DRAM is as it was. -/
def KeepsDram (s t : State) : Prop :=
  (∀ a, memRead 0 t.dram a = memRead 0 s.dram a) ∧ ∀ l, l ∈ t.poison ↔ l ∈ s.poison

/-- The byte of DRAM at a DPA. -/
def State.byte (s : State) (a : Nat) : Byte := memRead 0 s.dram a

/-- A set of numbers held as a list: strictly rising. -/
def Rising : List Nat → Prop
  | [] => True
  | [_] => True
  | a :: b :: l => a < b ∧ Rising (b :: l)

/-- The form that every step keeps: the DRAM map is canonical (addresses rise, no cell holds the byte that an unlisted address reads as),
and the poisoned lines rise. Equal contents are then equal data. -/
def State.Wf (s : State) : Prop := memWf 0 s.dram = true ∧ Rising s.poison

/-- The parts of the control state beside the register fields. -/
inductive Part where
  | latches | op | prev | uptime | fresh | sent | cfg | nor | fuses | ef | heel | nv | waking | pipe | chans | cal | dtk | reel | welt
  | weltNv | save | images | restore | flash | nrg | psq | prd | guest | mbx | sbb | cxl | epg | clk | evr | efl
  deriving DecidableEq, Repr

/-- A part is the same in two control states. -/
def Part.Same : Part → Ctl → Ctl → Prop
  | .latches, c, d => d.latches = c.latches | .op, c, d => d.op = c.op | .prev, c, d => d.prev = c.prev
  | .uptime, c, d => d.uptime = c.uptime | .fresh, c, d => d.fresh = c.fresh | .sent, c, d => d.sent = c.sent
  | .cfg, c, d => d.cfg = c.cfg | .nor, c, d => d.nor = c.nor | .fuses, c, d => d.fuses = c.fuses | .ef, c, d => d.ef = c.ef
  | .heel, c, d => d.heel = c.heel | .nv, c, d => d.nv = c.nv | .waking, c, d => d.waking = c.waking | .pipe, c, d => d.pipe = c.pipe
  | .chans, c, d => d.chans = c.chans | .cal, c, d => d.cal = c.cal | .dtk, c, d => d.dtk = c.dtk | .reel, c, d => d.reel = c.reel
  | .welt, c, d => d.welt = c.welt | .weltNv, c, d => d.weltNv = c.weltNv | .save, c, d => d.save = c.save
  | .images, c, d => d.images = c.images | .restore, c, d => d.restore = c.restore | .flash, c, d => d.flash = c.flash
  | .nrg, c, d => d.nrg = c.nrg | .psq, c, d => d.psq = c.psq | .prd, c, d => d.prd = c.prd | .guest, c, d => d.guest = c.guest
  | .mbx, c, d => d.mbx = c.mbx | .sbb, c, d => d.sbb = c.sbb | .cxl, c, d => d.cxl = c.cxl | .epg, c, d => d.epg = c.epg
  | .clk, c, d => d.clk = c.clk | .evr, c, d => d.evr = c.evr | .efl, c, d => d.efl = c.efl

/-- An operation changes at most the listed register fields and parts of the control state. -/
def Changes (fs : List Fld) (ps : List Part) (c d : Ctl) : Prop :=
  (∀ k, k ∉ fs.map Fld.key → mapGet 0 d.rf k = mapGet 0 c.rf k) ∧ ∀ p, p ∉ ps → p.Same c d

/-- The register fields that recording an event may touch: lost-record counters, the alert bits, the wake-pending bits, and the L1 bits. -/
def eventFlds : List Fld := [Reg.EVR_LOST.BUFFER, Reg.EVR_LOST.RESERVE, Reg.EVR_LOST.FULL, Reg.SBB_ALERT_PEND.PEND, Reg.HEEL_CXL_WAKE.PEND0,
  Reg.HEEL_CXL_WAKE.PEND1, Reg.HEEL_CXL_WAKE.DRIVEN0, Reg.HEEL_CXL_WAKE.DRIVEN1, Reg.HEEL_CXL_WAKE.COUNT0, Reg.HEEL_CXL_WAKE.COUNT1,
  Reg.HEEL_CXL_WAKE.NEW, Reg.MEM_LINK_STATUS.H0_L1, Reg.MEM_LINK_STATUS.H1_L1]

/-- The L1 bits: traffic on a head takes its link out of L1 (R101), a mailbox command and an MSI-X message among it. -/
def l1Flds : List Fld := [Reg.MEM_LINK_STATUS.H0_L1, Reg.MEM_LINK_STATUS.H1_L1]

/-- The parts that recording an event may touch. -/
def eventParts : List Part := [.sent, .ef, .sbb, .cxl, .evr]

/-- What a memory request on a head asks for: the head, the HPA, and the request with its DPA and hint still open. -/
def m2sRequest : Instr → Option (HeadId × Nat × Req)
  | .memRd h tag hpa => some (h, hpa, ⟨.rd, tag % dropTag, 0, [], 0, false, 0, false⟩)
  | .memRdData h tag hpa => some (h, hpa, ⟨.rd, tag % dropTag, 0, [], 0, false, 0, false⟩)
  | .memWr h tag hpa data poison => some (h, hpa, ⟨.wr, tag % dropTag, 0, lineBytes data, fullMask, poison, 0, false⟩)
  | .memWrPtl h tag hpa data mask poison => some (h, hpa, ⟨.wrPtl, tag % dropTag, 0, lineBytes data, mask % 2 ^ 64, poison, 0, false⟩)
  | .memInv h tag hpa => some (h, hpa, ⟨.inv, tag % dropTag, 0, [], 0, false, 0, false⟩)
  | .memInvNt h tag hpa => some (h, hpa, ⟨.inv, tag % dropTag, 0, [], 0, false, 0, false⟩)
  | .memSpecRd h hpa => some (h, hpa, ⟨.specRd, 0, 0, [], 0, false, 0, false⟩)
  | _ => none

/-- The descriptors that a way holds: queued, running and suspended. -/
def wayWork (c : Ctl) (wk : Nat) : List Desc := (wayAt c wk).queue ++ (wayAt c wk).running.toList ++ (wayAt c wk).suspended.toList

/-- What a descriptor command asks for: its channel, its operands, its operation, and the condition of its own. -/
def awlRequest (c : Ctl) : Instr → Option (Nat × DescArgs × AwlOp × Bool)
  | .reset ch a => some (ch.val, a, .reset, true)
  | .identify ch a => some (ch.val, a, .identify, true)
  | .feature ch a => some (ch.val, a, .feature, true)
  | .train ch a => some (ch.val, a, .train, true)
  | .programUnit ch a => some (ch.val, { a with pslc := true }, .programUnit, !(blockAt c (wayKey ch.val a.way) a.block).pages.testBit a.page)
  | .programWl ch a => some (ch.val, { a with pslc := false }, .programWl, wlReady c (wayKey ch.val a.way) a)
  | .read ch a => some (ch.val, a, .read, decide (1 ≤ a.count ∧ a.count ≤ 16))
  | .eraseCheck ch a => some (ch.val, a, .eraseCheck, true)
  | _ => none

/-- A vendor command passes its frame: the mailbox is reachable, the firmware runs, a session of its era is open, it is no duplicate, the operating
state allows it, and the module is unlocked when it asks for that. -/
def vendorRuns (c : Ctl) (h : HeadId) (tag era : Nat) (states : OpState → Bool) (unlocked : Bool) : Bool :=
  reachable c h && fwRunning c && sessionOpen c h && decide (era = sessionEra c h) && decide (tag < dropTag) && states c.op
  && !(unlocked && getF Reg.MEM_ACCESS_STATUS.LOCKED c == 1) && (earlierEntry h tag era c).isNone

/-- A response of a mailbox command has gone out on a head: return code, TAG, ERA, STATUS, DETAIL and SEQ. -/
def Answered (t : State) (h : HeadId) (rc tag era status detail seq : Nat) : Prop :=
  ∃ data, (⟨.head h, .mailbox, [rc, tag, era, status, detail, seq], data⟩ : Msg) ∈ t.ctl.sent

/-- DRAM, its poison markers and the queue are as they were. -/
def SameMemory (s t : State) : Prop := t.dram = s.dram ∧ t.poison = s.poison ∧ t.pending = s.pending

/-- What a guest memory request asks for: whether it takes a write credit, its TID, era, guest address and hint, and the rest of the request. -/
def guestRequestOf : Instr → Option (Bool × Nat × Nat × Nat × Nat × ReqOp × List Byte × Nat × Bool)
  | .mrd tid era ga hint => some (false, tid, era, ga, hint, .rd, [], 0, false)
  | .mwr tid era ga hint data poison => some (true, tid, era, ga, hint, .wr, data, 0, poison)
  | .mwrp tid era ga hint data mask poison => some (true, tid, era, ga, hint, .wrPtl, data, mask, poison)
  | _ => none

/-- The response that a command of the guest takes. -/
def responseOf : Instr → Option (MsgKind × Nat)
  | .cmp tid => some (.cmpGuest, tid)
  | .data tid => some (.dataGuest, tid)
  | .derr tid => some (.derrGuest, tid)
  | _ => none

/-- The response of a CXL command has gone out on a head: return code and TAG. -/
def CxlDone (t : State) (h : HeadId) (rc tag : Nat) : Prop := ∃ data, (⟨.head h, .mailbox, [rc, tag], data⟩ : Msg) ∈ t.ctl.sent

/-- The command has made the next entry of the journal, and the entry is complete with a return code. -/
def Journaled (s t : State) (rc : Nat) : Prop :=
  ∃ e ∈ t.ctl.mbx.jrnl, e.seq = s.ctl.mbx.nextSeq ∧ e.st = 1 ∧ e.rc = rc ∧ t.ctl.mbx.nextSeq = s.ctl.mbx.nextSeq + 1

/-- The head's mailbox is served: it can be reached and the firmware runs. -/
def cxlRuns (c : Ctl) (h : HeadId) (tag : Nat) : Bool := reachable c h && fwRunning c && decide (tag < dropTag)

/-- The CXL commands that only answer: the head, the TAG, the return code and the data. -/
def cxlReads (c : Ctl) : Instr → Option (HeadId × Nat × Nat × List Byte)
  | .identifyMemoryDevice h tag => some (h, tag, 0, identify c)
  | .getPartitionInfo h tag => some (h, tag, 0, partitionInfo c)
  | .setPartitionInfo h tag => some (h, tag, rcUnsupported, [])
  | .getLsa h tag off len => some (if 131072 < off + len ∨ 65536 < len then (h, tag, rcInvalidInput, []) else (h, tag, 0, memReadList 0 c.ef.lsa off len))
  | .getHealthInfo h tag temp => some (h, tag, 0, healthInfo temp c)
  | .getShutdownState h tag => some (h, tag, 0, leBytes (b2n c.ef.shutdownDirty) 1)
  | .getScanMediaCapabilities h tag dpa lines =>
    some (if capBytes c < dpa + lines * 64 then (h, tag, rcInvalidPa, []) else (h, tag, 0, leBytes (scanMs lines) 4))
  | .getEventInterruptPolicy h tag => some (h, tag, 0, (List.range 4).flatMap (fun n => leBytes (policyByte (headOf c h).policy n) 1))
  | .getFwInfo h tag => some (h, tag, 0, fwInfo c)
  | .getTimestamp h tag => some (h, tag, 0, leBytes (nowNs c) 8)
  | .unsupportedCommand h tag cmd => some (h, tag, if vendorListed cmd.opcode && decide (cmd.size < 8) then rcInvalidInput else rcUnsupported, [])
  | _ => none

/-- The CXL commands that answer with some content that the manual leaves open: the head, the TAG and the number of data bytes. -/
def cxlOpenReads (c : Ctl) : Instr → Option (HeadId × Nat × Nat)
  | .getAlertConfiguration h tag => some (h, tag, 16)
  | .getEventRecords h tag log => some (h, tag, 32 + 128 * (logOf c log.val).length)
  | .getSupportedLogs h tag => some (h, tag, 48)
  | .getLog h tag _ _ len => if len ≤ 65536 then some (h, tag, len) else none
  | _ => none

/-- The part of a head's CXL domain that a reset clears. -/
def HeadGone (s t : State) (h : HeadId) : Prop :=
  (headOf t.ctl h).decs = [] ∧ (headOf t.ctl h).linkUp = false ∧ (headOf t.ctl h).resetting = true ∧ (headOf t.ctl h).policy = 0
  ∧ getF (viralFld h) t.ctl = 0 ∧ intakeOpen t.ctl h = false ∧ (∀ r ∈ queueOf t.ctl (srcOfHead h), dropTag < r.tag)
  ∧ headOf t.ctl (1 - h) = headOf s.ctl (1 - h) ∧ queueOf t.ctl (srcOfHead (1 - h)) = queueOf s.ctl (srcOfHead (1 - h))
  ∧ t.ctl.dtk = s.ctl.dtk ∧ t.ctl.op = s.ctl.op ∧ SameMemory s t

/-- The vendor commands that stand under a session: the head, TAG, ERA, whether they are journaled, their operating states, and whether they ask for an
unlocked module. -/
def vendorFrame : Instr → Option (HeadId × Nat × Nat × Bool × (OpState → Bool) × Bool)
  | .readIntegratorData h tag era _ _ _ => some (h, tag, era, false, anyState, false)
  | .getDiagnostics h tag era _ _ => some (h, tag, era, false, anyState, false)
  | .stageStart h tag era _ _ => some (h, tag, era, true, stageStates, true)
  | .stageData h tag era _ _ _ => some (h, tag, era, true, stageStates, true)
  | .stageFinish h tag era _ => some (h, tag, era, true, stageStates, true)
  | .stageAbort h tag era => some (h, tag, era, true, anyState, true)
  | .raiseGenerationFloor h tag era _ => some (h, tag, era, true, servingStates, true)
  | .programKeySlot h tag era _ _ => some (h, tag, era, true, servingStates, true)
  | .revokeKeySlot h tag era _ => some (h, tag, era, true, servingStates, true)
  | .raiseFirmwareFloor h tag era _ => some (h, tag, era, true, servingStates, true)
  | .advanceFormat h tag era _ => some (h, tag, era, true, servingStates, true)
  | .setAlertEnables h tag era _ => some (h, tag, era, true, anyState, false)
  | .saveNow h tag era => some (h, tag, era, true, saveStates, false)
  | .setRestoreTarget h tag era _ _ => some (h, tag, era, true, anyState, false)
  | .releaseKeepImage h tag era => some (h, tag, era, true, keepState, false)
  | .join h tag era _ _ _ _ _ _ _ => some (h, tag, era, true, anyState, false)
  | .close h tag era _ _ _ _ _ _ => some (h, tag, era, true, anyState, false)
  | .commit h tag era _ _ _ _ _ _ => some (h, tag, era, true, anyState, false)
  | .abort h tag era _ _ _ _ _ _ => some (h, tag, era, true, anyState, false)
  | .leave h tag era _ _ _ _ _ _ => some (h, tag, era, true, anyState, false)
  | .level h tag era _ _ _ _ _ _ => some (h, tag, era, true, anyState, false)
  | .status h tag era _ _ _ _ _ _ => some (h, tag, era, true, anyState, false)
  | _ => none

/-- The commands that may change DRAM: those that write it, those that lose its content at Waking entry or with the supply, and those that may
carry a key that leads to Waking. -/
def touchesDram : Instr → Bool
  | .dramWriteIssue _ _ | .rstrData _ _ | .touchData _ _ _ | .zeroFrameFill _ | .injectPoison _ _ _ | .backgroundOperationDone _
  | .heelSupplyLoss | .heelPowerOn | .inputWake | .heelWakeCmd _ | .hubRestart _ | .downOrderComplete
  | .registerWrite _ _ _ _ | .sbWriteTransfer _ _ | .sbbIndWrite _ | .sbClockLowTimeout _ => true
  | _ => false

/-- The operating states that one command can lead to (R13): a command may pass two transitions of the table of R13, such as Serving to Saving to
Saved or Keep to Derated to Saving when a Keep cause stands after a release, and the end of a down order leads to Dormant or, with a restart
pending, to Waking (R70). -/
def opMoves : OpState → List OpState
  | .off => [.off, .dormant, .waking]
  | .dormant => [.dormant, .waking, .off]
  | .waking => [.waking, .restoring, .dormant, .off]
  | .restoring => [.restoring, .serving, .derated, .saving, .saved, .dormant, .waking, .off]
  | .serving => [.serving, .derated, .saving, .saved, .dormant, .waking, .off]
  | .derated => [.derated, .serving, .saving, .saved, .dormant, .waking, .off]
  | .saving => [.saving, .keep, .saved, .dormant, .waking, .off]
  | .keep => [.keep, .saving, .saved, .serving, .derated, .dormant, .waking, .off]
  | .saved => [.saved, .dormant, .waking, .off]

end Sys2Proof.Machine
end

