-- ==== Sys2Proof/Certificates/Slice0/Obligations.lean ====
section
/-! DEFINITION. Sys2Proof/Certificates/Slice0/Obligations.lean: the statements for the provers. -/
open Sys2Proof Sys2Proof.Machine

/-! ### The block as a whole -/

/-- A step runs the command at the front of the queue, with the rest of the queue waiting; with none waiting a tick of 4 ns passes, which
changes no byte, and without the hub's supply changes the time alone (the tick is the model's choice: log entry 4). -/
def Obligations.FrontCommandRuns : Prop :=
  (∀ (i : Instr) (s : State), step { s with pending := i :: s.pending } = exec i s)
  ∧ (∀ (i : Instr) (rest : List Instr) (s : State), s.pending = i :: rest → step s = exec i { s with pending := rest })
  ∧ ∀ s : State, s.pending = [] → ∃ t, step s = .next t ∧ t.ctl.uptime = s.ctl.uptime + 4 ∧ SameMemory s t
    ∧ (hubPowered s.ctl = false → t.ctl = { s.ctl with uptime := s.ctl.uptime + 4 })

/-- Every command answers a next state and leaves the waiting commands alone; and DRAM and its poison markers change only by the commands that
write DRAM, by the loss of the supply, and by Waking entry. -/
def Obligations.EveryCommandCompletes : Prop := ∀ (i : Instr) (s : State), ∃ t, exec i s = .next t ∧ t.pending = s.pending
  ∧ (touchesDram i = false → t.dram = s.dram ∧ t.poison = s.poison)
  ∧ (∀ p mpa v al, i = .registerWrite p mpa v al → t.ctl.op ≠ .waking → t.dram = s.dram ∧ t.poison = s.poison)

/-- The registers that the spec gives a reset value other than 0 read it at reset (R68, R73, R74, R133, R166, R167, R191, R222, R306, R348, R423, R424,
R441, R442): read by the hub's first core, with DRC channel 0 for all eight. -/
def Obligations.ResetValues : Prop :=
  (∀ e ∈ [(0xB0000, 0x11), (0xB0008, 1), (0x20100, 0x444), (0x20104, 0x10), (0x30004, 0x21848), (0x30008, 0x140C7D), (0x3002C, 0x118),
      (0x40000, 0x10180A08), (0x50000, 0x10000), (0x50004, 0x1000), (0x50008, 0x1000), (0x5000C, 0x69), (0x50010, 0x100A0384), (0x50030, 0x01101808),
      (0x60010, 0x8000), (0x120014, 0xFFFFFFFF), (0xA0000, 0x38403B6), (0xF0000, 0x18640), (0xF0010, 0xFF0A01), (0xB00E0, 0x85A),
      (0x100000, 0x4022000), (0x100004, 0x30), (0x110004, 0x86401)], (regRead (.core 0) e.1 State.reset.ctl).1 = e.2)
  ∧ State.reset.ctl.op = .dormant ∧ State.reset.ctl.heel.armed = true ∧ State.reset.pending = []

/-- Reset has the form that every step keeps. -/
def Obligations.ResetIsWellFormed : Prop := State.reset.Wf

/-- Every step keeps the form of the memory: DRAM's cells strictly rising with no cell at the value that an unlisted byte reads as, and the poisoned
lines strictly rising. -/
def Obligations.StepKeepsWellFormed : Prop := ∀ s t : State, s.Wf → step s = .next t → t.Wf

/-- The operating state moves only along the transitions of R13, from every state and by every step: Restoring is entered from Waking alone,
Saving from Restoring, Serving or Derated alone, or from Keep through the release of its image, Keep from Saving alone, and Saved is left only for
Dormant, Waking or Off. -/
def Obligations.OperatingStateMoves : Prop := ∀ s t : State, step s = .next t → t.ctl.op ∈ opMoves s.ctl.op

/-- Save triggers (R10, R13, R192-R194): the latch records the cause; the save covers what is committed up to the cut, with intake stopped; a later
trigger starts no second save; in Keep a trigger leads to Saved without a save. -/
def Obligations.SaveTriggers : Prop := ∀ (c : Ctl) (cause : Nat), 1 ≤ cause → cause ≤ 8 →
  let d := saveTrigger cause c
  (getF Reg.HEEL_SAVE_CAUSE.LATCHED c ≠ 1 → c.op = .restoring ∨ c.op = .serving ∨ c.op = .derated →
    getF Reg.HEEL_SAVE_CAUSE.LATCHED d = 1 ∧ getF Reg.HEEL_SAVE_CAUSE.CAUSE d = cause ∧ getF Reg.HEEL_SAVE_CAUSE.LATER d = 0
    ∧ (∀ x, queueOf d x = []) ∧ d.pipe.frozen = true ∧ d.reel.copies = [] ∧ d.welt.openPage = []
    ∧ (eraseRuns c = true ∨ (c.op = .restoring ∧ bothHeld c = true) → d.op = .saved ∧ d.images = c.images)
    ∧ (eraseRuns c = false → (c.op = .restoring → bothHeld c = false) → d.op = .saving ∧ d.save.image.cause = cause
      ∧ d.save.snap = fillBitmap c ∧ d.save.confirm = 0 ∧ d.images = c.images ∧ d.save.image.csnCut = getF Reg.MEM_CSN.CSN c))
  ∧ (getF Reg.HEEL_SAVE_CAUSE.LATCHED c = 1 → d.op = c.op ∧ getF Reg.HEEL_SAVE_CAUSE.CAUSE d = getF Reg.HEEL_SAVE_CAUSE.CAUSE c
    ∧ (getF Reg.HEEL_SAVE_CAUSE.LATER c = 0 → getF Reg.HEEL_SAVE_CAUSE.LATER d = cause) ∧ d.images = c.images ∧ d.dtk = c.dtk)
  ∧ (getF Reg.HEEL_SAVE_CAUSE.LATCHED c ≠ 1 → c.op = .keep → cause ≠ 8 → d.op = .saved ∧ d.images = c.images ∧ d.nv.sealed = c.nv.sealed
    ∧ d.save = c.save ∧ getF Reg.HEEL_SAVE_CAUSE.CAUSE d = cause)
  ∧ (getF Reg.HEEL_SAVE_CAUSE.LATCHED c ≠ 1 → c.op = .off ∨ c.op = .dormant ∨ c.op = .waking ∨ c.op = .saving ∨ c.op = .saved → d = c)

/-- A fall of the 12 V input during Waking ends Waking at once (R63): RESULT reads "input fell" (3), with the step in progress, the failure is counted and
logged as in R62, the rails go down, and FAULT_N is not driven. The held image is untouched. -/
def Obligations.InputFallEndsWaking : Prop := ∀ s : State, s.ctl.op = .waking → s.ctl.heel.inputUp = true → s.ctl.waking.failed = false →
  ∃ t, exec .inputFall s = .next t ∧ getF Reg.HEEL_WAKE_STATUS.RESULT t.ctl = 3
    ∧ getF Reg.HEEL_WAKE_STATUS.STEP t.ctl = wakeStepNow s.ctl % 2 ^ Reg.HEEL_WAKE_STATUS.STEP.width
    ∧ (s.ctl.psq.vheelLow = false → ∃ r, t.ctl.psq.ring.head? = some r ∧ r.type = 2)
    ∧ t.ctl.heel.faultLow = s.ctl.heel.faultLow ∧ t.ctl.waking.failed = true ∧ (∃ o, wholeDown t.ctl = some o ∧ o.why = .waking)
    ∧ t.ctl.images = s.ctl.images ∧ t.ctl.nv = s.ctl.nv ∧ SameMemory s t

/-! ### Power, waking, thermal events and resets -/

/-- HEEL_POWER_ON, INPUT_WAKE, HEEL_WAKE_CMD, INPUT_RISE, INPUT_FALL, PFAIL_ASSERT and HEEL_SUPPLY_LOSS (R13, R14, R28, R63, R302): which
operating state each leads to and under which conditions. Waking entry loses the content of DRAM. -/
def Obligations.SupplyAndInputEvents : Prop := ∀ s : State,
  (s.ctl.op = .off → getF Reg.HEEL_WAKE_STATUS.RESTART_PENDING s.ctl = 0 → ∃ t, exec .heelPowerOn s = .next t ∧ t.ctl.op = .dormant
    ∧ t.ctl.heel.armed = true ∧ t.ctl.heel.inputUp = false ∧ getF Reg.CLK_STATUS.VALID t.ctl = 0 ∧ getF Reg.HEEL_NRG_SNAP.VALID t.ctl = 0
    ∧ t.ctl.clk.time = 0 ∧ (∀ p, p ∉ [Part.latches, .op, .prev, .heel, .clk] → p.Same s.ctl t.ctl)
    ∧ t.dram = s.dram ∧ t.poison = s.poison ∧ t.pending = s.pending)
  ∧ (s.ctl.op = .off → getF Reg.HEEL_WAKE_STATUS.RESTART_PENDING s.ctl = 1 → ∃ t, exec .heelPowerOn s = .next t ∧ t.ctl.op = .waking
    ∧ t.dram = [] ∧ t.poison = [] ∧ t.pending = s.pending)
  ∧ (s.ctl.op ≠ .off → exec .heelPowerOn s = .next s)
  ∧ (s.ctl.op ≠ .off → ∃ t, exec .heelSupplyLoss s = .next t ∧ t.ctl.op = .off ∧ t.dram = [] ∧ t.poison = [] ∧ t.pending = s.pending
    ∧ (∀ p ∈ [Part.nor, .fuses, .nv, .weltNv, .images], p.Same s.ctl t.ctl)
    ∧ (∀ f ∈ nvFields, getF f t.ctl = getF f s.ctl % 2 ^ f.width))
  ∧ LeadsTo .inputWake s (s.ctl.op = .dormant ∧ s.ctl.heel.armed = true ∧ s.ctl.heel.inputUp = true ∧ getF Reg.HEEL_WAKE_CFG.AUTO_WAKE s.ctl = 1)
    ⟨enterWaking s.ctl, [], [], s.pending⟩
  ∧ (∀ v, LeadsTo (.heelWakeCmd v) s (s.ctl.op = .dormant ∧ v % 65536 = 0x7A7E) ⟨enterWaking s.ctl, [], [], s.pending⟩)
  ∧ LeadsTo .inputRise s (s.ctl.op ≠ .off) (onCtl (fun c => { c with heel := { c.heel with inputUp := true } }) s)
  ∧ LeadsTo .inputFall s (s.ctl.op ≠ .off ∧ s.ctl.heel.inputUp = true)
    (onCtl (fun c =>
      let d := { c with heel := { c.heel with inputUp := false, armed := true } }
      if c.op = .waking then wakeFail 3 (wakeStepNow c) none d else saveTrigger 2 d) s)
  ∧ (s.ctl.op = .restoring ∨ s.ctl.op = .serving ∨ s.ctl.op = .derated ∨ s.ctl.op = .keep ∨ (s.ctl.op = .saving ∧ s.ctl.save.image.cause = 8) →
    exec .pfailAssert s = .next (onCtl (saveTrigger 1) s))
  ∧ (s.ctl.op = .waking → exec .pfailAssert s = .next (onCtl (wakeFail 3 (wakeStepNow s.ctl) none) s))
  ∧ (s.ctl.op = .off ∨ s.ctl.op = .dormant ∨ s.ctl.op = .saved ∨ (s.ctl.op = .saving ∧ s.ctl.save.image.cause ≠ 8) →
    exec .pfailAssert s = .next s)

/-- WAKE_STEP_COMPLETE, WAKE_STEP_TIMEOUT and CONFIGURATION_LOCK (R13, R61-R64): the steps that only complete set their own bit, W5 takes the
selected configuration copy, a timeout of W10 closes the guest port alone and any other fails Waking, and the lock enters Restoring. -/
def Obligations.WakeSteps : Prop := ∀ s : State,
  LeadsTo (.wakeStepComplete .oscillator) s (wakeOpen 2 s.ctl = true)
    (onCtl (fun c => { c with waking := { c.waking with done := bitSet c.waking.done 2 } }) s)
  ∧ LeadsTo (.wakeStepComplete .cxl) s (wakeOpen 11 s.ctl = true ∨ s.ctl.op = .restoring ∨ intakeState s.ctl = true)
    (onCtl (fun c => { c with waking := { c.waking with done := bitSet c.waking.done 11 } }) s)
  ∧ LeadsTo (.wakeStepComplete .supplies) s (wakeOpen 1 s.ctl = true ∧ (railOf s.ctl 0).st = .ready ∧ (railOf s.ctl 1).st = .ready)
    (onCtl (fun c => { c with waking := { c.waking with done := bitSet c.waking.done 1 } }) s)
  ∧ LeadsTo (.wakeStepComplete .guest) s (wakeOpen 10 s.ctl = true ∧ s.ctl.guest.ready = true ∧ s.ctl.waking.guestFailed = false)
    (onCtl (fun c => { c with waking := { c.waking with done := bitSet c.waking.done 10 } }) s)
  ∧ (∀ m, wakeOpen 5 s.ctl = true → s.ctl.waking.cfgBad = false → (∃ b, (selectCopy (variantS s.ctl) (getF Reg.HUB_STEPPING.HUB s.ctl) (dieStepping s.ctl) s.ctl.ef.genFloor
      s.ctl.fuses s.ctl.nor).active = some b ∧ norCopy s.ctl.nor b = m) →
    ∃ t, exec (.wakeStepComplete (.config none)) s = .next t ∧ t.ctl.cfg = some m ∧ t.ctl.waking.done.testBit 5 = true)
  ∧ (∀ n, wakeCurrent n s.ctl = true → n ≠ 10 ∨ (s.ctl.waking.thermalHold = true ∧ guestPresent s.ctl = true) → ∃ t r slot, exec (.wakeStepTimeout n) s = .next t ∧ r ∈ [2, 4, 5, 6]
    ∧ t = onCtl (fun c => wakeFail r n slot (if slot.isNone then railLogPut { railRec 1 9 none c with step := n } c else c)) s)
  ∧ (s.ctl.waking.thermalHold = false →
    LeadsTo (.wakeStepTimeout 10) s (wakeCurrent 10 s.ctl = true ∧ guestPresent s.ctl = true ∧ s.ctl.waking.guestFailed = false) (onCtl w10Fail s))
  ∧ (∀ n, wakeCurrent n s.ctl = false → exec (.wakeStepTimeout n) s = .next s)
  ∧ (lockReady s.ctl = true → ∃ t, exec .configurationLock s = .next t ∧ t.ctl.op = .restoring ∧ getF Reg.HUB_CFG_LOCK.LOCK t.ctl = 1
    ∧ getF Reg.HEEL_WAKE_STATUS.RESULT t.ctl = 1 ∧ t.ctl.heel.faultLow = false ∧ t.dram = s.dram ∧ t.poison = s.poison ∧ t.pending = s.pending)
  ∧ (lockReady s.ctl = false → exec .configurationLock s = .next s)

/-- DERATE_CLEAR, SERVICE_WAIT_EXPIRY, STALL_WAIT_EXPIRY, THERMAL_KEEP, THERMAL_KEEP_CLEAR, THERMAL_WARNING and THERMAL_TRIP (R13, R47, R446,
R447). -/
def Obligations.DegradeAndThermal : Prop := ∀ s : State,
  LeadsTo .derateClear s (s.ctl.op = .derated ∧ bothDies s.ctl = true ∧ effB s.ctl = getF Reg.DTK_BUDGET_CFG.VALUE s.ctl)
    (onCtl (fun c => goState .serving (setF Reg.HEEL_DEGRADE.DERATE (derateBits c) c)) s)
  ∧ LeadsTo .serviceWaitExpiry s (fwRunning s.ctl = true ∧ effB s.ctl < getF Reg.DTK_BUDGET_MIN.VALUE s.ctl
      ∧ (s.ctl.op = .restoring → restoreEnded s.ctl = true)) (onCtl (keepCause 1) s)
  ∧ LeadsTo .stallWaitExpiry s (fwRunning s.ctl = true ∧ (heldByBudget s.ctl .h0 = true ∨ heldByBudget s.ctl .h1 = true ∨ heldByBudget s.ctl .guest = true)) (onCtl (keepCause 2) s)
  ∧ (∀ die t, LeadsTo (.thermalKeep die t) s (hubPowered s.ctl = true ∧ 105 < t)
    (onCtl (fun c => keepCause 3 (logEvent 0x0B03 11 3 (die.val + fieldOf 8 t * 256) (setTemp die.val t c))) s))
  ∧ (∀ hub s0 s1, LeadsTo (.thermalKeepClear hub s0 s1) s (hubPowered s.ctl = true ∧ hub ≤ 95 ∧ s0 ≤ 95 ∧ s1 ≤ 95)
    (onCtl (fun c =>
      let d := { c with heel := { c.heel with temps := [hub, s0, s1] } }
      setF Reg.HEEL_DEGRADE.KEEP (bitClr (getF Reg.HEEL_DEGRADE.KEEP c) 3) d) s))
  ∧ (∀ die t, LeadsTo (.thermalWarning die t) s (hubPowered s.ctl = true ∧ 95 ≤ t)
    (onCtl (fun c => sbAlertSource 6 (logEvent 0x0B02 11 2 (die.val + fieldOf 8 t * 256) (setTemp die.val t c))) s))
  ∧ (∀ die t, hubPowered s.ctl = true → 115 ≤ t → s.ctl.op = .waking → ∃ u, exec (.thermalTrip die t) s = .next u
    ∧ u.ctl.waking.thermalHold = true ∧ u.ctl.heel.thermal = true ∧ u.ctl.op = .waking ∧ u.dram = s.dram ∧ u.poison = s.poison)
  ∧ (∀ die t, hubPowered s.ctl = true → 115 ≤ t → s.ctl.op ≠ .waking → s.ctl.op ≠ .saving → exec (.thermalTrip die t) s = .next (onCtl (fun c =>
      let d := logEvent 0x0B04 11 4 (die.val + fieldOf 8 t * 256) (setTemp die.val t c)
      saveTrigger 6 { d with heel := { d.heel with thermal := true } }) s))
  ∧ (∀ die t, hubPowered s.ctl = false ∨ t < 115 → exec (.thermalTrip die t) s = .next s)

/-- HEEL_SAVE_CMD, HUB_RESTART, HUB_FW_RESET, CORE_WATCHDOG, JTAG_DEBUG_REQUEST, TRST_LOW, FIRMWARE_RESTART, SAVE_DIE_WATCHDOG,
STICKY_HUB_FAULT and FCLK_RELOCK_TIMEOUT (R66-R72, R216, R445): the keys, and what each fault or reset calls up. -/
def Obligations.RestartsAndResets : Prop := ∀ s : State,
  (∀ v, LeadsTo (.heelSaveCmd v) s (v % 65536 = 0x5AFE ∧ (s.ctl.op = .restoring ∨ s.ctl.op = .serving ∨ s.ctl.op = .derated ∨ s.ctl.op = .keep))
    (onCtl (saveTrigger 5) s))
  ∧ (∀ v, v % 65536 = 0xA5A5 → s.ctl.op ≠ .dormant → exec (.hubRestart v) s = .next (onCtl restart s))
  ∧ (∀ v, v % 65536 = 0xA5A5 → s.ctl.op = .dormant → exec (.hubRestart v) s = .next ⟨restart s.ctl, [], [], s.pending⟩)
  ∧ (∀ v, v % 65536 ≠ 0xA5A5 → exec (.hubRestart v) s = .next s)
  ∧ (∀ v, LeadsTo (.hubFwReset v) s (v % 65536 = 0x5A5A) (onCtl (fwReset 0) s))
  ∧ (hubPowered s.ctl = true → fwRunning s.ctl = true → ∃ t, exec .coreWatchdog s = .next t ∧ fwRunning t.ctl = false
    ∧ getF Reg.HUB_RESET_CAUSE.FW_WDOG t.ctl = 1 ∧ t.ctl.evr.buffer = [] ∧ getF Reg.EVR_LOST.RESET t.ctl
      = min 255 (getF Reg.EVR_LOST.RESET s.ctl + s.ctl.evr.buffer.length) ∧ getF Reg.NRG_STATUS.CHG_STATE t.ctl = (if getF Reg.NRG_STATUS.CHG_STATE s.ctl = 7 then 7 else 0)
    ∧ t.ctl.op = s.ctl.op ∧ t.dram = s.dram ∧ t.poison = s.poison ∧ t.pending = s.pending)
  ∧ LeadsTo .jtagDebugRequest s (hubPowered s.ctl = true ∧ fwRunning s.ctl = true)
    (onCtl (fun c => fwReset 3 { c with heel := { c.heel with trstLow := false } }) s)
  ∧ LeadsTo .trstLow s (s.ctl.op ≠ .off) (onCtl (fun c => { c with heel := { c.heel with trstLow := true } }) s)
  ∧ (hubPowered s.ctl = true → fwRunning s.ctl = false → wakeDone s.ctl 4 = true → s.ctl.op ≠ .saving → s.ctl.op ≠ .saved →
    (∃ p, fwSlotOf s.ctl s.ctl.ef.bootSlot = some p ∧ fwValid s.ctl p = true) →
    exec (.firmwareRestart true) s = .next (onCtl (fwBack s.ctl.ef.bootSlot) s))
  ∧ (∀ good, hubPowered s.ctl = false ∨ fwRunning s.ctl = true ∨ wakeDone s.ctl 4 = false ∨ s.ctl.op = .saving ∨ s.ctl.op = .saved →
    exec (.firmwareRestart good) s = .next s)
  ∧ (∀ d, hubPowered s.ctl = true → dieInService s.ctl d.val = true → exec (.saveDieWatchdog d) s = .next (onCtl (dieLeaves d.val 2) s))
  ∧ (∀ d, hubPowered s.ctl = false → exec (.saveDieWatchdog d) s = .next s)
  ∧ (∀ unit word, LeadsTo (.stickyHubFault unit word) s (hubPowered s.ctl = true)
    (onCtl (fun c => restart (logEvent 0x0103 1 4 (unit % 65536 + word * 65536) c)) s))
  ∧ LeadsTo .fclkRelockTimeout s (s.ctl.op = .saving ∧ wholeDown s.ctl = none) (onCtl (fun c => endUnsealed (savePipesEnd c)) s)

/-! ### The memory pipeline -/

/-- MEM_RD, MEM_RD_DATA, MEM_WR, MEM_WR_PTL, MEM_INV, MEM_INV_NT and MEM_SPEC_RD (R109, R111, R112, R126): with intake open and a credit, a request
that a committed decoder covers joins the end of its head's source queue with its DPA and its page hint; one that none covers is answered
at once (a read with all ones, poisoned; MEM_SPEC_RD with nothing) and counted; with intake closed or without a credit nothing happens. -/
def Obligations.MemoryRequestsEnterTheQueue : Prop := ∀ (s : State) (i : Instr) (h : HeadId) (hpa : Nat) (r : Req),
  m2sRequest i = some (h, hpa, r) →
  (∀ dpa d, intakeOpen s.ctl h = true → headCredit s.ctl h (isWrite r.op) = true → hpaToDpa s.ctl h hpa = some (dpa, d) →
    ∃ t, exec i s = .next t ∧ queueOf t.ctl (srcOfHead h) = queueOf s.ctl (srcOfHead h)
        ++ [{ r with dpa := dpa, hint := if r.op = .specRd then 0 else hintOf s.ctl h d }]
      ∧ queueOf t.ctl (srcOfHead (1 - h)) = queueOf s.ctl (srcOfHead (1 - h)) ∧ t.ctl.pipe.qg = s.ctl.pipe.qg
      ∧ t.ctl.cxl.gpf ≠ some h ∧ t.ctl.chans = s.ctl.chans ∧ t.ctl.dtk = s.ctl.dtk
      ∧ t.dram = s.dram ∧ t.poison = s.poison ∧ t.pending = s.pending)
  ∧ (intakeOpen s.ctl h = true → headCredit s.ctl h (isWrite r.op) = true → hpaToDpa s.ctl h hpa = none →
    ∃ t, exec i s = .next t ∧ (∀ x, queueOf t.ctl x = queueOf s.ctl x)
      ∧ (r.op = .rd → ∃ load, (⟨.head h, .memData, [r.tag, 1, load, metaNoOp], onesLine⟩ : Msg) ∈ t.ctl.sent)
      ∧ (r.op = .wr ∨ r.op = .wrPtl ∨ r.op = .inv → ∃ load, (⟨.head h, .cmp, [r.tag, load, metaNoOp], []⟩ : Msg) ∈ t.ctl.sent)
      ∧ t.ctl.chans = s.ctl.chans ∧ t.ctl.dtk = s.ctl.dtk ∧ t.dram = s.dram ∧ t.poison = s.poison ∧ t.pending = s.pending)
  ∧ (intakeOpen s.ctl h = false ∨ headCredit s.ctl h (isWrite r.op) = false → exec i s = .next s)

/-- ARBITRATE_GRANT, M2S_PROTOCOL_ERROR and THROTTLE_TRICKLE (R111, R115, R118, R130). A grant takes the oldest request of the source that the
arbiter picks once the internal engines have taken what entries are free; in a round that has ended the counters are loaded first; with no
admissible source nothing is granted. An M2S message of another opcode is recorded by the head's RAS capability, and discarded. At the end of a
millisecond the tokens of TRICKLE that have not joined the bucket yet do so, up to 256. -/
def Obligations.GrantsAndTokens : Prop := ∀ s : State,
  (∀ x r rest, pickSource (engines (markHeld s.ctl)) = some x → queueOf (engines (markHeld s.ctl)) x = r :: rest →
    exec .arbitrateGrant s = .next (onCtl (fun c => grant x r rest (takeTurn x (engines (markHeld c)))) s))
  ∧ (∀ x r rest, pickSource (engines (markHeld s.ctl)) = none → pickSource (reloadCtrs (engines (markHeld s.ctl))) = some x →
    queueOf (reloadCtrs (engines (markHeld s.ctl))) x = r :: rest →
    exec .arbitrateGrant s = .next (onCtl (fun c => grant x r rest (takeTurn x (reloadCtrs (engines (markHeld c))))) s))
  ∧ (pickSource (engines (markHeld s.ctl)) = none → pickSource (reloadCtrs (engines (markHeld s.ctl))) = none →
    exec .arbitrateGrant s = .next (onCtl (fun c => reloadCtrs (engines (markHeld c))) s))
  ∧ (∀ h op, LeadsTo (.m2sProtocolError h op) s ((headOf s.ctl h).linkUp = true)
    (onCtl (fun c => send ⟨.head h, .protocolError, [op], []⟩ (updHead h (fun d => { d with ras := op :: d.ras }) (leaveL1 h c))) s))
  ∧ ∃ t, exec .throttleTrickle s = .next t ∧ t.ctl.pipe = { s.ctl.pipe with trickled := 0, trickleAt := s.ctl.uptime }
    ∧ tokens t.ctl = (if throttled s.ctl then min 256 (tokens s.ctl + (getF Reg.MEM_THROTTLE_CFG.TRICKLE s.ctl - s.ctl.pipe.trickled)) else tokens s.ctl)
    ∧ KeepsRegs [Reg.MEM_THROTTLE_STATUS.TOKENS] s t ∧ (∀ p, p ≠ Part.pipe → p.Same s.ctl t.ctl) ∧ SameMemory s t

/-- The arbiter never grants a request that a condition of R116 holds back, nor one of a source whose counter is 0; and it grants whenever
some source is admissible with a counter above 0 (R116, R118).
A write past Commit advances the commit sequence number by one and sets TOUCH on its frame, which is no longer Clean; its frame is the only
one whose tracking record changes (R121, R170, R171). -/
def Obligations.ArbiterAndCommit : Prop :=
  (∀ c : Ctl,
  (∀ x, pickSource c = some x → ∃ r rest, queueOf c x = r :: rest ∧ holdReason c x r = 0 ∧ 0 < ctrOf c x)
  ∧ (pickSource c = none → ∀ x r rest, queueOf c x = r :: rest → holdReason c x r = 0 → ctrOf c x = 0))
  ∧ (∀ (c : Ctl) (x : Source) (r : Req),
  let f := frameOfLine (r.dpa / 64)
  let d := commitWrite x r c
  getF Reg.MEM_CSN.CSN d = (getF Reg.MEM_CSN.CSN c + 1) % 2 ^ Reg.MEM_CSN.CSN.width
  ∧ (frameRec d f).base ≠ .clean ∧ (frameRec d f).touch = true
  ∧ ∀ g, g ≠ f → frameRec d g = frameRec c g)

/-- The interleave of R138: the channel index is the XOR of the three groups of bits above the grain, or the first alone without the hash, and is
doubled with four channels; the channel address leaves the first group out. The mapping is one-to-one: a DPA is found again from its channel and
channel address, and every channel address of a channel is that of the DPA that the inverse gives. Every 2 MiB frame spreads evenly over the
channels. -/
def Obligations.InterleaveOneToOne : Prop := ∀ c : Ctl,
  let g := grainBits c
  let n := if fourCh c then 2 else 3
  let b := fun (dpa k : Nat) => dpa / 2 ^ (g + k * n) % 2 ^ n
  let index := fun (dpa : Nat) => if getF Reg.MEM_ILV_CFG.HASH c = 1 then b dpa 0 ^^^ b dpa 1 ^^^ b dpa 2 else b dpa 0
  (∀ dpa, chanOf c dpa = (if fourCh c then 2 * index dpa else index dpa) ∧ chanAddr c dpa = ((dpa >>> (g + n)) <<< g) ||| dpa % 2 ^ g)
  ∧ (∀ dpa, dpaOf c (chanOf c dpa) (chanAddr c dpa) = dpa)
  ∧ (∀ ch ca, ch < 8 → (fourCh c = true → ch % 2 = 0) → chanOf c (dpaOf c ch ca) = ch ∧ chanAddr c (dpaOf c ch ca) = ca)
  ∧ (∀ f ch, getF Reg.MEM_ILV_CFG.GRAIN c ≤ 6 → ch < 8 → (fourCh c = true → ch % 2 = 0) →
    ((List.range (2 ^ (21 - g))).filter (fun k => chanOf c (f * 2097152 + k * 2 ^ g) == ch)).length * 2 ^ n = 2 ^ (21 - g))

/-! ### DRAM channels -/

/-- DRAM_READ_ISSUE, WRITE_AGE_EXPIRY, ROW_IDLE_CLOSE, MR4_POLL, PHY_PLL_LOCK_LOSS, WRITE_CRC_ALERT (R142-R144, R147, R149, R157): each acts on its
own channel. A read that issues leaves its queue (`u`), and the internal engines then take the entry that is free. The write of a line is retried
three times, the channel then runs ZQ calibration and an incremental run, and after three retries more it fails. -/
def Obligations.ChannelCommands : Prop := ∀ (s : State) (ch : Fin 8),
  (∀ sub e, chActive s.ctl ch.val = true → pickRead s.ctl ch.val sub.val = some e → ∃ u, exec (.dramReadIssue ch sub) s = .next (onCtl engines u)
    ∧ (chanSt (engines u.ctl) ch.val).issued = (chanSt s.ctl ch.val).issued ++ [e]
    ∧ (chanSt u.ctl ch.val).rq.length = ((chanSt s.ctl ch.val).rq.filter (fun x => x.id != e.id || x.who != e.who)).length
    ∧ (chanSt u.ctl ch.val).wq = (chanSt s.ctl ch.val).wq ∧ (∀ n, n ≠ ch.val → chanSt u.ctl n = chanSt s.ctl n)
    ∧ (∀ p, p ≠ Part.chans → p.Same s.ctl u.ctl) ∧ u.ctl.rf = s.ctl.rf ∧ SameMemory s u)
  ∧ (∀ sub, chActive s.ctl ch.val = false ∨ pickRead s.ctl ch.val sub.val = none → exec (.dramReadIssue ch sub) s = .next s)
  ∧ (∀ e rest, (chanSt s.ctl ch.val).wq = e :: rest → LeadsTo (.writeAgeExpiry ch) s (getF (Reg.DRC_STATUS.BATCH ch.val) s.ctl ≠ 1)
    (onCtl (fun c => setF (Reg.DRC_STATUS.BATCH ch.val) 1 (updChan ch.val (fun k => { k with agedId := some e.id }) c)) s))
  ∧ ((chanSt s.ctl ch.val).wq = [] → exec (.writeAgeExpiry ch) s = .next s)
  ∧ (∀ bank, ∃ t, exec (.rowIdleClose ch bank) s = .next t ∧ (bankRow t.ctl ch.val bank).row = none
    ∧ (∀ b, b ≠ bank → bankRow t.ctl ch.val b = bankRow s.ctl ch.val b) ∧ (∀ n, n ≠ ch.val → chanSt t.ctl n = chanSt s.ctl n)
    ∧ (chanSt t.ctl ch.val).rq = (chanSt s.ctl ch.val).rq ∧ (chanSt t.ctl ch.val).wq = (chanSt s.ctl ch.val).wq
    ∧ (∀ p, p ≠ Part.chans → p.Same s.ctl t.ctl) ∧ t.ctl.rf = s.ctl.rf ∧ t.dram = s.dram ∧ t.poison = s.poison ∧ t.pending = s.pending)
  ∧ (∀ hot, LeadsTo (.mr4Poll ch hot) s (chActive s.ctl ch.val = true) (onCtl (setF (Reg.DRC_STATUS.FAST_REF ch.val) (b2n hot)) s))
  ∧ LeadsTo (.phyPllLockLoss ch true) s (chActive s.ctl ch.val = true) (onCtl (updChan ch.val (fun k => { k with banks := closeRows (fun _ => true) k.banks })) s)
  ∧ LeadsTo (.phyPllLockLoss ch false) s (chActive s.ctl ch.val = true) (onCtl (channelFail ch.val 1) s)
  ∧ (∀ line temp lanes retrain, chActive s.ctl ch.val = true → getF (Reg.DRC_TOPO.WCRC_EN ch.val) s.ctl = 1 →
    let n := mapGet 0 (chanSt s.ctl ch.val).wcrc line + 1
    let counted := updChan ch.val (fun k => { k with wcrc := mapSet 0 k.wcrc line n })
    (n < 7 → n ≠ 4 → ∃ t, exec (.writeCrcAlert ⟨ch, line, temp, lanes, retrain⟩) s = .next t ∧ chanSt t.ctl ch.val = chanSt (counted s.ctl) ch.val
      ∧ (∀ k, k ≠ ch.val → chanSt t.ctl k = chanSt s.ctl k) ∧ getF (Reg.DRC_WCRC.RETRIES ch.val) t.ctl = satInc (Reg.DRC_WCRC.RETRIES ch.val).width (getF (Reg.DRC_WCRC.RETRIES ch.val) s.ctl) % 2 ^ (Reg.DRC_WCRC.RETRIES ch.val).width
      ∧ KeepsRegs [Reg.DRC_WCRC.RETRIES ch.val] s t ∧ (∀ p, p ≠ Part.chans → p.Same s.ctl t.ctl) ∧ SameMemory s t)
    ∧ (n = 4 → exec (.writeCrcAlert ⟨ch, line, temp, lanes, retrain⟩) s = .next (onCtl (fun c => runOn ch.val temp lanes retrain
      (addF (Reg.DRC_WCRC.RECAL ch.val) (addF (Reg.DRC_WCRC.RETRIES ch.val) (counted c)))) s))
    ∧ (7 ≤ n → exec (.writeCrcAlert ⟨ch, line, temp, lanes, retrain⟩) s = .next (onCtl (fun c => channelFail ch.val 4 (counted c)) s)))
  ∧ (∀ line temp lanes retrain, chActive s.ctl ch.val = false ∨ getF (Reg.DRC_TOPO.WCRC_EN ch.val) s.ctl = 0 →
    exec (.writeCrcAlert ⟨ch, line, temp, lanes, retrain⟩) s = .next s)

/-- DRAM_WRITE_ISSUE (R120, R144): the write that the scheduler picks leaves its queue (`u`), and the internal engines then take the entries that are
free; the 64 bytes of its line take its data and the line its poison marker; every other byte and marker of DRAM is as it was. With nothing to
issue nothing changes. -/
def Obligations.WriteIssueStoresTheLine : Prop := ∀ (s : State) (ch : Fin 8) (sub : Fin 2),
  (∀ e, chActive s.ctl ch.val = true → pickWrite s.ctl ch.val sub.val = some e → ∃ t u, exec (.dramWriteIssue ch sub) s = .next t ∧ t = onCtl engines u
    ∧ (∀ i, i < 64 → t.byte (e.line * 64 + i) = e.data.getD i 0)
    ∧ (∀ a, a < e.line * 64 ∨ e.line * 64 + 64 ≤ a → t.byte a = s.byte a)
    ∧ (∀ l, l ≠ e.line → (l ∈ t.poison ↔ l ∈ s.poison))
    ∧ (e.poison = true → e.line ∈ t.poison) ∧ (e.poison = false → Rising s.poison → e.line ∉ t.poison)
    ∧ (chanSt u.ctl ch.val).wq = (chanSt s.ctl ch.val).wq.filter (fun x => x.id != e.id)
    ∧ (chanSt u.ctl ch.val).rq = (chanSt s.ctl ch.val).rq ∧ mapGet 0 (chanSt u.ctl ch.val).wcrc e.line = 0
    ∧ (∀ n, n ≠ ch.val → chanSt u.ctl n = chanSt s.ctl n) ∧ KeepsRegs [Reg.DRC_STATUS.BATCH ch.val] s u
    ∧ (∀ p, p ∉ [Part.chans, .pipe] → p.Same s.ctl u.ctl) ∧ t.pending = s.pending)
  ∧ (chActive s.ctl ch.val = false ∨ pickWrite s.ctl ch.val sub.val = none → exec (.dramWriteIssue ch sub) s = .next s)

/-- READ_DATA_RETURN (R113, R150): clean data of a host read goes to the head that asked, with the bytes and the marker that DRAM holds; the
read leaves the channel and its in-flight entry is free (`u`), which the internal engines may then take. With no read issued nothing changes.
Correction gives back what was stored (R150): the data that a device delivers in error, corrected by the values the check finds, is the
data that was stored. -/
def Obligations.ReadsAndCorrection : Prop :=
  (∀ (s : State) (ch : Fin 8) (resource : Bool) (e : REntry) (rest : List REntry) (h : HeadId) (tag : Nat),
  ((chanSt s.ctl ch.val).issued = e :: rest → e.who = .source (srcOfHead h) tag → tag < dropTag → e.line ∉ s.poison →
    (headOf s.ctl 0).pmeWait = false → (headOf s.ctl 1).pmeWait = false →
    eccCheck (markOf s.ctl ch.val (markIndex (lineAddr s.ctl e.line))) [] = .clean ∧
    ∃ u load, exec (.readDataReturn ch ⟨[], none⟩ resource) s = .next (onCtl engines u)
      ∧ u.ctl.sent = ⟨.head h, .memData, [tag, 0, load, metaNoOp], memReadList 0 s.dram (e.line * 64) 64⟩ :: s.ctl.sent
      ∧ (chanSt u.ctl ch.val).issued = rest ∧ u.ctl.pipe.flights = s.ctl.pipe.flights.filter (fun f => f.id != e.id)
      ∧ (∀ n, n ≠ ch.val → chanSt u.ctl n = chanSt s.ctl n) ∧ (∀ p, p ∉ [Part.chans, .pipe, .sent] → p.Same s.ctl u.ctl)
      ∧ u.ctl.rf = s.ctl.rf ∧ SameMemory s u)
  ∧ (∀ flips reached, (chanSt s.ctl ch.val).issued = [] → exec (.readDataReturn ch ⟨flips, reached⟩ resource) s = .next s))
  ∧ (∀ (d : Nat) (v0 v1 v2 v3 : BitVec 16) (data : List Byte),
  correct d [v0, v1, v2, v3] (delivered [⟨d, 0, v0⟩, ⟨d, 1, v1⟩, ⟨d, 2, v2⟩, ⟨d, 3, v3⟩] data) = data)

/-- The error check corrects every error that keeps to one device (R150): a single error v in device d gives the syndromes v and v·α^d, an error pattern
with any values in the four symbols of a device, not all of them 0, is found to be that device's, with exactly those values; a codeword whose
syndromes point to no device, or two codewords that point to different devices, make the line uncorrectable; and a line without an error is clean. -/
def Obligations.OneDeviceIsCorrected : Prop := eccCheck none [] = .clean
  ∧ (∀ (d k : Nat) (v : BitVec 16), d < 10 → syndrome [⟨d, k, v⟩] k = (v, mulPow d v))
  ∧ (∀ (d : Nat) (v0 v1 v2 v3 : BitVec 16), d < 10 → (v0 ≠ 0 ∨ v1 ≠ 0 ∨ v2 ≠ 0 ∨ v3 ≠ 0) →
    eccCheck none [⟨d, 0, v0⟩, ⟨d, 1, v1⟩, ⟨d, 2, v2⟩, ⟨d, 3, v3⟩] = .corrected d [v0, v1, v2, v3])
  ∧ (∀ s0 s1 : BitVec 16, s0 ≠ 0 → (∀ e, e < 10 → mulPow e s0 ≠ s1) → errorDevice (s0, s1) = none)
  ∧ (∀ (d e k j : Nat) (v w : BitVec 16), d < 10 → e < 10 → d ≠ e → k < 4 → j < 4 → k ≠ j → v ≠ 0 → w ≠ 0 →
    eccCheck none [⟨d, k, v⟩, ⟨e, j, w⟩] = .uncorrectable)

/-- REFRESH_DUE, PATROL_SCRUB_READ, CALIBRATION_CHECK, INCREMENTAL_RUN, FLASH_INTERFACE_RUN, RUN_DRAM and RUN_FLASH (R147, R153, R158-R162, R167). -/
def Obligations.RefreshScrubAndCalibration : Prop := ∀ s : State,
  (∀ (ch : Fin 8) (rank : Fin 2), chActive s.ctl ch.val = true → ∃ t, exec (.refreshDue ch rank false) s = .next t
    ∧ postponedOf t.ctl ch.val rank.val = 0 ∧ (4 ≤ postponedAll s.ctl ch.val → postponedAll t.ctl ch.val = 0)
    ∧ (∀ bank, bank / 256 = rank.val → (bankRow t.ctl ch.val bank).row = none)
    ∧ (postponedAll s.ctl ch.val < 4 → postponedOf t.ctl ch.val (1 - rank.val) = postponedOf s.ctl ch.val (1 - rank.val)
      ∧ (chanSt t.ctl ch.val).banks = closeRows (fun b => b / 256 == rank.val) (chanSt s.ctl ch.val).banks)
    ∧ (chanSt t.ctl ch.val).rq = (chanSt s.ctl ch.val).rq ∧ (chanSt t.ctl ch.val).wq = (chanSt s.ctl ch.val).wq
    ∧ KeepsRegs [Reg.DRC_STATUS.POSTPONED ch.val] s t ∧ (∀ n, n ≠ ch.val → chanSt t.ctl n = chanSt s.ctl n)
    ∧ (∀ p, p ∉ [Part.chans, .cal] → p.Same s.ctl t.ctl) ∧ SameMemory s t)
  ∧ (∀ (ch : Fin 8) (rank : Fin 2), chActive s.ctl ch.val = true →
    getF (Reg.DRC_STATUS.BATCH ch.val) s.ctl = 1 ∨ (chanSt s.ctl ch.val).rq ≠ [] → postponedAll s.ctl ch.val < 4 →
    exec (.refreshDue ch rank true) s = .next (onCtl (fun c => setPostponed ch.val rank.val (postponedOf c ch.val rank.val + 1) c) s))
  ∧ (∀ (ch : Fin 8) rank p, chActive s.ctl ch.val = false → exec (.refreshDue ch rank p) s = .next s)
  ∧ (∀ ch : Fin 8, chActive s.ctl ch.val = true → getF (Reg.DRC_SCRUB_CFG.ENABLE ch.val) s.ctl = 1 → s.ctl.op ≠ .saving → 0 < linesPerChan s.ctl →
    readRoom s.ctl ch.val = true → flightRoom s.ctl 1 = true → ∃ t, exec (.patrolScrubRead ch) s = .next t ∧ (chanSt t.ctl ch.val).scrubLine = ((chanSt s.ctl ch.val).scrubLine + 1) % linesPerChan s.ctl
      ∧ KeepsRegs [Reg.DRC_SCRUB_STATUS.PERCENT ch.val, Reg.DRC_SCRUB_STATUS.PASSES ch.val] s t
      ∧ (∀ n, n ≠ ch.val → chanSt t.ctl n = chanSt s.ctl n) ∧ (∀ p, p ∉ [Part.chans, .pipe] → p.Same s.ctl t.ctl)
      ∧ t.dram = s.dram ∧ t.poison = s.poison ∧ t.pending = s.pending
      ∧ (let line := dpaOf s.ctl ch.val ((chanSt s.ctl ch.val).scrubLine * 64) / 64
        (chanSt t.ctl ch.val).rq = if unrestored s.ctl (frameOfLine line) || (queuedWrite s.ctl line).isSome then (chanSt s.ctl ch.val).rq
          else (chanSt s.ctl ch.val).rq ++ [⟨s.ctl.pipe.nextId, line, 2, .scrub, 0, s.ctl.uptime, [], 0, false⟩]))
  ∧ (∀ ch : Fin 8, chActive s.ctl ch.val = false ∨ getF (Reg.DRC_SCRUB_CFG.ENABLE ch.val) s.ctl = 0 ∨ s.ctl.op = .saving ∨ linesPerChan s.ctl = 0 →
    exec (.patrolScrubRead ch) s = .next s)
  ∧ (∀ hub s0 s1 aged, calState s.ctl = true → fwRunning s.ctl = true → ∃ t, exec (.calibrationCheck hub s0 s1 aged) s = .next t
    ∧ (∀ ch, ch < 8 → ch ∈ aged → chPopulated s.ctl ch = true → chActive s.ctl ch = true → (chanSt t.ctl ch).calDue = true)
    ∧ (∀ m, m < 64 → 8 + m ∈ aged → flashPopulated s.ctl m = true → m ∈ t.ctl.cal.flashDue)
    ∧ t.ctl.rf = s.ctl.rf ∧ (∀ p, p ∉ [Part.chans, .cal] → p.Same s.ctl t.ctl) ∧ t.dram = s.dram ∧ t.poison = s.poison ∧ t.pending = s.pending)
  ∧ (∀ (ch : Fin 8) temp lanes retrain, calState s.ctl = true → runMay s.ctl ch.val = true → chActive s.ctl ch.val = true →
    (chanSt s.ctl ch.val).calDue = true → lanesFull s.ctl ch.val lanes = true → ∃ t, exec (.incrementalRun ch temp lanes retrain) s = .next t
      ∧ t = onCtl (fun c => runOn ch.val temp lanes retrain { c with cal := { c.cal with inPause := none } }) s
      ∧ (eyeBelow 8 lanes = false → (chanSt t.ctl ch.val).calDue = false ∧ (chanSt t.ctl ch.val).applying = lanes
        ∧ getF (Reg.CAL_DRAM_EYE.TEMP_LAST ch.val) t.ctl = fieldOf 8 temp ∧ getF (Reg.CAL_DRAM_EYE.RD_EYE ch.val) t.ctl = minOf (·.rdEye) lanes
        ∧ getF (Reg.CAL_DRAM_EYE.WR_EYE ch.val) t.ctl = minOf (·.wrEye) lanes ∧ chActive t.ctl ch.val = true ∧ t.ctl.op = s.ctl.op))
  ∧ (∀ (ch : Fin 64) temp lanes, calState s.ctl = true → fwRunning s.ctl = true → ch.val ∈ s.ctl.cal.flashDue → flashGapNow s.ctl ch.val = true → ∃ t,
    exec (.flashInterfaceRun ch temp lanes) s = .next t ∧ getF (Reg.CAL_FLASH_EYE.TEMP_LAST ch.val) t.ctl = fieldOf 8 temp
    ∧ getF (Reg.CAL_FLASH_EYE.RD_EYE ch.val) t.ctl = minOf (·.rdEye) lanes ∧ t.ctl.op = s.ctl.op
    ∧ t.dram = s.dram ∧ t.poison = s.poison ∧ t.pending = s.pending)
  ∧ LeadsTo .runDram s (calState s.ctl = true ∧ dramBusy s.ctl = false)
    (onCtl (fun c => (List.range 8).foldl (fun c ch => markDram ch c) c) s)
  ∧ LeadsTo .runFlash s (calState s.ctl = true ∧ flashBusy s.ctl = false)
    (onCtl (fun c => (List.range 64).foldl (fun c m => markFlash m c) c) s)

/-! ### The save -/

/-- SAVE_START, FILL, SFETCH, SFETCH_DATA, UNIT_PROGRAM_DONE, DIE_DROP_TIMEOUT and CONFIRM (R194, R200, R201, R208, R209): what a save die in
service does with its part of a save. A die whose pipeline does not run does nothing.
FW_LOAD, KEY and SERVICE (R19, R215, R219): what the hub tells a save die. -/
def Obligations.SaveDies : Prop :=
  (∀ (s : State) (d : Fin 2),
  (s.ctl.op = .saving → dieInService s.ctl d.val = true → wholeDown s.ctl = none → (dieSave s.ctl d.val).started = false →
    ∃ t, exec (.saveStart d) s = .next t ∧ (dieSave t.ctl d.val).started = true ∧ getF (Reg.SAV_SD_STATUS.SAVING d.val) t.ctl = 1
      ∧ getF (Reg.SAV_SD_UNITS.COUNT d.val) t.ctl = 0 ∧ t.ctl.op = .saving ∧ t.dram = s.dram ∧ t.poison = s.poison ∧ t.pending = s.pending)
  ∧ (s.ctl.op ≠ .saving ∨ dieInService s.ctl d.val = false ∨ (wholeDown s.ctl).isSome = true ∨ (dieSave s.ctl d.val).started = true →
    exec (.saveStart d) s = .next s)
  ∧ LeadsTo (.fill d) s (saveRuns s.ctl d.val = true ∧ (dieSave s.ctl d.val).fill = none)
    (onCtl (fun c => sendLink d.val .fill [fillHalf c d.val] [] (updDie d.val (fun x => { x with fill := some (fillHalf c d.val) }) c)) s)
  ∧ (∀ n u, saveRuns s.ctl d.val = true → nextFetch s.ctl d.val = some (n, u) → ∃ t, exec (.sfetch d) s = .next t
    ∧ (dieSave t.ctl d.val).requested = (dieSave s.ctl d.val).requested ++ [placeUnit s.ctl n u]
    ∧ (dieSave t.ctl (1 - d.val)) = dieSave s.ctl (1 - d.val) ∧ (⟨.link d, .sfetch, [n, u], []⟩ : Msg) ∈ t.ctl.sent
    ∧ t.dram = s.dram ∧ t.poison = s.poison ∧ t.pending = s.pending)
  ∧ (saveRuns s.ctl d.val = false ∨ nextFetch s.ctl d.val = none → exec (.sfetch d) s = .next s)
  ∧ (∀ key x, saveRuns s.ctl d.val = true → (dieSave s.ctl d.val).requested.find? (fun k => !(dieSave s.ctl d.val).fetched.contains k) = some key →
    saveFetch s.ctl d.val key = some x → x.complete = true →
    ∃ t, exec (.sfetchData d) s = .next t ∧ key ∈ (dieSave t.ctl d.val).fetched
      ∧ (mapGet UnitRec.init t.ctl.save.image.units ((keyUnit s.ctl key).1 * 64 + (keyUnit s.ctl key).2)).content = x.got
      ∧ (∃ args, (⟨.link d, .sfetchData, args, contentBytes x.got (unitBytes s.ctl)⟩ : Msg) ∈ t.ctl.sent)
      ∧ t.dram = s.dram ∧ t.poison = s.poison ∧ t.pending = s.pending)
  ∧ (∀ k r pos busy, saveRuns s.ctl d.val = true → unitKey k r pos ∈ (dieSave s.ctl d.val).fetched →
    unitKey k r pos ∉ (dieSave s.ctl d.val).programmed → unitBefore s.ctl d.val (unitKey k r pos) = false →
    ∃ t, exec (.unitProgramDone d k r pos true busy) s = .next t
    ∧ (dieSave t.ctl d.val).programmed = (dieSave s.ctl d.val).programmed ++ [unitKey k r pos]
    ∧ getF (Reg.SAV_SD_UNITS.COUNT d.val) t.ctl = min (getF (Reg.SAV_SD_UNITS.COUNT d.val) s.ctl + 1) (2 ^ (Reg.SAV_SD_UNITS.COUNT d.val).width - 1)
    ∧ t.dram = s.dram ∧ t.poison = s.poison ∧ t.pending = s.pending)
  ∧ (∀ k r pos busy n, saveRuns s.ctl d.val = true → unitKey k r pos ∈ (dieSave s.ctl d.val).fetched →
    unitKey k r pos ∉ (dieSave s.ctl d.val).programmed → unitBefore s.ctl d.val (unitKey k r pos) = false →
    mapFind (dieSave s.ctl d.val).tries (unitKey k r pos) = some n → 2 ≤ n.1 →
    ∃ t, exec (.unitProgramDone d k r pos false busy) s = .next t
    ∧ (dieSave t.ctl d.val).programmed = (dieSave s.ctl d.val).programmed ++ [unitKey k r pos]
    ∧ t.ctl.save.image.missing = s.ctl.save.image.missing ++ [imageKey (inFallback s.ctl d.val (unitKey k r pos)) (unitKey k r pos)]
    ∧ t.dram = s.dram ∧ t.poison = s.poison ∧ t.pending = s.pending)
  ∧ (∀ k r pos ok busy, saveRuns s.ctl d.val = false ∨ unitKey k r pos ∉ (dieSave s.ctl d.val).fetched
    ∨ unitKey k r pos ∈ (dieSave s.ctl d.val).programmed ∨ unitBefore s.ctl d.val (unitKey k r pos) = true →
    exec (.unitProgramDone d k r pos ok busy) s = .next s)
  ∧ (∀ k pos key, saveRuns s.ctl d.val = true → setMember s.ctl d.val k pos ∉ (dieSave s.ctl d.val).dropped → key ∈ (dieSave s.ctl d.val).fetched →
    unitWay s.ctl d.val key = setMember s.ctl d.val k pos → key ∉ (dieSave s.ctl d.val).programmed → ∃ t, exec (.dieDropTimeout d k pos) s = .next t
    ∧ setMember s.ctl d.val k pos ∈ (dieSave t.ctl d.val).dropped ∧ key ∈ (dieSave t.ctl d.val).programmed
    ∧ imageKey (inFallback s.ctl d.val key) key ∈ t.ctl.save.image.missing
    ∧ t.dram = s.dram ∧ t.poison = s.poison ∧ t.pending = s.pending)
  ∧ (∀ k pos, saveRuns s.ctl d.val = false ∨ setMember s.ctl d.val k pos ∈ (dieSave s.ctl d.val).dropped → exec (.dieDropTimeout d k pos) s = .next s)
  ∧ (saveRuns s.ctl d.val = true → ∃ t, exec (.confirm d) s = .next t
    ∧ (∀ n, n < slotTotal s.ctl → takesSlot s.ctl d.val n = true → slotDone s.ctl d.val n = true → t.ctl.save.confirm.testBit n = true)
    ∧ (∀ n, s.ctl.save.confirm.testBit n = true → t.ctl.save.confirm.testBit n = true)
    ∧ t.dram = s.dram ∧ t.poison = s.poison ∧ t.pending = s.pending)
  ∧ (saveRuns s.ctl d.val = false → exec (.confirm d) s = .next s))
  ∧ (∀ (s : State) (d : Fin 2),
  (s.ctl.op = .waking → wakeGoes s.ctl = true → wakeDone s.ctl 7 = true → linkLive s.ctl d.val = true → ∃ t, exec (.fwLoad d) s = .next t
    ∧ t.ctl.waking.fw.testBit d.val = true ∧ t.ctl.mbx.sdSlot = s.ctl.mbx.fwSlot ∧ (⟨.link d, .fwLoad, [s.ctl.mbx.fwSlot], []⟩ : Msg) ∈ t.ctl.sent
    ∧ t.ctl.rf = s.ctl.rf ∧ SameMemory s t)
  ∧ (s.ctl.op ≠ .waking ∨ wakeGoes s.ctl = false ∨ wakeDone s.ctl 7 = false ∨ linkLive s.ctl d.val = false → exec (.fwLoad d) s = .next s)
  ∧ LeadsTo (.key d) s (hubPowered s.ctl = true ∧ linkLive s.ctl d.val = true
      ∧ (dieInService s.ctl d.val = true ∨ (s.ctl.op = .waking ∧ s.ctl.waking.fw.testBit d.val = true)))
    (onCtl (fun c => sendLink d.val .key [c.ef.keyGen] c.ef.mediaKey
      (updFlash (fun x => if d.val = 0 then { x with key0 := c.ef.mediaKey } else { x with key1 := c.ef.mediaKey })
        (setF (if d.val = 0 then Reg.SAV_KEY.LOADED_S0 else Reg.SAV_KEY.LOADED_S1) 1 c))) s)
  ∧ LeadsTo (.service d) s (hubPowered s.ctl = true ∧ dieInService s.ctl d.val = true ∧ dieInService s.ctl (1 - d.val) = false ∧ linkLive s.ctl d.val = true)
    (onCtl (sendLink d.val .service [1 - d.val] []) s))

/-- SEAL_REQ, SAVE_DIE_LOSS_TIMEOUT, SAVE_DIE_LOST, LEASE_RENEW, LEASE_CLAIM, LEASE_EXPIRY and LEAD_HOLD_EXPIRY (R212-R215): the lease has one owner
and a generation that every grant raises, a seal is accepted from its owner under its generation alone, and a die that is lost leaves
service. -/
def Obligations.LeaseAndSeal : Prop := ∀ (s : State) (d : Fin 2),
  (∀ us, s.ctl.op = .saving → dieInService s.ctl d.val = true → wholeDown s.ctl = none → s.ctl.save.image.recorded = true →
    getF Reg.HEEL_LEASE.OWNER s.ctl = d.val + 1 →
    exec (.sealReq d (getF Reg.HEEL_LEASE_GEN.GEN s.ctl) us) s
      = .next (onCtl (fun c => sealImage (d.val + 1) us (savePipesEnd (sendLink d.val .sealAck [getF Reg.HEEL_LEASE_GEN.GEN c, 1] [] c))) s))
  ∧ (∀ gen us, s.ctl.op = .saving → dieInService s.ctl d.val = true → wholeDown s.ctl = none → s.ctl.save.image.recorded = true →
    gen ≠ getF Reg.HEEL_LEASE_GEN.GEN s.ctl ∨ getF Reg.HEEL_LEASE.OWNER s.ctl ≠ d.val + 1 →
    exec (.sealReq d gen us) s = .next (onCtl (sendLink d.val .sealAck [gen, 0] []) s))
  ∧ (∀ gen us, s.ctl.op ≠ .saving ∨ dieInService s.ctl d.val = false ∨ s.ctl.save.image.recorded = false → exec (.sealReq d gen us) s = .next s)
  ∧ LeadsTo (.saveDieLossTimeout d) s (saveRuns s.ctl d.val = true ∧ unitsLeft s.ctl d.val = true) (onCtl (dieLeaves d.val 3) s)
  ∧ (∀ core, LeadsTo (.saveDieLost d core) s (hubPowered s.ctl = true) (onCtl (dieLeaves d.val (if core then 2 else 1)) s))
  ∧ (hubPowered s.ctl = true → getF Reg.HEEL_LEASE.OWNER s.ctl = d.val + 1 → ∃ t, exec (.leaseRenew d) s = .next t
    ∧ getF Reg.HEEL_LEASE.OWNER t.ctl = d.val + 1 ∧ getF Reg.HEEL_LEASE_GEN.GEN t.ctl = getF Reg.HEEL_LEASE_GEN.GEN s.ctl
    ∧ t.ctl.heel.leaseAt = s.ctl.uptime ∧ getF (Reg.SAV_SD_STATUS.LEAD d.val) t.ctl = 1
    ∧ (⟨.link d, .leaseAck, [getF Reg.HEEL_LEASE_GEN.GEN s.ctl], []⟩ : Msg) ∈ t.ctl.sent ∧ t.dram = s.dram ∧ t.poison = s.poison ∧ t.pending = s.pending)
  ∧ (hubPowered s.ctl = true → getF Reg.HEEL_LEASE.OWNER s.ctl ≠ d.val + 1 → ∃ t, exec (.leaseRenew d) s = .next t
    ∧ getF Reg.HEEL_LEASE.OWNER t.ctl = getF Reg.HEEL_LEASE.OWNER s.ctl ∧ t.ctl.heel.leaseAt = s.ctl.heel.leaseAt
    ∧ getF (Reg.SAV_SD_STATUS.LEAD d.val) t.ctl = 0 ∧ (⟨.link d, .leaseRefuse, [getF Reg.HEEL_LEASE.OWNER s.ctl], []⟩ : Msg) ∈ t.ctl.sent
    ∧ t.dram = s.dram ∧ t.poison = s.poison ∧ t.pending = s.pending)
  ∧ (hubPowered s.ctl = true → getF Reg.HEEL_LEASE.OWNER s.ctl = 0 → dieInService s.ctl 0 = true → s.ctl.op ≠ .saving →
    ∃ t, exec (.leaseClaim true (d.val == 1)) s = .next t ∧ getF Reg.HEEL_LEASE.OWNER t.ctl = 1
      ∧ getF Reg.HEEL_LEASE_GEN.GEN t.ctl = (getF Reg.HEEL_LEASE_GEN.GEN s.ctl + 1) % 2 ^ Reg.HEEL_LEASE_GEN.GEN.width
      ∧ t.dram = s.dram ∧ t.poison = s.poison ∧ t.pending = s.pending)
  ∧ (hubPowered s.ctl = false → exec (.leaseRenew d) s = .next s ∧ ∀ a b, exec (.leaseClaim a b) s = .next s)
  ∧ (getF Reg.HEEL_LEASE.OWNER s.ctl = d.val + 1 →
    exec .leaseExpiry s = .next (onCtl (fun c => setF (Reg.SAV_SD_STATUS.LEAD d.val) 0 (setF Reg.HEEL_LEASE.OWNER 0 c)) s))
  ∧ (getF Reg.HEEL_LEASE.OWNER s.ctl = 0 → exec .leaseExpiry s = .next s)
  ∧ exec (.leadHoldExpiry d) s = .next (onCtl (setF (Reg.SAV_SD_STATUS.LEAD d.val) 0) s)

/-- STORE_CUTOFF and DOWN_ORDER_COMPLETE (R13, R216, R313, R342): a save that runs out of energy ends unsealed; the end of the down order of
the module is Dormant, or Waking at once when a restart is pending, in which DRAM holds nothing. -/
def Obligations.CutoffAndDormant : Prop := ∀ s : State,
  (getF Reg.NRG_STATUS.BACKUP s.ctl = 1 → s.ctl.op = .saving → wholeDown s.ctl = none →
    exec .storeCutoff s = .next (onCtl (fun c => endUnsealed (savePipesEnd (cutoffAnchor c))) s))
  ∧ (getF Reg.NRG_STATUS.BACKUP s.ctl = 1 → s.ctl.op ≠ .saving → exec .storeCutoff s = .next (onCtl (fun c => learnEnd (cutoffAnchor c)) s))
  ∧ (getF Reg.NRG_STATUS.BACKUP s.ctl = 0 → exec .storeCutoff s = .next s)
  ∧ (∀ o, wholeDown s.ctl = some o → o.left = [] → getF Reg.HEEL_WAKE_STATUS.RESTART_PENDING s.ctl = 0 → ∃ t, exec .downOrderComplete s = .next t
    ∧ t.ctl.op = .dormant ∧ fwRunning t.ctl = false ∧ getF Reg.HEEL_SAVE_CAUSE.LATCHED t.ctl = 0 ∧ t.ctl.psq.downs = []
    ∧ t.ctl.clk.dormantAt = some s.ctl.uptime ∧ t.dram = s.dram ∧ t.poison = s.poison ∧ t.pending = s.pending)
  ∧ (∀ o, wholeDown s.ctl = some o → o.left = [] → getF Reg.HEEL_WAKE_STATUS.RESTART_PENDING s.ctl = 1 → ∃ t, exec .downOrderComplete s = .next t
    ∧ t.ctl.op = .waking ∧ (s.ctl.op ≠ .waking → t.dram = [] ∧ t.poison = []) ∧ t.pending = s.pending)
  ∧ (wholeDown s.ctl = none → exec .downOrderComplete s = .next s)
  ∧ (∀ o, wholeDown s.ctl = some o → o.left ≠ [] → exec .downOrderComplete s = .next s)

/-! ### Dirty tracking, the Reel cleaner and the journal -/

/-- REEL_SELECTION, COLD_SWEEP_VISIT, COPY_DATA and COPY_DONE (R181-R183): a selected frame is Cleaning with a copy in the table, whose lines begin to
be read; a swept frame loses TOUCH or becomes a cold candidate; the data of a copy leaves once every line has come back; and a copy whose unit is
programmed and logged gets its journal entry. -/
def Obligations.CleanerCommands : Prop := ∀ s : State,
  (∀ f cold g, reelRuns s.ctl = true → fwRunning s.ctl = true → getF Reg.DTK_REEL_CFG.ENABLE s.ctl = 1 →
    (reelCopies s.ctl).length < getF Reg.DTK_REEL_CFG.INFLIGHT s.ctl → candidate s.ctl = some (f, cold) → nextGroup s.ctl = some g →
    ∃ t u, exec .reelSelection s = .next t ∧ t = onCtl engines u ∧ (frameRec t.ctl f).base = .cleaning
      ∧ u.ctl.pipe.fetches = s.ctl.pipe.fetches ++ [⟨s.ctl.pipe.nextId, .reel, 0, 0, f * linesPerFrame, linesPerFrame, 0, 0, ⟨[], []⟩⟩]
      ∧ (∃ x, t.ctl.reel.copies = s.ctl.reel.copies ++ [x] ∧ x.frame = f ∧ x.group = g ∧ x.content = none ∧ x.confirmed = none ∧ x.carry = false)
      ∧ (∀ n, n ≠ f → frameRec t.ctl n = frameRec s.ctl n) ∧ KeepsRegs [Reg.DTK_DIRTY.D] s u
      ∧ (∀ p, p ∉ [Part.dtk, .reel, .pipe] → p.Same s.ctl u.ctl) ∧ SameMemory s t)
  ∧ (reelRuns s.ctl = false ∨ fwRunning s.ctl = false ∨ getF Reg.DTK_REEL_CFG.ENABLE s.ctl = 0
    ∨ getF Reg.DTK_REEL_CFG.INFLIGHT s.ctl ≤ (reelCopies s.ctl).length ∨ candidate s.ctl = none ∨ nextGroup s.ctl = none → exec .reelSelection s = .next s)
  ∧ (reelRuns s.ctl = true → s.ctl.reel.cold.length < 1024 → 0 < frameCount s.ctl → ∃ t, exec .coldSweepVisit s = .next t
    ∧ t.ctl.reel.sweepPos = (s.ctl.reel.sweepPos + 1) % frameCount s.ctl
    ∧ ((frameRec s.ctl s.ctl.reel.sweepPos).base = .dirty → (frameRec s.ctl s.ctl.reel.sweepPos).touch = true →
        (frameRec t.ctl s.ctl.reel.sweepPos).touch = false ∧ t.ctl.reel.cold = s.ctl.reel.cold)
    ∧ ((frameRec s.ctl s.ctl.reel.sweepPos).base = .dirty → (frameRec s.ctl s.ctl.reel.sweepPos).touch = false → s.ctl.reel.sweepPos ∈ t.ctl.reel.cold)
    ∧ (∀ n, n ≠ s.ctl.reel.sweepPos → frameRec t.ctl n = frameRec s.ctl n) ∧ KeepsRegs [Reg.DTK_DIRTY.D] s t
    ∧ (∀ p, p ∉ [Part.dtk, .reel] → p.Same s.ctl t.ctl) ∧ t.dram = s.dram ∧ t.poison = s.poison ∧ t.pending = s.pending)
  ∧ (reelRuns s.ctl = false ∨ 1024 ≤ s.ctl.reel.cold.length ∨ frameCount s.ctl = 0 → exec .coldSweepVisit s = .next s)
  ∧ (∀ f x y, copyOf s.ctl f = some x → x.content = none → reelRuns s.ctl = true → reelFetch s.ctl f = some y → y.complete = true →
    exec (.copyData f) s = .next (onCtl (fun c => sendLink (x.group / 4) .copyData (f :: x.group :: y.got.poison) (contentBytes y.got 2097152)
      (copyPlace x y.got (dropFetch y.id c))) s))
  ∧ (∀ f x, copyOf s.ctl f = some x → x.content ≠ none ∨ reelRuns s.ctl = false ∨ reelFetch s.ctl f = none → exec (.copyData f) s = .next s)
  ∧ (∀ f, copyOf s.ctl f = none → exec (.copyData f) s = .next (onCtl (carryCopy f) s))
  ∧ (∀ f x u, (copyOf s.ctl f).or (carryOf s.ctl f) = some x → mapFind s.ctl.flash.units (locOf x.group x.unit) = some u → x.content ≠ none →
    x.confirmed = none → u.programmed = true → u.logged = true → u.frame = f → canAppend s.ctl = true → ∃ t, exec (.copyDone f) s = .next t
    ∧ t.ctl.welt.nextJseq = s.ctl.welt.nextJseq + 1
    ∧ (∀ y ∈ t.ctl.reel.copies, y.frame = f → y.carry = x.carry → y.confirmed = some s.ctl.welt.nextJseq)
    ∧ t.ctl.rf = s.ctl.rf ∧ (∀ p, p ∉ [Part.welt, .reel] → p.Same s.ctl t.ctl) ∧ t.dram = s.dram ∧ t.poison = s.poison ∧ t.pending = s.pending)
  ∧ (∀ f, copyOf s.ctl f = none → carryOf s.ctl f = none → exec (.copyDone f) s = .next s)

/-- JOURNAL_PAGE_FLUSH, JPAGE, JOURNAL_PAGE_DURABLE, COMPACTION_START and BASE_MAP_WRITTEN (R186, R188).
A journal page leaves in order and its entries take the order of their JSEQ (R186): an appended entry is the last of the open page, or of
the page that it fills, under the next JSEQ. -/
def Obligations.Journal : Prop :=
  (∀ (s : State) (d : Fin 2),
  (s.ctl.welt.openPage ≠ [] → ∃ t p, exec .journalPageFlush s = .next t ∧ t.ctl.welt.pages = s.ctl.welt.pages ++ [p]
    ∧ p.entries = s.ctl.welt.openPage ∧ p.baseGen = s.ctl.welt.openGen ∧ t.ctl.welt.openPage = [] ∧ t.ctl.rf = s.ctl.rf ∧ (∀ q, q ≠ Part.welt → q.Same s.ctl t.ctl)
    ∧ t.dram = s.dram ∧ t.poison = s.poison ∧ t.pending = s.pending)
  ∧ (s.ctl.welt.openPage = [] → exec .journalPageFlush s = .next s)
  ∧ (∀ p, dieInService s.ctl d.val = true → s.ctl.welt.pages.find? (fun p => if d.val = 0 then !p.got0 else !p.got1) = some p →
    ∃ t, exec (.jpage d) s = .next t ∧ (⟨.link d, .jpage, [p.entries.length, p.baseGen], RingPage.bytes ⟨p.entries, p.baseGen⟩⟩ : Msg) ∈ t.ctl.sent
      ∧ t.ctl.welt.pages.map (·.entries) = s.ctl.welt.pages.map (·.entries)
      ∧ (t.ctl.welt.pages.filter (fun p => if d.val = 0 then !p.got0 else !p.got1)).length + 1
        = (s.ctl.welt.pages.filter (fun p => if d.val = 0 then !p.got0 else !p.got1)).length
      ∧ t.dram = s.dram ∧ t.poison = s.poison ∧ t.pending = s.pending)
  ∧ (dieInService s.ctl d.val = false → exec (.jpage d) s = .next s)
  ∧ (∀ p rest, s.ctl.op ≠ .restoring → restoreRuns s.ctl = false ∨ (s.ctl.images.newest = none ∧ s.ctl.images.carried = none) → bothDies s.ctl = true → s.ctl.welt.pages = p :: rest → p.done0 = false → p.done1 = false →
    p.got0 = true → p.got1 = true → ∃ t, exec (.journalPageDurable d) s = .next t
      ∧ t.ctl.welt.pages = (if d.val = 0 then { p with done0 := true } else { p with done1 := true }) :: rest
      ∧ t.ctl.weltNv = s.ctl.weltNv ∧ t.ctl.rf = s.ctl.rf ∧ (∀ q, q ∉ [Part.welt, .flash] → q.Same s.ctl t.ctl)
      ∧ t.dram = s.dram ∧ t.poison = s.poison ∧ t.pending = s.pending)
  ∧ exec (.journalPageDurable d) s = .next (onCtl (fun c => releaseCheck (targetDurable (pageProgrammed d.val c))) s)
  ∧ (fwRunning s.ctl = true → reelRuns s.ctl = true → s.ctl.welt.compact = none → compactDue s.ctl = true → ∃ t m, exec .compactionStart s = .next t
    ∧ t.ctl.welt.compact = some m ∧ m.gen = s.ctl.weltNv.base.gen + 1 ∧ s.ctl.weltNv.base.covered ≤ m.covered
    ∧ (∀ i, s.ctl.images.newest = some i → m.covered ≤ max i.jseqDurable s.ctl.weltNv.base.covered)
    ∧ getF Reg.DTK_WELT_STATUS.COMPACTING t.ctl = 1 ∧ KeepsRegs [Reg.DTK_WELT_STATUS.COMPACTING] s t
    ∧ (∀ q, q ≠ Part.welt → q.Same s.ctl t.ctl) ∧ t.dram = s.dram ∧ t.poison = s.poison ∧ t.pending = s.pending)
  ∧ (fwRunning s.ctl = false ∨ reelRuns s.ctl = false ∨ s.ctl.welt.compact ≠ none ∨ compactDue s.ctl = false → exec .compactionStart s = .next s)
  ∧ (∀ m, fwRunning s.ctl = true → s.ctl.welt.compact = some m → s.ctl.welt.compactJseq = none → canAppend s.ctl = true →
    ∃ t, exec .baseMapWritten s = .next t
    ∧ t.ctl.welt.compactJseq = some s.ctl.welt.nextJseq ∧ t.ctl.welt.nextJseq = s.ctl.welt.nextJseq + 1 ∧ t.ctl.rf = s.ctl.rf
    ∧ (dieInService s.ctl d.val = true → weltDie t.ctl d.val = slotPut (1 - s.ctl.weltNv.slot) m (weltDie s.ctl d.val))
    ∧ t.ctl.weltNv.base = s.ctl.weltNv.base ∧ t.ctl.weltNv.entries = s.ctl.weltNv.entries
    ∧ (∀ q, q ∉ [Part.welt, .weltNv] → q.Same s.ctl t.ctl) ∧ t.dram = s.dram ∧ t.poison = s.poison ∧ t.pending = s.pending)
  ∧ (fwRunning s.ctl = false ∨ s.ctl.welt.compact = none ∨ s.ctl.welt.compactJseq ≠ none ∨ canAppend s.ctl = false → exec .baseMapWritten s = .next s))
  ∧ (∀ (c : Ctl) (e : JEntry),
  (jAppend e c).welt.nextJseq = c.welt.nextJseq + 1
  ∧ (jAppend e c).welt.pages.flatMap (·.entries) ++ (jAppend e c).welt.openPage
    = c.welt.pages.flatMap (·.entries) ++ c.welt.openPage ++ [{ e with jseq := c.welt.nextJseq, keep := c.op == .keep }]
  ∧ (c.welt.openPage.length < 511 → (jAppend e c).welt.openPage.length < 511)
  ∧ (∀ q, q ≠ Part.welt → q.Same c (jAppend e c)) ∧ (jAppend e c).rf = c.rf)

/-- BUDGET_RECOMPUTE, BUDGET_STALE, NO_COPY_UNIT_TIMEOUT and READY_MAP (R177, R178, R180, R262): a result at or below the value in force is written
at once, a higher one only after a second in which every result exceeded it, and then the lowest of them; a budget 1,000 ms old is stale, and
counts as at most its frozen value (BUDGET_STALE lets the time pass up to that age: log entry 4); cleaning that finds no free unit is recorded; and a
ready map brings the ready bits of the slots up to date. -/
def Obligations.BudgetCommands : Prop := ∀ (s : State) (d : Fin 2),
  (∀ second, fwRunning s.ctl = true → s.ctl.dtk.fwAt ≠ none → budgetNow s.ctl ≤ getF Reg.DTK_BUDGET_FW.VALUE s.ctl →
    ∃ t, exec (.budgetRecompute second) s = .next t ∧ t = onCtl (fun c => budgetWrite (budgetNow c) { c with dtk := { c.dtk with raiseMin := none } }) s
      ∧ getF Reg.DTK_BUDGET_FW.VALUE t.ctl = budgetNow s.ctl % 2 ^ Reg.DTK_BUDGET_FW.VALUE.width ∧ getF Reg.DTK_BUDGET_AGE.STALE t.ctl = 0
      ∧ t.ctl.dtk.fwAt = some s.ctl.uptime)
  ∧ (∀ m, fwRunning s.ctl = true → s.ctl.dtk.fwAt ≠ none → getF Reg.DTK_BUDGET_FW.VALUE s.ctl < budgetNow s.ctl → s.ctl.dtk.raiseMin = some m →
    exec (.budgetRecompute true) s = .next (onCtl (fun c => budgetWrite (min m (budgetNow c)) { c with dtk := { c.dtk with raiseMin := none } }) s))
  ∧ (fwRunning s.ctl = true → s.ctl.dtk.fwAt ≠ none → getF Reg.DTK_BUDGET_FW.VALUE s.ctl < budgetNow s.ctl →
    ∃ m, m ≤ budgetNow s.ctl ∧ exec (.budgetRecompute false) s = .next (onCtl (fun c =>
      budgetWrite (getF Reg.DTK_BUDGET_FW.VALUE c) { c with dtk := { c.dtk with raiseMin := some m } }) s))
  ∧ (∀ second, fwRunning s.ctl = false ∨ s.ctl.dtk.fwAt = none → exec (.budgetRecompute second) s = .next s)
  ∧ (∀ w, s.ctl.dtk.fwAt = some w → getF Reg.DTK_BUDGET_AGE.STALE s.ctl = 0 → ∃ t, exec .budgetStale s = .next t
    ∧ getF Reg.DTK_BUDGET_AGE.STALE t.ctl = 1 ∧ t.ctl.uptime = max s.ctl.uptime (w + 1000000000)
    ∧ getF Reg.DTK_BUDGET_FW.VALUE t.ctl = getF Reg.DTK_BUDGET_FW.VALUE s.ctl ∧ effB t.ctl ≤ getF Reg.DTK_BUDGET_FROZEN.VALUE s.ctl
    ∧ t.dram = s.dram ∧ t.poison = s.poison ∧ t.pending = s.pending)
  ∧ (s.ctl.dtk.fwAt = none ∨ getF Reg.DTK_BUDGET_AGE.STALE s.ctl = 1 → exec .budgetStale s = .next s)
  ∧ LeadsTo .noCopyUnitTimeout s (reelRuns s.ctl = true ∧ noUnit s.ctl = true) (onCtl (logEvent 0x0502 5 3 0) s)
  ∧ LeadsTo (.readyMap d) s (dieInService s.ctl d.val = true ∧ (reelRuns s.ctl || s.ctl.op == .restoring) = true)
    (onCtl (fun c => keepCausesNow (setReady (readyBits c) c)) s)

/-! ### The restore -/

/-- RESTORE_STEP_COMPLETE (R229, R231, R244): the steps follow one another; a pending erase is resumed before step 1; after step 7 or outside
Restoring nothing happens. -/
def Obligations.RestoreSteps : Prop := ∀ (s : State) (i : RestoreInfo),
  (s.ctl.op = .restoring → fwRunning s.ctl = true → s.ctl.restore.resume ≠ 0 → ∃ t, exec (.restoreStepComplete i) s = .next t
    ∧ t.ctl.restore.resume = 0 ∧ t.ctl.ef.pendingErase = 0 ∧ t.ctl.cxl.bg = none ∧ t.ctl.ef.poisonList = [] ∧ t.ctl.flash.units = []
    ∧ t.ctl.images = Images.init ∧ t.dram = s.dram ∧ t.poison = s.poison ∧ t.pending = s.pending)
  ∧ (s.ctl.op = .restoring → fwRunning s.ctl = true → s.ctl.restore.resume = 0 → s.ctl.restore.step = 0 →
    exec (.restoreStepComplete i) s = .next (onCtl (fun c => setF Reg.SAV_RST_STATUS.PHASE 1 { c with restore := { c.restore with step := 1 } }) s))
  ∧ (s.ctl.op = .restoring → fwRunning s.ctl = true → s.ctl.restore.resume = 0 → s.ctl.restore.step = 1 → ∃ t, exec (.restoreStepComplete i) s = .next t
    ∧ t.ctl.restore.step = 2 ∧ getF Reg.SAV_RST_STATUS.PHASE t.ctl = 2 ∧ getF Reg.HEEL_JRNL_BASE.SEQ s.ctl ≤ t.ctl.mbx.nextSeq
    ∧ t.ctl.mbx.loaded = (s.ctl.images.newest.or s.ctl.images.carried).isSome ∧ t.dram = s.dram ∧ t.poison = s.poison ∧ t.pending = s.pending)
  ∧ (s.ctl.op = .restoring → fwRunning s.ctl = true → s.ctl.restore.resume = 0 → s.ctl.restore.step = 2 → formattedNow s.ctl = false →
    ∃ t, exec (.restoreStepComplete i) s = .next t ∧ t.ctl.restore.step = 3 ∧ getF Reg.SAV_RST_STATUS.PHASE t.ctl = 3
    ∧ (∀ e ∈ t.ctl.weltNv.entries, t.ctl.weltNv.base.covered < e.jseq ∧ (e.type = .baseDone ∨ overLimit (weltLimit s.ctl) e.jseq = false))
    ∧ t.ctl.welt.nextJseq = recoveredJseq s.ctl ∧ (i.noBase = true → t.ctl.weltNv.base.entries = [])
    ∧ t.dram = s.dram ∧ t.poison = s.poison ∧ t.pending = s.pending)
  ∧ (s.ctl.op = .restoring → fwRunning s.ctl = true → s.ctl.restore.resume = 0 → s.ctl.restore.step = 2 → formattedNow s.ctl = true →
    i.noBase = true → s.ctl.welt.compact = none → ∃ t, exec (.restoreStepComplete i) s = .next t ∧ t.ctl.restore = s.ctl.restore
    ∧ t.ctl.welt.compact = some { BaseMap.init with gen := 1 } ∧ t.ctl.weltNv.entries = [] ∧ getF Reg.DTK_WELT_STATUS.COMPACTING t.ctl = 1
    ∧ SameMemory s t)
  ∧ (s.ctl.op = .restoring → fwRunning s.ctl = true → s.ctl.restore.resume = 0 → s.ctl.restore.step = 3 → s.ctl.restore.target = 0 →
    s.ctl.restore.want = 0 → ∃ t, exec (.restoreStepComplete i) s = .next t ∧ t.ctl.restore.step = 4 ∧ t.ctl.restore.target = 0
    ∧ (s.ctl.restore.once = true → getF Reg.HEEL_RESTORE_TGT.TARGET t.ctl = 0) ∧ KeepsRegs [Reg.HEEL_RESTORE_TGT.TARGET] s t
    ∧ (∀ p, p ≠ Part.restore → p.Same s.ctl t.ctl) ∧ t.dram = s.dram ∧ t.poison = s.poison ∧ t.pending = s.pending)
  ∧ (s.ctl.op = .restoring → fwRunning s.ctl = true → s.ctl.restore.resume = 0 → s.ctl.restore.step = 3 → s.ctl.restore.target = 0 →
    s.ctl.restore.want ≠ 0 → grpPresent s.ctl = false → ∃ t, exec (.restoreStepComplete i) s = .next t ∧ t.ctl.restore.step = 4
    ∧ getF Reg.SAV_RST_STATUS.TARGET_FALLBACK t.ctl = 1 ∧ t.ctl.restore.target = 0 ∧ t.ctl.images = s.ctl.images ∧ SameMemory s t)
  ∧ (s.ctl.op = .restoring → fwRunning s.ctl = true → s.ctl.restore.resume = 0 → s.ctl.restore.step = 3 → s.ctl.restore.target = 0 →
    s.ctl.restore.want = 1 → grpPresent s.ctl = true → committedEpoch s.ctl ≠ 0 → ∃ t m, exec (.restoreStepComplete i) s = .next t
    ∧ t.ctl.restore.step = 3 ∧ t.ctl.restore.target = 1 ∧ t.ctl.restore.epochMap = some m ∧ t.ctl.welt.compact = some m
    ∧ m.sealedEpoch = committedEpoch s.ctl ∧ SameMemory s t)
  ∧ (s.ctl.op = .restoring → fwRunning s.ctl = true → s.ctl.restore.resume = 0 → s.ctl.restore.step = 5 → (∀ n, n < 8 → chFailed s.ctl n = false) →
    (∀ x ∈ s.ctl.heel.temps, x ≤ 105) → ∃ t, exec (.restoreStepComplete i) s = .next t
    ∧ t.ctl.restore.step = 7 ∧ getF Reg.SAV_RST_STATUS.EARLY_OPEN t.ctl = 1 ∧ t.ctl.op = .restoring
    ∧ t.dram = s.dram ∧ t.poison = s.poison ∧ t.pending = s.pending)
  ∧ (s.ctl.op = .restoring → fwRunning s.ctl = true → s.ctl.restore.resume = 0 → s.ctl.restore.step = 4 → ∃ t, exec (.restoreStepComplete i) s = .next t
    ∧ t.ctl.restore.step = 5 ∧ t.ctl.op = .restoring ∧ t.dram = s.dram ∧ t.poison = s.poison ∧ t.pending = s.pending)
  ∧ (s.ctl.op ≠ .restoring ∨ fwRunning s.ctl = false ∨ (s.ctl.restore.resume = 0 ∧ 6 ≤ s.ctl.restore.step) → exec (.restoreStepComplete i) s = .next s)

/-- RSTR_REQ, TOUCH_REQ and RESTORE_COMPLETE (R13, R232, R235).
RSTR_DATA, TOUCH_DATA and ZERO_FRAME_FILL (R232, R235, R237, R243): the content of the frame's source, and its poison markers, take the place
of the frame's 2 MiB in DRAM, and its restored bit is set; every other byte and marker is as it was. -/
def Obligations.RestoreFetches : Prop :=
  (∀ (s : State) (d : Fin 2),
  (∀ f, s.ctl.op = .restoring → fwRunning s.ctl = true → 7 ≤ s.ctl.restore.step → dieInService s.ctl d.val = true → (bgList s.ctl d.val).length < 31 →
    nextBg s.ctl d.val = some f → ∃ t, exec (.rstrReq d) s = .next t ∧ bgList t.ctl d.val = bgList s.ctl d.val ++ [f]
      ∧ (⟨.link d, .rstrReq, [f, (frameMap s.ctl f).kind, (frameMap s.ctl f).loc, b2n (frameMap s.ctl f).carriedImage], []⟩ : Msg) ∈ t.ctl.sent
      ∧ t.dram = s.dram ∧ t.poison = s.poison ∧ t.pending = s.pending)
  ∧ (restoreRuns s.ctl = false ∨ fwRunning s.ctl = false ∨ dieInService s.ctl d.val = false
    ∨ 31 ≤ (bgList s.ctl d.val).length ∨ nextBg s.ctl d.val = none → exec (.rstrReq d) s = .next s)
  ∧ (∀ f, touchSlot s.ctl d.val = some f → LeadsTo (.touchReq d) s
    (touchGot s.ctl d.val = false ∧ fetchRuns s.ctl f = true ∧ dieInService s.ctl d.val = true)
    (onCtl (fun c => sendLink d.val .touchReq [f, (frameMap c f).kind, (frameMap c f).loc, b2n (frameMap c f).carriedImage] []
      { c with restore := if d.val = 0 then { c.restore with touchGot0 := true } else { c.restore with touchGot1 := true } }) s))
  ∧ (touchSlot s.ctl d.val = none → exec (.touchReq d) s = .next s)
  ∧ (s.ctl.op = .restoring → s.ctl.restore.step = 7 → allRestored s.ctl = true → s.ctl.images.newest = none → s.ctl.images.carried = none →
    effB s.ctl = getF Reg.DTK_BUDGET_CFG.VALUE s.ctl → bothDies s.ctl = true → ∃ t, exec .restoreComplete s = .next t ∧ t.ctl.op = .serving
      ∧ getF Reg.SAV_RST_STATUS.PHASE t.ctl = 6 ∧ t.dram = s.dram ∧ t.poison = s.poison ∧ t.pending = s.pending)
  ∧ (s.ctl.op = .restoring → s.ctl.restore.step = 7 → allRestored s.ctl = true → s.ctl.images.newest = none → s.ctl.images.carried = none →
    effB s.ctl ≠ getF Reg.DTK_BUDGET_CFG.VALUE s.ctl → getF Reg.DTK_BUDGET_MIN.VALUE s.ctl ≤ effB s.ctl → ∃ t, exec .restoreComplete s = .next t
      ∧ t.ctl.op = .derated ∧ getF Reg.SAV_RST_STATUS.PHASE t.ctl = 6 ∧ SameMemory s t)
  ∧ (s.ctl.op = .restoring → s.ctl.restore.step < 7 ∨ allRestored s.ctl = false → exec .restoreComplete s = .next (onCtl releaseCheck s))
  ∧ (s.ctl.op ≠ .restoring → exec .restoreComplete s = .next s))
  ∧ (∀ (s : State) (d : Fin 2) (f : Nat) (lost : List Nat) (us : Nat),
  let fills := fun (i : Instr) (lost : List Nat) => ∃ t, exec i s = .next t ∧ t.ctl.dtk.restored.testBit f = true
    ∧ t.dram = memPutSlice 0 (memClear s.dram (f * 2097152) 2097152) (f * 2097152) (sourceContent s.ctl f lost).1.cells
    ∧ (∀ l, l < f * 32768 → (l ∈ t.poison ↔ l ∈ s.poison ∨ ∃ k ∈ (sourceContent s.ctl f lost).1.poison, l = f * 32768 + k))
    ∧ (∀ k, k < 32768 → (f * 32768 + k ∈ t.poison ↔ k ∈ (sourceContent s.ctl f lost).1.poison))
    ∧ (∀ l, (f + 1) * 32768 ≤ l → (l ∈ t.poison ↔ l ∈ s.poison ∨ ∃ k ∈ (sourceContent s.ctl f lost).1.poison, l = f * 32768 + k))
    ∧ t.pending = s.pending
  (fetchRuns s.ctl f = true → f ∈ bgList s.ctl d.val → f < frameCount s.ctl → fills (.rstrData f lost) lost)
  ∧ (fetchRuns s.ctl f = true → f ∈ bgList s.ctl d.val → frameCount s.ctl ≤ f → ∃ t data, exec (.rstrData f lost) s = .next t
    ∧ t.dram = memPutSlice 0 (memClear s.dram (shadowBase s.ctl (f - frameCount s.ctl)) 2097152) (shadowBase s.ctl (f - frameCount s.ctl)) data
    ∧ f - frameCount s.ctl ∉ t.ctl.restore.shadowLeft ∧ f ∉ bgList t.ctl d.val ∧ t.ctl.dtk = s.ctl.dtk ∧ t.pending = s.pending)
  ∧ (f ∉ s.ctl.restore.bg0 → f ∉ s.ctl.restore.bg1 → exec (.rstrData f lost) s = .next s)
  ∧ (touchSlot s.ctl d.val = some f → touchGot s.ctl d.val = true → fetchRuns s.ctl f = true → fills (.touchData d lost us) lost)
  ∧ (touchSlot s.ctl d.val = none ∨ touchGot s.ctl d.val = false → exec (.touchData d lost us) s = .next s)
  ∧ (s.ctl.op = .restoring → 7 ≤ s.ctl.restore.step → f < frameCount s.ctl → hubFrame s.ctl f = true → s.ctl.dtk.restored.testBit f = false →
    fwRunning s.ctl = true → flashLeft s.ctl = false → fills (.zeroFrameFill f) [])
  ∧ (s.ctl.op = .saving → f ∈ s.ctl.save.complete → 7 ≤ s.ctl.restore.step → f < frameCount s.ctl → hubFrame s.ctl f = true →
    s.ctl.dtk.restored.testBit f = false → fills (.zeroFrameFill f) [])
  ∧ (fetchRuns s.ctl f = false ∨ s.ctl.restore.step < 7 ∨ frameCount s.ctl ≤ f ∨ hubFrame s.ctl f = false ∨ s.ctl.dtk.restored.testBit f = true →
    exec (.zeroFrameFill f) s = .next s))


/-! ### The Awl engines -/

/-- RESET, IDENTIFY, FEATURE, TRAIN, PROGRAM_UNIT, PROGRAM_WL, READ and ERASE_CHECK (R255-R258, R266): a descriptor in its ranges that the engine can
take joins the work of its way, with the buffer slots it needs; none of the way's descriptors is lost, whichever of them runs next. -/
def Obligations.DescriptorsEnterTheQueue : Prop := ∀ (s : State) (i : Instr) (ch : Nat) (a : DescArgs) (op : AwlOp) (own : Bool),
  awlRequest s.ctl i = some (ch, a, op, own) →
  (own = true → descOk s.ctl ch op a = true → canTake s.ctl (wayKey ch a.way) (descOf op a s.ctl) = true → ∃ t, exec i s = .next t
    ∧ (wayWork t.ctl (wayKey ch a.way)).Perm (wayWork s.ctl (wayKey ch a.way) ++ [descOf op a s.ctl])
    ∧ bufUsed t.ctl (wayChan (wayKey ch a.way)) = bufUsed s.ctl (wayChan (wayKey ch a.way)) + newSlots s.ctl (wayKey ch a.way) (descOf op a s.ctl)
    ∧ (∀ wk, wk ≠ wayKey ch a.way → wayAt t.ctl wk = wayAt s.ctl wk) ∧ t.ctl.flash.blocks = s.ctl.flash.blocks
    ∧ t.ctl.flash.units = s.ctl.flash.units ∧ KeepsRegs [Reg.FLC_SUSPEND.COUNT (wayChan (wayKey ch a.way))] s t
    ∧ (∀ p, p ≠ Part.flash → p.Same s.ctl t.ctl) ∧ t.dram = s.dram ∧ t.poison = s.poison ∧ t.pending = s.pending)
  ∧ (own = false ∨ descOk s.ctl ch op a = false ∨ canTake s.ctl (wayKey ch a.way) (descOf op a s.ctl) = false → exec i s = .next s)

/-- ERASE, ERASE_AHEAD and SOLE_PERIODIC_CHECK (R254, R261-R263): an erase counts first and then waits for its log page; erase-ahead takes the lowest
slot's block of the Last in use first, then the free set's; the daily check is a class 7 erase check of an erased block.
DESCRIPTOR_COMPLETION and OPERATION_TIMEOUT (R255, R260): the end of an operation returns its buffer slots, counts it, and lets the way go on
in the gap that follows; a first timeout issues the operation again, and a second one fails the die, but in Saving. -/
def Obligations.OperationsEnd : Prop :=
  (∀ (s : State) (ch : Fin 64),
  (∀ a, LeadsTo (.erase ch a) s (descOk s.ctl ch.val .erase a = true) (onCtl (eraseBlock (wayKey ch.val a.way) (descOf .erase a s.ctl)) s))
  ∧ (∀ wk d, mayErase s.ctl wk d.block = true → canTake s.ctl wk d = true → (blockAt s.ctl wk d.block).cause = 0 →
    (blockAt s.ctl wk d.block).erases + 1 < 0xFFFFF →
    (blockAt (eraseBlock wk d s.ctl) wk d.block).erases = (blockAt s.ctl wk d.block).erases + 1
    ∧ (blockAt (eraseBlock wk d s.ctl) wk d.block).erased = false
    ∧ (wayWork (eraseBlock wk d s.ctl) wk).Perm (wayWork s.ctl wk ++ [{ d with needLog := true }])
    ∧ (eraseBlock wk d s.ctl).flash.units = s.ctl.flash.units ∧ (eraseBlock wk d s.ctl).flash.sole = s.ctl.flash.sole)
  ∧ (∀ wk d, mayErase s.ctl wk d.block = false ∨ canTake s.ctl wk d = false → eraseBlock wk d s.ctl = s.ctl)
  ∧ (∀ way b, flashRuns s.ctl = true → nextErase s.ctl (wayKey ch.val way) s.ctl.save.lastB = some b →
    exec (.eraseAhead ch way) s = .next (onCtl (soleErase (wayKey ch.val way) b (eraseClass s.ctl s.ctl.save.lastB)) s))
  ∧ (∀ way b, flashRuns s.ctl = true → nextErase s.ctl (wayKey ch.val way) s.ctl.save.lastB = none →
    nextErase s.ctl (wayKey ch.val way) (!s.ctl.save.lastB) = some b →
    exec (.eraseAhead ch way) s = .next (onCtl (soleErase (wayKey ch.val way) b (eraseClass s.ctl (!s.ctl.save.lastB))) s))
  ∧ (∀ way, flashRuns s.ctl = false → exec (.eraseAhead ch way) s = .next s)
  ∧ (∀ way setB entry b, (soleList s.ctl (wayKey ch.val way) setB).entries[entry]? = some b → LeadsTo (.solePeriodicCheck ch way setB entry) s
    (flashRuns s.ctl = true ∧ setHeld s.ctl setB = false ∧ (blockAt s.ctl (wayKey ch.val way) b).erased = true)
    (onCtl (submit (wayKey ch.val way) ⟨.eraseCheck, 7, 0, b, 0, true, 0, 1, slotsFor s.ctl .eraseCheck true 1, false, none⟩) s))
  ∧ (∀ way setB entry, (soleList s.ctl (wayKey ch.val way) setB).entries[entry]? = none → exec (.solePeriodicCheck ch way setB entry) s = .next s))
  ∧ (∀ (s : State) (ch : Fin 64) (way : Nat) (d : Desc),
  let wk := wayKey ch.val way
  way < 8 →
  (∀ wait retried soft rebuilt, (wayAt s.ctl wk).running = some d → d.op ≠ .programWl → d.op ≠ .identify → d.op ≠ .erase → d.op ≠ .eraseCheck →
    soft = 0 → ∃ e, exec (.descriptorCompletion ch way 0 wait retried soft rebuilt) s = .next (onCtl (fun _ => flashGap ch.val e) s)
      ∧ getF (Reg.FLC_OPS.COUNT ch.val) e = satInc (Reg.FLC_OPS.COUNT ch.val).width (getF (Reg.FLC_OPS.COUNT ch.val) s.ctl)
      ∧ bufUsed e ch.val = bufUsed s.ctl ch.val - d.slots
      ∧ (wayWork e wk).Perm ((wayAt s.ctl wk).queue ++ (wayAt s.ctl wk).suspended.toList)
      ∧ (d.op = .programUnit → (blockAt e wk d.block).erased = false)
      ∧ (d.op = .read → getF (Reg.FLC_RETRY.RETRIED ch.val) e = min 0xFFFF (getF (Reg.FLC_RETRY.RETRIED ch.val) s.ctl + retried)))
  ∧ (∀ wait retried soft rebuilt, (wayAt s.ctl wk).running = some d → d.op = .erase →
    ∃ e, exec (.descriptorCompletion ch way 0 wait retried soft rebuilt) s = .next (onCtl (fun _ => flashGap ch.val e) s)
      ∧ (blockAt e wk d.block).pslc = d.pslc ∧ (blockAt e wk d.block).erased = false)
  ∧ (∀ wait retried soft rebuilt, (wayAt s.ctl wk).running = some d → d.op = .eraseCheck → (blockAt s.ctl wk d.block).pool = 0 →
    ∃ e, exec (.descriptorCompletion ch way 0 wait retried soft rebuilt) s = .next (onCtl (fun _ => flashGap ch.val e) s)
      ∧ (blockAt e wk d.block).erased = true ∧ (blockAt e wk d.block).failedCheck = false)
  ∧ (∀ st wait retried soft rebuilt, (wayAt s.ctl wk).running = none → exec (.descriptorCompletion ch way st wait retried soft rebuilt) s = .next s)
  ∧ ((wayAt s.ctl wk).running = some d → (wayAt s.ctl wk).timedOut = false → ∃ t, exec (.operationTimeout ch way) s = .next t
    ∧ (wayAt t.ctl wk).timedOut = true ∧ (wayAt t.ctl wk).running = some d
    ∧ getF (Reg.FLC_FAIL.TIMEOUT ch.val) t.ctl = satInc (Reg.FLC_FAIL.TIMEOUT ch.val).width (getF (Reg.FLC_FAIL.TIMEOUT ch.val) s.ctl)
    ∧ KeepsRegs [Reg.FLC_FAIL.TIMEOUT ch.val] s t ∧ (∀ p, p ≠ Part.flash → p.Same s.ctl t.ctl)
    ∧ t.dram = s.dram ∧ t.poison = s.poison ∧ t.pending = s.pending)
  ∧ ((wayAt s.ctl wk).running = some d → (wayAt s.ctl wk).timedOut = true → s.ctl.op ≠ .saving → ∃ t, exec (.operationTimeout ch way) s = .next t
    ∧ (wayAt t.ctl wk).state = 2 ∧ (wayAt t.ctl wk).running = none ∧ t.dram = s.dram ∧ t.poison = s.poison ∧ t.pending = s.pending)
  ∧ ((wayAt s.ctl wk).running = some d → (wayAt s.ctl wk).timedOut = true → s.ctl.op = .saving → ∃ t, exec (.operationTimeout ch way) s = .next t
    ∧ (wayAt t.ctl wk).state = (wayAt s.ctl wk).state ∧ (wayAt t.ctl wk).running = none ∧ t.dram = s.dram ∧ t.poison = s.poison ∧ t.pending = s.pending)
  ∧ ((wayAt s.ctl wk).running = none → exec (.operationTimeout ch way) s = .next s))

/-- COPY_ROW_PAD, RECLAMATION_START, WEAR_LEVELLING, TABLE_LOG_PROGRAM, CHECKPOINT_WRITE, PROGRAM_TIME_CHECK and CHANNEL_RETRAIN (R254, R260, R266, R271,
R276, R278, R279). -/
def Obligations.FlashHousekeeping : Prop := ∀ s : State,
  (∀ (g : Fin 8) reloc id x, flashRuns s.ctl = true → openSb s.ctl g.val reloc = some (id, x) → x.pages % rowPages s.ctl ≠ 0 →
    ∃ t, exec (.copyRowPad g reloc) s = .next t ∧ (∀ e ∈ t.ctl.flash.sbs, e.1 = id → e.2.pages % rowPages s.ctl = 0)
      ∧ (∀ e, e.1 ≠ id → (e ∈ t.ctl.flash.sbs ↔ e ∈ s.ctl.flash.sbs)) ∧ t.ctl.flash.units = s.ctl.flash.units ∧ t.ctl.rf = s.ctl.rf
      ∧ (∀ p, p ≠ Part.flash → p.Same s.ctl t.ctl) ∧ t.dram = s.dram ∧ t.poison = s.poison ∧ t.pending = s.pending)
  ∧ (∀ (g : Fin 8) reloc, flashRuns s.ctl = false ∨ openSb s.ctl g.val reloc = none → exec (.copyRowPad g reloc) s = .next s)
  ∧ (∀ (g : Fin 8) id, flashRuns s.ctl = true → dieInService s.ctl (g.val / 4) = true → groupExists s.ctl g.val = true →
    (freeSbs s.ctl g.val < 8 ∨ groupFailed s.ctl g.val = true) → emptiest s.ctl g.val = some id → ∃ t, exec (.reclamationStart g) s = .next t
      ∧ t.ctl.flash.reclaiming = s.ctl.flash.reclaiming ++ [id] ∧ t.ctl.flash.units.length = s.ctl.flash.units.length
      ∧ t.ctl.rf = s.ctl.rf ∧ (∀ p, p ≠ Part.flash → p.Same s.ctl t.ctl) ∧ t.dram = s.dram ∧ t.poison = s.poison ∧ t.pending = s.pending)
  ∧ (∀ g : Fin 8, flashRuns s.ctl = false ∨ (8 ≤ freeSbs s.ctl g.val ∧ groupFailed s.ctl g.val = false) → exec (.reclamationStart g) s = .next s)
  ∧ (∀ (ch : Fin 64) way b id x, let wk := wayKey ch.val way
    flashRuns s.ctl = true → dieInService s.ctl (wayDie wk) = true → cfgF s.ctl Img.WEAR_SPREAD < spread s.ctl wk → b ∈ copyBlocks s.ctl wk →
    (∀ y ∈ copyBlocks s.ctl wk, y ≠ b → (blockAt s.ctl wk b).erases < (blockAt s.ctl wk y).erases) → sbOfBlock s.ctl wk b = some (id, x) →
    id ∉ s.ctl.flash.reclaiming → ∃ t, exec (.wearLevelling ch way) s = .next t
      ∧ (mapFind s.ctl.flash.sbs id ≠ none → t.ctl.flash.reclaiming = s.ctl.flash.reclaiming ++ [id])
      ∧ t.ctl.rf = s.ctl.rf ∧ (∀ p, p ≠ Part.flash → p.Same s.ctl t.ctl) ∧ t.dram = s.dram ∧ t.poison = s.poison ∧ t.pending = s.pending)
  ∧ (∀ (ch : Fin 64) way, flashRuns s.ctl = false ∨ spread s.ctl (wayKey ch.val way) ≤ cfgF s.ctl Img.WEAR_SPREAD → exec (.wearLevelling ch way) s = .next s)
  ∧ (∀ d : Fin 2, dieInService s.ctl d.val = true → flashRuns s.ctl = true → ∃ t, exec (.tableLogProgram d) s = .next t
      ∧ (if d.val = 0 then t.ctl.flash.log0 = 0 else t.ctl.flash.log1 = 0) ∧ getF (Reg.SAV_SD_TABLES.LOG_PCT d.val) t.ctl ≤ 100
      ∧ (∀ e ∈ t.ctl.flash.units, e.1 / 4 % 2 = d.val → e.2.programmed = true → e.2.logged = true)
      ∧ (∀ wk ∈ dieWays s.ctl d.val, ∀ q ∈ (wayAt t.ctl wk).queue, q.needLog = false)
      ∧ KeepsRegs [Reg.SAV_SD_TABLES.LOG_PCT d.val, Reg.SAV_SD_RECLAIM.RELOCATED d.val] s t ∧ (∀ p, p ∉ [Part.flash, .fresh] → p.Same s.ctl t.ctl)
      ∧ t.dram = s.dram ∧ t.poison = s.poison ∧ t.pending = s.pending)
  ∧ (∀ d : Fin 2, dieInService s.ctl d.val = false ∨ flashRuns s.ctl = false → exec (.tableLogProgram d) s = .next s)
  ∧ (∀ d : Fin 2, dieInService s.ctl d.val = true → flashRuns s.ctl = true → 50 < getF (Reg.SAV_SD_TABLES.LOG_PCT d.val) s.ctl →
    ∃ t, exec (.checkpointWrite d) s = .next t ∧ getF (Reg.SAV_SD_TABLES.LOG_PCT d.val) t.ctl = 0 ∧ getF (Reg.SAV_SD_TABLES.MIRRORED d.val) t.ctl = 1
      ∧ KeepsRegs [Reg.SAV_SD_TABLES.LOG_PCT d.val, Reg.SAV_SD_TABLES.MIRRORED d.val] s t ∧ (∀ p, p ≠ Part.flash → p.Same s.ctl t.ctl)
      ∧ t.dram = s.dram ∧ t.poison = s.poison ∧ t.pending = s.pending)
  ∧ (∀ d : Fin 2, dieInService s.ctl d.val = false ∨ flashRuns s.ctl = false ∨ getF (Reg.SAV_SD_TABLES.LOG_PCT d.val) s.ctl ≤ 50 →
    exec (.checkpointWrite d) s = .next s)
  ∧ (∀ (ch : Fin 64) way median b, let wk := wayKey ch.val way
    flashRuns s.ctl = true → dieInService s.ctl (wayDie wk) = true → (wayAt s.ctl wk).state = 1 → wayFailed s.ctl wk = false → youngest s.ctl wk = some b →
    ∃ t, exec (.programTimeCheck ch way median) s = .next t ∧ (wayAt t.ctl wk).median = min 0xFFFF median
      ∧ (wayAt t.ctl wk).passed = decide (4 * median ≤ 5 * getF Reg.SAV_TIMING.T_C s.ctl) ∧ (wayAt t.ctl wk).lag = !(wayAt t.ctl wk).passed
      ∧ (blockAt t.ctl wk b).erased = false
      ∧ (canTake s.ctl wk ⟨.erase, 7, 0, b, 0, true, 0, 0, 0, true, none⟩ = true → (blockAt s.ctl wk b).cause = 0 → (blockAt s.ctl wk b).erases + 1 < 0xFFFFF →
        (blockAt t.ctl wk b).erases = (blockAt s.ctl wk b).erases + 1
        ∧ (wayWork t.ctl wk).Perm (wayWork s.ctl wk ++ [⟨.erase, 7, 0, b, 0, true, 0, 0, 0, true, none⟩]))
      ∧ KeepsRegs (Reg.FLC_SUSPEND.COUNT (wayChan wk) :: eventFlds) s t ∧ (∀ p, p ∉ Part.flash :: eventParts → p.Same s.ctl t.ctl) ∧ t.dram = s.dram ∧ t.poison = s.poison ∧ t.pending = s.pending)
  ∧ (∀ (ch : Fin 64) way median, flashRuns s.ctl = false ∨ youngest s.ctl (wayKey ch.val way) = none → exec (.programTimeCheck ch way median) s = .next s)
  ∧ (∀ (ch : Fin 64) lanes, flashRuns s.ctl = true → dieInService s.ctl (ch.val / 32) = true → flcState s.ctl ch.val = 4 → urgentPending s.ctl ch.val = false →
    (∃ t, exec (.channelRetrain ch true lanes) s = .next t ∧ flcState t.ctl ch.val = 2 ∧ t.dram = s.dram ∧ t.poison = s.poison ∧ t.pending = s.pending)
    ∧ (mapGet 0 s.ctl.flash.trainFails ch.val < 2 → ∃ t, exec (.channelRetrain ch false lanes) s = .next t
      ∧ mapGet 0 t.ctl.flash.trainFails ch.val = mapGet 0 s.ctl.flash.trainFails ch.val + 1 ∧ t.ctl.rf = s.ctl.rf
      ∧ (∀ p, p ≠ Part.flash → p.Same s.ctl t.ctl) ∧ t.dram = s.dram ∧ t.poison = s.poison ∧ t.pending = s.pending)
    ∧ (2 ≤ mapGet 0 s.ctl.flash.trainFails ch.val → ∃ t, exec (.channelRetrain ch false lanes) s = .next t ∧ flcState t.ctl ch.val = 5
      ∧ bufUsed t.ctl ch.val = 0 ∧ t.dram = s.dram ∧ t.poison = s.poison ∧ t.pending = s.pending))
  ∧ (∀ (ch : Fin 64) pass lanes, flashRuns s.ctl = false ∨ dieInService s.ctl (ch.val / 32) = false ∨ flcState s.ctl ch.val ≠ 4 ∨ urgentPending s.ctl ch.val = true →
    exec (.channelRetrain ch pass lanes) s = .next s)

/-! ### Persistence groups -/

/-- JOIN, CLOSE, COMMIT, ABORT, LEAVE, LEVEL and STATUS (R286-R294, R303, R304), when the frame of the command passes: each takes its effect and is
answered with result 0 when its checks pass. -/
def Obligations.GroupMessages : Prop := ∀ (s : State) (h : HeadId) (tag era grp inc level module epoch sent : Nat),
  vendorRuns s.ctl h tag era anyState false = true →
  (∀ resume, let m : GMsg := ⟨grp, inc, level, module, epoch, sent, resume⟩
    joinChecks m s.ctl = none → joinRepeated m s.ctl = false → incNewer inc s.ctl = true → framesPending s.ctl = false → epochHigh s.ctl ≤ epoch →
    ∃ t, exec (.join h tag era grp inc level module epoch sent resume) s = .next t ∧ member t.ctl = 2
      ∧ getF Reg.HEEL_GRP.INCARNATION t.ctl = inc % 65536 ∧ getF Reg.HEEL_GRP.INC_VALID t.ctl = 1
      ∧ epochHigh t.ctl = epoch % 2 ^ Reg.HEEL_EPOCH_HIGH.VALUE.width ∧ getF Reg.HEEL_GRP.LEVEL t.ctl = level % 2 ^ Reg.HEEL_GRP.LEVEL.width
      ∧ unresolved t.ctl = false ∧ Answered t h 0 tag era stOk 0 s.ctl.mbx.nextSeq
      ∧ KeepsRegs ([Reg.HEEL_GRP.INC_VALID, Reg.HEEL_GRP.INCARNATION, Reg.HEEL_EPOCH_HIGH.VALUE, Reg.EPG_STATE.UNRESOLVED, Reg.EPG_STATE.MEMBER,
        Reg.HEEL_GRP.LEVEL] ++ l1Flds) s t ∧ SameMemory s t)
  ∧ (let m : GMsg := ⟨grp, inc, level, module, epoch, sent, false⟩
    (grpChecks false true m s.ctl = none → closeReason epoch s.ctl = none → ∃ t, exec (.close h tag era grp inc level module epoch sent) s = .next t
      ∧ epochHigh t.ctl = epoch % 2 ^ Reg.HEEL_EPOCH_HIGH.VALUE.width ∧ getF Reg.EPG_CLOSE_CSN.VALUE t.ctl = getF Reg.MEM_CSN.CSN s.ctl % 2 ^ Reg.EPG_CLOSE_CSN.VALUE.width
      ∧ t.ctl.epg.closed = some epoch ∧ Answered t h 0 tag era stOk 0 s.ctl.mbx.nextSeq ∧ SameMemory s t)
    ∧ (∀ r, grpChecks false true m s.ctl = none → closeReason epoch s.ctl = some r → ∃ t, exec (.close h tag era grp inc level module epoch sent) s = .next t
      ∧ getF Reg.EPG_STATE.LAST_MISS t.ctl = r ∧ epochHigh t.ctl = epochHigh s.ctl
      ∧ Answered t h 0 tag era stOk (if r = 6 then 9 else 7) s.ctl.mbx.nextSeq ∧ SameMemory s t)
    ∧ (grpChecks false false m s.ctl = none → committedEpoch s.ctl < epoch → epoch = sealedEpoch s.ctl → unresolved s.ctl = true →
      ∃ t, exec (.commit h tag era grp inc level module epoch sent) s = .next t
      ∧ committedEpoch t.ctl = epoch % 2 ^ Reg.HEEL_COMMITTED.VALUE.width ∧ unresolved t.ctl = false ∧ Answered t h 0 tag era stOk 0 s.ctl.mbx.nextSeq
      ∧ KeepsRegs ([Reg.HEEL_COMMITTED.VALUE, Reg.EPG_STATE.UNRESOLVED, Reg.HEEL_GRP.FORMAT] ++ l1Flds) s t ∧ SameMemory s t)
    ∧ (grpChecks false false m s.ctl = none → epoch = sealedEpoch s.ctl → unresolved s.ctl = true → getF Reg.EPG_STATE.ABORTED s.ctl = 0 →
      ∃ t, exec (.abort h tag era grp inc level module epoch sent) s = .next t
      ∧ getF Reg.EPG_STATE.ABORTED t.ctl = 1 ∧ unresolved t.ctl = false ∧ Answered t h 0 tag era stOk 0 s.ctl.mbx.nextSeq
      ∧ KeepsRegs ([Reg.EPG_STATE.ABORTED, Reg.EPG_STATE.UNRESOLVED] ++ l1Flds) s t ∧ SameMemory s t)
    ∧ (grpChecks false true m s.ctl = none → framesPending s.ctl = false → ∃ t, exec (.leave h tag era grp inc level module epoch sent) s = .next t
      ∧ member t.ctl = 3 ∧ Answered t h 0 tag era stOk 0 s.ctl.mbx.nextSeq ∧ KeepsRegs (Reg.EPG_STATE.MEMBER :: l1Flds) s t ∧ SameMemory s t)
    ∧ (grpChecks true true m s.ctl = none → level ≠ getF Reg.HEEL_GRP.LEVEL s.ctl → getF Reg.HEEL_GRP.FORMAT s.ctl ≤ level → s.ctl.mbx.provEnd = none →
      framesPending s.ctl = false → unresolved s.ctl = false → ∃ t, exec (.level h tag era grp inc level module epoch sent) s = .next t
      ∧ getF Reg.HEEL_GRP.LEVEL t.ctl = level % 2 ^ Reg.HEEL_GRP.LEVEL.width ∧ Answered t h 0 tag era stOk 0 s.ctl.mbx.nextSeq
      ∧ KeepsRegs (Reg.HEEL_GRP.LEVEL :: l1Flds) s t ∧ SameMemory s t)
    ∧ (grpTarget false m s.ctl = none → ∃ t, exec (.status h tag era grp inc level module epoch sent) s = .next t
      ∧ t.ctl.epg.reports = s.ctl.epg.reports.drop 8 ∧ Answered t h 0 tag era stOk 0 s.ctl.mbx.nextSeq ∧ KeepsRegs l1Flds s t ∧ SameMemory s t)
    ∧ (∀ e, grpChecks false false m s.ctl = some e → ∃ t, exec (.commit h tag era grp inc level module epoch sent) s = .next t
      ∧ getF Reg.EPG_COUNTS.REJECTED t.ctl = satInc Reg.EPG_COUNTS.REJECTED.width (getF Reg.EPG_COUNTS.REJECTED s.ctl)
      ∧ Answered t h 0 tag era stOk e s.ctl.mbx.nextSeq ∧ KeepsRegs (Reg.EPG_COUNTS.REJECTED :: l1Flds) s t ∧ SameMemory s t))

/-- EPOCH_PULSE_EDGE, PULSE_FAULT, PULSE_SOURCE_DRIVE and PULSE_CONTENTION (R289, R296-R299): a qualified receiver closes an epoch at each edge within 1 µs
of an expected instant; three faults in a row send it back to Qualifying; an edge far from any instant is a stray.
PTM_REQUEST, PTM_RESPONSE and HOLDOVER_ENTRY (R105, R300-R302): eight offsets in a row within 1 µs lock module time to PTM with a bound of 1 µs,
and a larger one breaks the count; a forward offset above 1 s steps the time at once; when PTM is missed a pulse in service takes over,
else the time base holds over from the bound it has. This holds for every estimate of the frequency. -/
def Obligations.PulseAndModuleTime : Prop :=
  (∀ (s : State) (e : Nat),
  (pulseLive s.ctl = true → pulseState s.ctl = 2 → pulsePeriod s.ctl ≠ 0 → pulseDist e s.ctl ≤ 1000 → ∃ t, exec (.epochPulseEdge e) s = .next t
    ∧ t.ctl.epg.faults = 0 ∧ pulseState t.ctl = 2 ∧ SameMemory s t
    ∧ (closeReason (pulseNearest e s.ctl).1 s.ctl = none → epochHigh t.ctl = (pulseNearest e s.ctl).1 % 2 ^ Reg.HEEL_EPOCH_HIGH.VALUE.width)
    ∧ ∀ r, closeReason (pulseNearest e s.ctl).1 s.ctl = some r → getF Reg.EPG_STATE.LAST_MISS t.ctl = r ∧ epochHigh t.ctl = epochHigh s.ctl)
  ∧ (pulseLive s.ctl = true → pulseState s.ctl = 1 → pulsePeriod s.ctl ≠ 0 → pulseDist e s.ctl ≤ 1000 → getF Reg.EPG_PULSE.GOOD s.ctl = 7 →
    s.ctl.epg.lastGood = some ((pulseNearest e s.ctl).2 - pulsePeriod s.ctl) → pulsePeriod s.ctl ≤ (pulseNearest e s.ctl).2 →
    ∃ t, exec (.epochPulseEdge e) s = .next t ∧ pulseState t.ctl = 2 ∧ getF Reg.EPG_PULSE.GOOD t.ctl = 8 ∧ t.ctl.epg.faults = 0 ∧ SameMemory s t)
  ∧ (pulseLive s.ctl = true → pulseState s.ctl = 2 → pulsePeriod s.ctl ≠ 0 → 1000 < pulseDist e s.ctl → pulsePeriod s.ctl / 4 < pulseDist e s.ctl →
    exec (.epochPulseEdge e) s = .next (onCtl (addF Reg.EPG_PULSE.STRAY) s))
  ∧ (pulseLive s.ctl = false ∨ (pulseState s.ctl ≠ 1 ∧ pulseState s.ctl ≠ 2) ∨ pulsePeriod s.ctl = 0 → exec (.epochPulseEdge e) s = .next s)
  ∧ (pulseLive s.ctl = true → pulseState s.ctl = 2 → pulsePeriod s.ctl ≠ 0 → 1000 < pulseDist e s.ctl → pulseDist e s.ctl ≤ pulsePeriod s.ctl / 4 →
    s.ctl.epg.judged ≠ some (pulseNearest e s.ctl).1 → s.ctl.epg.faults < 2 →
    exec (.epochPulseEdge e) s = .next (onCtl (pulseFaultAt (pulseNearest e s.ctl).1) s))
  ∧ LeadsTo (.pulseFault e) s (pulseLive s.ctl = true ∧ s.ctl.epg.judged ≠ some e) (onCtl (pulseFaultAt e) s)
  ∧ (pulseState s.ctl = 2 → s.ctl.epg.faults < 2 → pulseState (pulseFaultAt e s.ctl) = 2 ∧ (pulseFaultAt e s.ctl).epg.faults = s.ctl.epg.faults + 1
    ∧ getF Reg.EPG_STATE.LAST_MISS (pulseFaultAt e s.ctl) = 7
    ∧ getF Reg.EPG_PULSE.FAULTS (pulseFaultAt e s.ctl) = satInc Reg.EPG_PULSE.FAULTS.width (getF Reg.EPG_PULSE.FAULTS s.ctl))
  ∧ (pulseState s.ctl = 2 → 2 ≤ s.ctl.epg.faults → pulseState (pulseFaultAt e s.ctl) = 1 ∧ (pulseFaultAt e s.ctl).epg.faults = 0
    ∧ getF Reg.EPG_PULSE.GOOD (pulseFaultAt e s.ctl) = 0 ∧ getF Reg.EPG_STATE.LAST_MISS (pulseFaultAt e s.ctl) = 8)
  ∧ LeadsTo (.pulseSourceDrive e) s (pulseLive s.ctl = true ∧ pulseState s.ctl = 3 ∧ clkValid s.ctl = true)
    (onCtl (fun c => pulseClose e (send ⟨.pins, .epochPulse, [e * pulsePeriod c + pulsePhase c], []⟩ c)) s)
  ∧ (pulseLive s.ctl = true → pulseState s.ctl = 3 → ∃ t, exec .pulseContention s = .next t ∧ pulseState t.ctl = 1
    ∧ getF Reg.EPG_PULSE.GOOD t.ctl = 0 ∧ KeepsRegs (Reg.EPG_PULSE.GOOD :: Reg.EPG_PULSE.STATE :: eventFlds) s t
    ∧ (∀ p, p ∉ Part.epg :: eventParts → p.Same s.ctl t.ctl) ∧ SameMemory s t)
  ∧ (pulseLive s.ctl = false ∨ pulseState s.ctl ≠ 3 → exec .pulseContention s = .next s))
  ∧ (∀ s : State,
  LeadsTo .ptmRequest s (ptmRuns s.ctl = true) (onCtl (send ⟨.head (ptmHead s.ctl), .ptmReq, [], []⟩) s)
  ∧ (∀ off : Int, ptmRuns s.ctl = true → off.natAbs ≤ 1000 → 7 ≤ s.ctl.clk.good → ∃ t, exec (.ptmResponse off) s = .next t
    ∧ clkSource t.ctl = 1 ∧ clkValid t.ctl = true ∧ clkErrNow t.ctl = 1000 ∧ getF Reg.EPG_PULSE.UNALIGNED t.ctl = 0
    ∧ t.ctl.clk.good = s.ctl.clk.good + 1 ∧ t.ctl.clk.time = s.ctl.clk.time ∧ SameMemory s t)
  ∧ (∀ off : Int, ptmRuns s.ctl = true → 1000 < off.natAbs → ∃ t, exec (.ptmResponse off) s = .next t
    ∧ clkSource t.ctl = 2 ∧ t.ctl.clk.good = 0 ∧ (off ≤ 1000000000 → t.ctl.clk.time = s.ctl.clk.time)
    ∧ (1000000000 < off → t.ctl.clk.time = s.ctl.clk.time + off.toNat ∧ t.ctl.clk.slew = 0
      ∧ getF Reg.CLK_STATUS.STEPS t.ctl = satInc Reg.CLK_STATUS.STEPS.width (getF Reg.CLK_STATUS.STEPS s.ctl)) ∧ SameMemory s t)
  ∧ (∀ off, ptmRuns s.ctl = false → exec (.ptmResponse off) s = .next s)
  ∧ (clkSource s.ctl = 1 ∨ clkSource s.ctl = 2 → hubPowered s.ctl = true → pulseState s.ctl = 2 → fwRunning s.ctl = true →
    exec .holdoverEntry s = .next (onCtl (fun c => clkErr 1000 (setF Reg.CLK_STATUS.SOURCE 3 { c with clk := { c.clk with good := 0 } })) s))
  ∧ (clkSource s.ctl = 1 ∨ clkSource s.ctl = 2 ∨ clkSource s.ctl = 3 → hubPowered s.ctl = true → pulseState s.ctl ≠ 2 ∨ fwRunning s.ctl = false →
    ∃ t, exec .holdoverEntry s = .next t ∧ clkSource t.ctl = 4 ∧ clkErrNow t.ctl = clkErrNow s.ctl ∧ t.ctl.clk.errAt = some s.ctl.uptime
      ∧ KeepsRegs (Reg.CLK_STATUS.SOURCE :: eventFlds) s t ∧ (∀ p, p ∉ Part.clk :: eventParts → p.Same s.ctl t.ctl) ∧ SameMemory s t)
  ∧ (clkSource s.ctl = 0 ∨ clkSource s.ctl = 4 ∨ clkSource s.ctl = 5 ∨ hubPowered s.ctl = false
    ∨ (clkSource s.ctl = 3 ∧ pulseState s.ctl = 2 ∧ fwRunning s.ctl = true) → exec .holdoverEntry s = .next s))


/-! ### The energy store -/

/-- PRECISE_SAMPLE, OFFSET_CALIBRATION, STORE_TEMP_SAMPLE and REST_POINT (R311, R312, R314, R316, R324, R325): the counter takes the charge of each
sample with nothing lost to rounding, the interval of the charge stays in order, and a temperature outside its range stops the charger. -/
def Obligations.StoreMeasurement : Prop := ∀ s : State,
  (∀ code storeMv inputMv, hubPowered s.ctl = true → ∃ t, exec (.preciseSample code storeMv inputMv) s = .next t
    ∧ getF Reg.NRG_CURRENT.MA t.ctl = fieldOf 32 (codeMa (getF Reg.NRG_CFG.SHUNT s.ctl) (code - s.ctl.nrg.offset))
    ∧ getF Reg.NRG_VOLTAGE.STORE t.ctl = storeMv % 2 ^ Reg.NRG_VOLTAGE.STORE.width
    ∧ getF Reg.NRG_VOLTAGE.INPUT t.ctl = inputMv % 2 ^ Reg.NRG_VOLTAGE.INPUT.width
    ∧ t.ctl.nrg.prevCode = code - s.ctl.nrg.offset ∧ t.ctl.nrg.gap = false ∧ t.ctl.op = s.ctl.op
    ∧ (s.ctl.nrg.qLo ≤ s.ctl.nrg.qHi → t.ctl.nrg.qLo ≤ t.ctl.nrg.qHi)
    ∧ (let d : Int := 16777216 * getF Reg.NRG_CFG.SHUNT s.ctl
       getF Reg.NRG_CFG.SHUNT s.ctl ≠ 0 → s.ctl.nrg.gap = false →
       (let x := s.ctl.nrg.count + ((code - s.ctl.nrg.offset) * 12000000 + s.ctl.nrg.rem) / d; -549755813888 ≤ x ∧ x < 549755813888) →
       t.ctl.nrg.count * d + t.ctl.nrg.rem = s.ctl.nrg.count * d + s.ctl.nrg.rem + (code - s.ctl.nrg.offset) * 12000000)
    ∧ SameMemory s t)
  ∧ (∀ code storeMv inputMv, hubPowered s.ctl = false → exec (.preciseSample code storeMv inputMv) s = .next s)
  ∧ (∀ code, LeadsTo (.offsetCalibration code) s (hubPowered s.ctl = true) (onCtl (fun c => { c with nrg := { c.nrg with offset := code, gap := true } }) s))
  ∧ (∀ t : Int, hubPowered s.ctl = true → ∃ u, exec (.storeTempSample t) s = .next u ∧ getF Reg.NRG_STATUS.TEMP u.ctl = fieldOf 8 t
    ∧ getF Reg.NRG_STATUS.NTC_FAULT u.ctl = b2n (decide (t < -40 ∨ 125 < t))
    ∧ (chgState s.ctl = 7 → chgState u.ctl = 7)
    ∧ (chgOffCond s.ctl = true → chgState u.ctl = chgState s.ctl)
    ∧ (chgState s.ctl ≠ 7 → chgOffCond s.ctl = false → chgTempOk 0 u.ctl = false → chgState u.ctl = 6 ∧ u.ctl.nrg.target = 0)
    ∧ (chgState s.ctl = 6 → chgOffCond s.ctl = false → chgTempOk 3 u.ctl = true → chgTempOk 0 u.ctl = true → chgState u.ctl = 0)
    ∧ u.ctl.op = s.ctl.op ∧ SameMemory s u)
  ∧ (∀ t, hubPowered s.ctl = false → exec (.storeTempSample t) s = .next s)
  ∧ (∀ mv, hubPowered s.ctl = true → getF Reg.NRG_STATUS.RESTING s.ctl = 1 → ∃ t, exec (.restPoint mv) s = .next t
    ∧ getF Reg.NRG_EVENTS.REST_POINTS t.ctl = satInc Reg.NRG_EVENTS.REST_POINTS.width (getF Reg.NRG_EVENTS.REST_POINTS s.ctl)
    ∧ (∃ p, t.ctl.nrg.rested = some p ∧ p.count = s.ctl.nrg.count ∧ p.at_ = s.ctl.uptime ∧ p.q = ocvCharge s.ctl false mv)
    ∧ (getF Reg.NRG_STATUS.LEARNING s.ctl ≠ 1 → t.ctl.nrg.held = false) ∧ t.ctl.nrg.count = s.ctl.nrg.count ∧ SameMemory s t)
  ∧ (∀ mv, hubPowered s.ctl = false ∨ getF Reg.NRG_STATUS.RESTING s.ctl ≠ 1 → exec (.restPoint mv) s = .next s)

/-- LEARN, LEARN_STOP, LEARN_CYCLE_DUE and E_USE_RECOMPUTE (R319, R322, R323): a learn cycle starts when its conditions hold, with BACKUP high and the
charger off; it ends with BACKUP low unless a save draws on the store.
OVER_VOLTAGE, CHARGER_TARGET_UPDATE, HEADROOM_GUARD, CHARGER_TARGET_TIMEOUT, CV_TERMINATION, HOLD_ENTRY, HOLD_EXIT, CHARGER_FAULT_CLEAR and
PRECHARGE_TIMEOUT (R313, R324-R327): the states of the charger, and the bounds of its target current. -/
def Obligations.LearnCyclesAndCharger : Prop :=
  (∀ s : State,
  (learnReady s.ctl = true → ∃ t, exec .learn s = .next t ∧ getF Reg.NRG_STATUS.LEARNING t.ctl = 1 ∧ getF Reg.NRG_STATUS.BACKUP t.ctl = 1
    ∧ chgState t.ctl = 0 ∧ t.ctl.nrg.held = true ∧ t.ctl.nrg.target = 0 ∧ t.ctl.nrg.learnFrom = s.ctl.nrg.count
    ∧ KeepsRegs [Reg.NRG_STATUS.LEARNING, Reg.NRG_STATUS.BACKUP, Reg.NRG_STATUS.CHG_STATE] s t ∧ (∀ p, p ≠ Part.nrg → p.Same s.ctl t.ctl) ∧ SameMemory s t)
  ∧ (learnReady s.ctl = false → exec .learn s = .next s)
  ∧ LeadsTo .learnCycleDue s (cfgF s.ctl Img.LEARN_DAYS ≠ 0 ∧ learnReady s.ctl = true) (onCtl learnStart s)
  ∧ (getF Reg.NRG_STATUS.LEARNING s.ctl = 1 → ∃ t, exec .learnStop s = .next t ∧ getF Reg.NRG_STATUS.LEARNING t.ctl = 0
    ∧ (s.ctl.op ≠ .saving → getF Reg.NRG_STATUS.BACKUP t.ctl = 0) ∧ (s.ctl.op = .saving → getF Reg.NRG_STATUS.BACKUP t.ctl = getF Reg.NRG_STATUS.BACKUP s.ctl)
    ∧ KeepsRegs [Reg.NRG_STATUS.LEARNING, Reg.NRG_STATUS.BACKUP] s t ∧ (∀ p : Part, p.Same s.ctl t.ctl) ∧ SameMemory s t)
  ∧ (getF Reg.NRG_STATUS.LEARNING s.ctl ≠ 1 → exec .learnStop s = .next s)
  ∧ (hubPowered s.ctl = true → fwRunning s.ctl = true → ∃ t, exec .eUseRecompute s = .next t
    ∧ getF Reg.NRG_E_USE.E_USE t.ctl = min 0xFFFFFF (eUse s.ctl) % 2 ^ Reg.NRG_E_USE.E_USE.width
    ∧ getF Reg.NRG_E_NEED.E_NEED t.ctl = eNeed s.ctl (getF Reg.DTK_DIRTY.D s.ctl) % 2 ^ Reg.NRG_E_NEED.E_NEED.width
    ∧ (getF Reg.NRG_STATUS.LEARNING s.ctl = 1 → eUse s.ctl ≤ 2 * eNeed s.ctl (getF Reg.DTK_BUDGET_CFG.VALUE s.ctl) → getF Reg.NRG_STATUS.LEARNING t.ctl = 0)
    ∧ KeepsRegs [Reg.NRG_E_USE.E_USE, Reg.NRG_E_NEED.E_NEED, Reg.NRG_E_NEED.RATIO, Reg.NRG_LEARN.DAYS, Reg.NRG_STATUS.LEARNING, Reg.NRG_STATUS.BACKUP] s t
    ∧ (∀ p : Part, p.Same s.ctl t.ctl) ∧ SameMemory s t)
  ∧ (hubPowered s.ctl = false ∨ fwRunning s.ctl = false → exec .eUseRecompute s = .next s))
  ∧ (∀ s : State,
  (hubPowered s.ctl = true → ∃ t, exec .overVoltage s = .next t ∧ chgState t.ctl = 7 ∧ t.ctl.nrg.target = 0
    ∧ getF Reg.NRG_EVENTS.OV_TRIPS t.ctl = satInc Reg.NRG_EVENTS.OV_TRIPS.width (getF Reg.NRG_EVENTS.OV_TRIPS s.ctl)
    ∧ KeepsRegs (Reg.NRG_STATUS.CHG_STATE :: Reg.NRG_EVENTS.OV_TRIPS :: eventFlds) s t ∧ (∀ p, p ∉ Part.nrg :: eventParts → p.Same s.ctl t.ctl) ∧ SameMemory s t)
  ∧ (hubPowered s.ctl = false → exec .overVoltage s = .next s)
  ∧ (∀ cv, LeadsTo (.chargerTargetUpdate cv) s (hubPowered s.ctl = true ∧ fwRunning s.ctl = true) (onCtl (chargerUpdate cv) s))
  ∧ (∀ cv, chgState s.ctl = 7 → chgState (chargerUpdate cv s.ctl) = 7 ∧ (chargerUpdate cv s.ctl).nrg.target = 0)
  ∧ (∀ cv, chgState s.ctl ≠ 7 → chgOffCond s.ctl = true →
    chgState (chargerUpdate cv s.ctl) = 0 ∧ (chargerUpdate cv s.ctl).nrg.target = 0)
  ∧ (∀ cv, chgState s.ctl = 2 ∨ chgState s.ctl = 3 → chgTempOk 0 s.ctl = true → chgOffCond s.ctl = false →
    let u := (chargerUpdate cv s.ctl).nrg.target
    chgMin s.ctl ≤ u ∧ u ≤ getF Reg.NRG_CHG_CFG.I_CHG s.ctl * 1000 ∧ u ≤ max (chgMin s.ctl) (powerLimit s.ctl)
    ∧ (chgState s.ctl = 3 → u ≤ max (chgMin s.ctl) (cv * 1000))
    ∧ (getF Reg.NRG_CTRL.CHG_LIMIT s.ctl ≠ 0 → u ≤ max (chgMin s.ctl) (getF Reg.NRG_CTRL.CHG_LIMIT s.ctl * 1000)))
  ∧ LeadsTo .headroomGuard s (1 ≤ chgState s.ctl ∧ chgState s.ctl ≤ 3) (onCtl (fun c => { c with nrg := { c.nrg with
      target := max (chgMin c) (c.nrg.target / 2), iH := min c.nrg.iH (max (chgMin c) (c.nrg.target / 2)) } }) s)
  ∧ (∃ t, exec .chargerTargetTimeout s = .next t ∧ t.ctl.nrg.target = 0 ∧ chgState t.ctl = (if chgState s.ctl = 7 then 7 else 0)
    ∧ KeepsRegs [Reg.NRG_STATUS.CHG_STATE] s t ∧ (∀ p, p ≠ Part.nrg → p.Same s.ctl t.ctl) ∧ SameMemory s t)
  ∧ (chgState s.ctl = 3 → ∃ t, exec .cvTermination s = .next t ∧ chgState t.ctl = 4 ∧ t.ctl.nrg.target = 0 ∧ t.ctl.nrg.q = s.ctl.nrg.cap
    ∧ t.ctl.nrg.qHi = s.ctl.nrg.cap ∧ t.ctl.nrg.qLo = s.ctl.nrg.cap - s.ctl.nrg.cap / 200
    ∧ KeepsRegs [Reg.NRG_STATUS.CHG_STATE, Reg.NRG_Q.Q] s t ∧ (∀ p, p ≠ Part.nrg → p.Same s.ctl t.ctl) ∧ SameMemory s t)
  ∧ (chgState s.ctl ≠ 3 → exec .cvTermination s = .next s)
  ∧ (1 ≤ chgState s.ctl → chgState s.ctl ≤ 3 → ∃ t, exec .holdEntry s = .next t ∧ chgState t.ctl = 5 ∧ t.ctl.nrg.target = 0
    ∧ getF Reg.NRG_EVENTS.HOLDS t.ctl = satInc Reg.NRG_EVENTS.HOLDS.width (getF Reg.NRG_EVENTS.HOLDS s.ctl)
    ∧ KeepsRegs (Reg.NRG_STATUS.CHG_STATE :: Reg.NRG_EVENTS.HOLDS :: eventFlds) s t ∧ (∀ p, p ∉ Part.nrg :: eventParts → p.Same s.ctl t.ctl) ∧ SameMemory s t)
  ∧ (chgState s.ctl = 0 ∨ 3 < chgState s.ctl → exec .holdEntry s = .next s)
  ∧ LeadsTo .holdExit s (chgState s.ctl = 5 ∧ chgOffCond s.ctl = false) (onCtl chgBegin s)
  ∧ ((chgState (chgBegin s.ctl) = 1 ∨ chgState (chgBegin s.ctl) = 2) ∧ (chgBegin s.ctl).nrg.target = chgMin s.ctl)
  ∧ LeadsTo .chargerFaultClear s (chgState s.ctl = 7 ∧ getF Reg.NRG_EVENTS.OV_TRIPS s.ctl ≤ 3 ∧ getF Reg.NRG_STATUS.ABSENT s.ctl = 0) (onCtl (setChg 0) s)
  ∧ (∀ mv, getF Reg.NRG_STATUS.ABSENT s.ctl = 1 → chgState s.ctl ≠ 7 → 1000 ≤ mv → exec (.prechargeTimeout mv) s
    = .next (onCtl (fun c => setF Reg.NRG_STATUS.ABSENT 0 (setF Reg.NRG_VOLTAGE.STORE mv c)) s))
  ∧ (∀ mv, getF Reg.NRG_STATUS.ABSENT s.ctl = 1 → chgState s.ctl ≠ 7 → mv < 1000 → ∃ t, exec (.prechargeTimeout mv) s = .next t ∧ chgState t.ctl = 7 ∧ t.ctl.nrg.target = 0
    ∧ getF Reg.NRG_STATUS.ABSENT t.ctl = 1 ∧ KeepsRegs (Reg.NRG_STATUS.CHG_STATE :: eventFlds) s t
    ∧ (∀ p, p ∉ Part.nrg :: eventParts → p.Same s.ctl t.ctl) ∧ SameMemory s t)
  ∧ (∀ mv, getF Reg.NRG_STATUS.ABSENT s.ctl ≠ 1 ∨ chgState s.ctl = 7 → exec (.prechargeTimeout mv) s = .next s))


/-! ### The power sequencer -/

/-- UP_DELAY_ELAPSED, INRUSH_ELAPSED, SLOT_READY, SLOT_FALLEN, FALL_TIMEOUT, RETRY_OFF_ELAPSED and RETRY_COUNT_RESET (R336, R338, R340, R341): how a rail
slot goes up and down. -/
def Obligations.RailsUpAndDown : Prop := ∀ (s : State) (n : Nat),
  (∀ rest, s.ctl.op = .waking → wakeDone s.ctl 5 = true → getF Reg.PSQ_STATUS.ORDER_HELD s.ctl = 0 → allSlots.any (slotRising s.ctl) = false →
    s.ctl.psq.up = n :: rest → ((railOf s.ctl n).aborted = true → (railOf s.ctl n).fallen = true) → ∃ t, exec .upDelayElapsed s = .next t
      ∧ (railOf t.ctl n).st = .inrush ∧ (railOf t.ctl n).en = true ∧ (∀ m, m ≠ n → railOf t.ctl m = railOf s.ctl m) ∧ t.ctl.psq.up = s.ctl.psq.up
      ∧ getF Reg.PSQ_STATUS.SLOT t.ctl = n % 2 ^ Reg.PSQ_STATUS.SLOT.width ∧ KeepsRegs [Reg.PSQ_STATUS.SLOT] s t
      ∧ (∀ p, p ≠ Part.psq → p.Same s.ctl t.ctl) ∧ SameMemory s t)
  ∧ (s.ctl.op ≠ .waking ∨ wakeDone s.ctl 5 = false ∨ getF Reg.PSQ_STATUS.ORDER_HELD s.ctl ≠ 0 ∨ allSlots.any (slotRising s.ctl) = true ∨ s.ctl.psq.up = [] →
    exec .upDelayElapsed s = .next s)
  ∧ LeadsTo (.inrushElapsed n) s ((railOf s.ctl n).st = .inrush) (onCtl (updRail n (fun r => { r with st := .ramp })) s)
  ∧ (∀ vs ramp, (railOf s.ctl n).st = .ramp → vsBelow (railCfg s.ctl n) vs = false → vsAbove (railCfg s.ctl n) vs = false →
    ∃ t, exec (.slotReady n vs ramp) s = .next t ∧ (railOf t.ctl n).vs = vs
    ∧ (railOf t.ctl n).ramp = min 65535 ramp ∧ (n ≠ 1 → (railOf t.ctl n).st = .ready) ∧ (n = 1 → (railOf t.ctl 1).st = .ready)
    ∧ (s.ctl.op = .waking → n ∉ t.ctl.psq.up ∧ getF Reg.PSQ_STATUS.ORDER_HELD t.ctl = 0 ∧ (n = 0 → (railOf t.ctl 1).st = .inrush ∧ (railOf t.ctl 1).en = true))
    ∧ KeepsRegs [Reg.PSQ_STATUS.ORDER_HELD] s t ∧ (∀ p, p ≠ Part.psq → p.Same s.ctl t.ctl) ∧ SameMemory s t)
  ∧ (∀ vs ramp, (railOf s.ctl n).st ≠ .ramp ∨ vsBelow (railCfg s.ctl n) vs = true ∨ vsAbove (railCfg s.ctl n) vs = true →
    exec (.slotReady n vs ramp) s = .next s)
  ∧ ((railOf s.ctl n).st = .falling → s.ctl.psq.deferred = [] → (∃ t, exec (.slotFallen n) s = .next t ∧ (railOf t.ctl n).st = .off ∧ (railOf t.ctl n).en = false ∧ SameMemory s t)
    ∧ ∃ t, exec (.fallTimeout n) s = .next t ∧ (railOf t.ctl n).st = .off ∧ (railOf t.ctl n).en = false ∧ SameMemory s t)
  ∧ ((railOf s.ctl n).st = .fault → (railOf s.ctl n).retrying = true → (railOf s.ctl n).offElapsed = true → s.ctl.psq.deferred = [] →
    ∃ t, exec (.slotFallen n) s = .next t ∧ (railOf t.ctl n).st = .inrush ∧ (railOf t.ctl n).en = true ∧ SameMemory s t)
  ∧ ((railOf s.ctl n).st = .fault → (railOf s.ctl n).retrying = false ∨ (railOf s.ctl n).offElapsed = false →
    exec (.slotFallen n) s = .next (onCtl (updRail n (fun r => { r with fallen := true })) s))
  ∧ ((railOf s.ctl n).st ≠ .falling → (railOf s.ctl n).st ≠ .fault → (railOf s.ctl n).aborted = false → exec (.slotFallen n) s = .next s)
  ∧ ((railOf s.ctl n).st = .fault → (railOf s.ctl n).retrying = true → (railOf s.ctl n).fallen = false → exec (.fallTimeout n) s = .next (onCtl (fun c => settleResponses (exhausted n c)) s))
  ∧ ((railOf s.ctl n).st ≠ .falling → (railOf s.ctl n).st ≠ .fault ∨ (railOf s.ctl n).retrying = false ∨ (railOf s.ctl n).fallen = true →
    exec (.fallTimeout n) s = .next s)
  ∧ ((railOf s.ctl n).retrying = true → (railOf s.ctl n).fallen = true → s.ctl.psq.deferred = [] → ∃ t, exec (.retryOffElapsed n) s = .next t ∧ (railOf t.ctl n).st = .inrush
    ∧ (railOf t.ctl n).en = true ∧ (railOf t.ctl n).retriesUsed = (railOf s.ctl n).retriesUsed ∧ t.ctl.rf = s.ctl.rf ∧ SameMemory s t)
  ∧ ((railOf s.ctl n).retrying = true → (railOf s.ctl n).fallen = false →
    exec (.retryOffElapsed n) s = .next (onCtl (updRail n (fun r => { r with offElapsed := true })) s))
  ∧ ((railOf s.ctl n).retrying = false → exec (.retryOffElapsed n) s = .next s)
  ∧ (∀ cause vs delay, (railOf s.ctl n).st = .off ∨ (railOf s.ctl n).st = .falling ∨ (railOf s.ctl n).st = .fault →
    exec (.slotFault n cause vs delay) s = .next s ∧ exec (.pgTimeout n vs) s = .next s)
  ∧ LeadsTo (.retryCountReset n) s ((railOf s.ctl n).st = .ready) (onCtl (updRail n (fun r => { r with retriesUsed := 0 })) s)

/-- SLOT_FAULT and PG_TIMEOUT (R336, R339-R341, R346): a qualified fault is counted, put in the rail log and shown in PSQ_FAULTS, the slot goes to FAULT
(or stays on, held, where a save needs it), the rising slots are aborted, and the configured response follows; while another response runs that of a second slot within 1 ms waits.
WDI_EDGE, WDI_TIMEOUT, VHEEL_LOSS, HOLD_CHARGED and HEEL_RLOG_CLEAR (R345-R347, R349). -/
def Obligations.RailFaultsAndWatchdog : Prop :=
  (∀ (s : State) (n cause vs : Nat) (delay : Option Nat), vsShows (railCfg s.ctl n) cause vs = false → exec (.slotFault n cause vs delay) s = .next s)
  ∧ (∀ (s : State) (n cause vs : Nat) (delay : Option Nat), n < 16 → vsShows (railCfg s.ctl n) cause vs = true →
  ((railOf s.ctl n).st = .ready ∧ 2 ≤ cause ∧ cause ≤ 5) ∨ ((railOf s.ctl n).st = .ramp ∧ (cause = 1 ∨ cause = 5)) →
  (wholeDown s.ctl = none → delay = none ∨ respRuns s.ctl = false → ∃ e, exec (.slotFault n cause vs delay) s = .next (onCtl (fun _ => railResponse n e) s)
      ∧ (railOf e n).vs = vs ∧ (railOf e n).cause = cause ∧ (railOf e n).count = min 65535 ((railOf s.ctl n).count + 1)
      ∧ (getF Reg.PSQ_FAULTS.FAULTED e).testBit n = true ∧ (cause = 5 → (getF Reg.PSQ_FAULTS.OV e).testBit n = true)
      ∧ (s.ctl.psq.vheelLow = false → ∃ r rest, e.psq.ring = r :: rest ∧ r.type = 1 ∧ r.cause = cause ∧ r.slot = some n ∧ r.seq = nextSeq s.ctl)
      ∧ ((railOf e n).st = .fault ∧ (railOf e n).en = false ∨ (railOf e n).st = .held ∧ (railCfg s.ctl n).saveNeeded = true ∧ (railCfg s.ctl n).response = 3)
      ∧ (∀ m, m < 16 → m ≠ n → slotRising s.ctl m = true → (railOf e m).st = .off ∧ (railOf e m).aborted = true)
      ∧ (∀ m, m ≠ n → slotRising s.ctl m = false → railOf e m = railOf s.ctl m))
  ∧ (wholeDown s.ctl = none → delay ≠ none → respRuns s.ctl = true → ∃ t, exec (.slotFault n cause vs delay) s = .next t
      ∧ t.ctl.psq.deferred = s.ctl.psq.deferred ++ [n] ∧ ((railOf t.ctl n).st = .fault ∨ (railOf t.ctl n).st = .held) ∧ (railOf t.ctl n).cause = cause
      ∧ (∀ m, m ≠ n → railOf t.ctl m = railOf s.ctl m) ∧ t.ctl.op = s.ctl.op ∧ SameMemory s t)
  ∧ (wholeDown s.ctl ≠ none → ∃ t, exec (.slotFault n cause vs delay) s = .next t ∧ (railOf t.ctl n).st = .off ∧ (railOf t.ctl n).cause = cause ∧ SameMemory s t)
  ∧ (cause = 1 → wholeDown s.ctl = none → ∃ e, exec (.pgTimeout n vs) s = .next (onCtl (fun _ => railResponse n e) s)
      ∧ (railOf e n).st = .fault ∧ (railOf e n).en = false ∧ (railOf e n).cause = 1 ∧ (getF Reg.PSQ_FAULTS.FAULTED e).testBit n = true)
  ∧ (∀ c, (railCfg c n).response = 1 → (c.op = .waking ∨ inService c.op = true) → (railOf c n).retriesUsed < (railCfg c n).retries →
    (railOf (railResponse n c) n).retrying = true ∧ (railOf (railResponse n c) n).retriesUsed = (railOf c n).retriesUsed + 1
    ∧ (railResponse n c).rf = c.rf ∧ ∀ p, p ≠ Part.psq → p.Same c (railResponse n c)))
  ∧ (∀ s : State,
  (∀ gap, getF Reg.PSQ_WDI_STATUS.STATE s.ctl ≠ 0 → ∃ t, exec (.wdiEdge gap) s = .next t ∧ getF Reg.PSQ_WDI_STATUS.STATE t.ctl = 2
    ∧ getF Reg.PSQ_WDI_STATUS.RESTARTS t.ctl = 0 ∧ t.ctl.psq.wdiMissed = false
    ∧ KeepsRegs [Reg.PSQ_WDI_STATUS.STATE, Reg.PSQ_WDI_STATUS.RESTARTS, Reg.PSQ_WDI_STATUS.MAX_GAP] s t ∧ (∀ p, p ≠ Part.psq → p.Same s.ctl t.ctl) ∧ SameMemory s t)
  ∧ (∀ gap, getF Reg.PSQ_WDI_STATUS.STATE s.ctl = 0 → exec (.wdiEdge gap) s = .next s)
  ∧ (getF Reg.PSQ_WDI_STATUS.STATE s.ctl ≠ 0 → s.ctl.psq.wdiMissed = false → getF Reg.PSQ_WDI_CFG.RESPONSE s.ctl = 2 → getF Reg.PSQ_WDI_STATUS.RESTARTS s.ctl < 3 →
    ∃ e, exec .wdiTimeout s = .next (onCtl (fun _ => restart e) s) ∧ getF Reg.PSQ_WDI_STATUS.RESTARTS e = getF Reg.PSQ_WDI_STATUS.RESTARTS s.ctl + 1
      ∧ e.psq.wdiMissed = true ∧ e.op = s.ctl.op)
  ∧ (getF Reg.PSQ_WDI_STATUS.STATE s.ctl ≠ 0 → s.ctl.psq.wdiMissed = false → getF Reg.PSQ_WDI_CFG.RESPONSE s.ctl ≠ 2 ∨ 3 ≤ getF Reg.PSQ_WDI_STATUS.RESTARTS s.ctl →
    ∃ t, exec .wdiTimeout s = .next t ∧ t.ctl.psq.wdiMissed = true
      ∧ getF Reg.PSQ_WDI_STATUS.STATE t.ctl = (if getF Reg.PSQ_WDI_CFG.RESPONSE s.ctl = 2 then 3 else 1)
      ∧ (s.ctl.psq.vheelLow = false → ∃ r rest, t.ctl.psq.ring = r :: rest ∧ r.type = 1 ∧ r.cause = 7 ∧ r.slot = none)
      ∧ t.ctl.op = s.ctl.op ∧ SameMemory s t)
  ∧ (getF Reg.PSQ_WDI_STATUS.STATE s.ctl = 0 ∨ s.ctl.psq.wdiMissed = true → exec .wdiTimeout s = .next s)
  ∧ (∀ b, ∃ t, exec (.vheelLoss b) s = .next t ∧ t.ctl.psq.vheelLow = true ∧ getF Reg.HEEL_RLOG_STATUS.HOLD_READY t.ctl = 0
    ∧ (getF Reg.HEEL_RLOG_STATUS.HOLD_READY s.ctl = 1 → b = false → s.ctl.psq.vheelLow = false →
      ∃ r, t.ctl.psq.ring = (r :: s.ctl.psq.ring).take 63 ∧ r.type = 4 ∧ r.hold = true)
    ∧ (∀ r rest, b = true → s.ctl.psq.ring = r :: rest → t.ctl.psq.ring
      = (if getF Reg.HEEL_RLOG_STATUS.HOLD_READY s.ctl = 1 then { r with hold := true } else { r with type := 0 }) :: rest)
    ∧ (∀ p, p ≠ Part.psq → p.Same s.ctl t.ctl) ∧ KeepsRegs [Reg.HEEL_RLOG_STATUS.HOLD_READY] s t ∧ SameMemory s t)
  ∧ exec .holdCharged s = .next (onCtl (fun c => setF Reg.HEEL_RLOG_STATUS.HOLD_READY 1 { c with psq := { c.psq with vheelLow := false } }) s)
  ∧ (∀ key, LeadsTo (.heelRlogClear key) s (key = 0x3C1E) (onCtl (fun c => { c with psq := { c.psq with pinned := none } }) s)))


/-! ### Perud and the guest port -/

/-- LINK_TRAINED, TRAIN_TIMEOUT, HELLO, HELLO_ACK, CREDIT and READY (R352, R359-R361): a link comes up through HELLO and CREDIT to ACTIVE; a partner that
names another version, role or guest takes it DOWN. -/
def Obligations.LinkBringUp : Prop := ∀ (s : State) (k : Fin 3),
  (∀ m0 m1 x80 x81 rate, linkSt s.ctl k = 1 → (m0 || m1) = true → ∃ t, exec (.linkTrained k m0 m1 x80 x81 rate) s = .next t
    ∧ linkSt t.ctl k = 2 ∧ getF (Reg.PRD_LK_STATUS.M0_UP k) t.ctl = b2n m0 ∧ getF (Reg.PRD_LK_STATUS.M1_UP k) t.ctl = b2n m1
    ∧ (linkOf t.ctl k).unacked.length = 1 ∧ (⟨.link k, .hello, [1, 0, if k = 2 then gstEra s.ctl else 0], []⟩ : Msg) ∈ t.ctl.sent ∧ SameMemory s t)
  ∧ (∀ m0 m1 x80 x81 rate, linkSt s.ctl k ≠ 1 ∨ (m0 || m1) = false → exec (.linkTrained k m0 m1 x80 x81 rate) s = .next s)
  ∧ LeadsTo (.trainTimeout k) s (linkSt s.ctl k = 1 ∧ (k ≠ 2 ∨ s.ctl.op = .waking)) (onCtl (linkFails k) s)
  ∧ (linkSt (linkFails k s.ctl) k = 0 ∧ (s.ctl.op = .waking → k.val < 2 → (linkFails k s.ctl).waking.missing.testBit k = true)
    ∧ (s.ctl.op = .waking → k = 2 → (linkFails 2 s.ctl).waking.guestFailed = true ∧ gstPort (linkFails 2 s.ctl) = 0))
  ∧ (∀ v role gid, linkSt s.ctl k = 2 → helloGood k v role gid s.ctl = true → ∃ t, exec (.hello k v role gid) s = .next t
    ∧ linkSt t.ctl k = (if (linkOf s.ctl k).helloAcked then 4 else 3)
    ∧ (⟨.link k, .helloAck, [1, 0, if k = 2 then gstEra s.ctl else 0], []⟩ : Msg) ∈ t.ctl.sent ∧ SameMemory s t)
  ∧ (∀ v role gid, linkSt s.ctl k = 2 → helloGood k v role gid s.ctl = false → ∃ t, exec (.hello k v role gid) s = .next t ∧ linkSt t.ctl k = 0 ∧ SameMemory s t)
  ∧ (∀ v role gid, linkSt s.ctl k ≠ 2 → exec (.hello k v role gid) s = .next s)
  ∧ (∀ v role gid, linkSt s.ctl k = 2 ∨ linkSt s.ctl k = 3 → helloGood k v role gid s.ctl = true → ∃ t, exec (.helloAck k v role gid) s = .next t
    ∧ (linkOf t.ctl k).helloAcked = true ∧ linkSt t.ctl k = (if linkSt s.ctl k = 3 then 4 else 2) ∧ SameMemory s t)
  ∧ (∀ v role gid, (linkSt s.ctl k ≠ 2 ∧ linkSt s.ctl k ≠ 3) ∨ helloGood k v role gid s.ctl = false → exec (.helloAck k v role gid) s = .next s)
  ∧ (∀ cls n, linkSt s.ctl k < 3 → exec (.credit k cls n) s = .next s)
  ∧ (∀ cls n, 3 ≤ linkSt s.ctl k → k.val < 2 → ∃ t, exec (.credit k cls n) s = .next t ∧ mapGet 0 t.ctl.prd.sdCredits (k * 16 + cls) = n
    ∧ t.ctl.rf = s.ctl.rf ∧ (∀ p, p ≠ Part.prd → p.Same s.ctl t.ctl) ∧ SameMemory s t)
  ∧ (∀ n, 3 ≤ linkSt s.ctl 2 → (∃ t, exec (.credit 2 4 n) s = .next t ∧ t.ctl.guest.mmioCr = n
      ∧ getF Reg.GST_CREDITS.MMIO t.ctl = n % 2 ^ Reg.GST_CREDITS.MMIO.width ∧ KeepsRegs [Reg.GST_CREDITS.MMIO] s t ∧ SameMemory s t)
    ∧ (∃ t, exec (.credit 2 7 n) s = .next t ∧ t.ctl.guest.evtCr + t.ctl.guest.toGuest.length = n + s.ctl.guest.toGuest.length
      ∧ getF Reg.GST_CREDITS.EVT t.ctl = n % 2 ^ Reg.GST_CREDITS.EVT.width ∧ KeepsRegs [Reg.GST_CREDITS.EVT] s t ∧ SameMemory s t))
  ∧ (∀ cls n, 3 ≤ linkSt s.ctl 2 → cls ≠ 4 → cls ≠ 7 → exec (.credit 2 cls n) s = .next (onCtl (protoError 2) s))
  ∧ (linkSt s.ctl 2 = 4 → s.ctl.op = .waking → s.ctl.waking.guestFailed = false → cfgF s.ctl Img.MMIO_CREDITS_MIN ≤ getF Reg.GST_CREDITS.MMIO s.ctl →
    4 ≤ getF Reg.GST_CREDITS.EVT s.ctl → ∃ t, exec .ready s = .next t ∧ t.ctl.guest.ready = true ∧ gstPort t.ctl = 2
      ∧ t.ctl.guest.tempAt = some s.ctl.uptime ∧ SameMemory s t)
  ∧ (linkSt s.ctl 2 = 4 → s.ctl.op = .waking → s.ctl.waking.guestFailed = false →
    getF Reg.GST_CREDITS.MMIO s.ctl < cfgF s.ctl Img.MMIO_CREDITS_MIN ∨ getF Reg.GST_CREDITS.EVT s.ctl < 4 → exec .ready s = .next (onCtl w10Fail s))
  ∧ (linkSt s.ctl 2 ≠ 4 ∨ s.ctl.op ≠ .waking ∨ s.ctl.waking.guestFailed = true → exec .ready s = .next s)

/-- PORT_RESET, PORT_RESET_ACK, PORT_RESET_ACK_TIMEOUT, GST_CTRL and MODULE_LOSS (R352, R356, R369, R370, R382): a port reset closes guest intake and goes
on in HELLO in the next era.
ERR, GS_ALERT, TEMP_TIMEOUT, GUEST_RETRAIN_EXPIRY, TEMP and INT (R362, R367, R370-R372): a guest fault contains the port, which closes intake and, for causes
4 to 6, takes the guest rails down; the guest's temperature is kept, contains at 105 °C and saves at 115 °C. -/
def Obligations.GuestPortResetsAndFaults : Prop :=
  (∀ (s : State) (k : Fin 3),
  let next := fun (t : State) => gstEra t.ctl = (gstEra s.ctl + 1) % 4 ∧ gstPort t.ctl = 1 ∧ t.ctl.guest.resetting = none ∧ t.ctl.guest.tids = []
    ∧ t.ctl.guest.mreq = 0 ∧ t.ctl.guest.mwr = 0 ∧ t.ctl.guest.owes = none ∧ SameMemory s t
  let held := eraHeld ((gstEra s.ctl + 1) % 4) s.ctl
  (∀ cause, gstPort s.ctl ≠ 0 → gstPort s.ctl ≠ 5 → 4 ≤ linkSt s.ctl 2 → ∃ t, exec (.portReset cause) s = .next t
    ∧ (held = false → next t ∧ linkSt t.ctl 2 = 2 ∧ (⟨.link 2, .portResetAck, [cause], []⟩ : Msg) ∈ t.ctl.sent)
    ∧ (held = true → t.ctl.guest.resetting = some cause ∧ t.ctl.guest.owes = some (false, cause) ∧ gstEra t.ctl = gstEra s.ctl)
    ∧ t.ctl.pipe.qg = [] ∧ getF Reg.HUB_DOMAIN_STATUS.GUEST_OPEN t.ctl = 0
    ∧ getF Reg.GST_COUNTS.RESETS t.ctl = satInc Reg.GST_COUNTS.RESETS.width (getF Reg.GST_COUNTS.RESETS s.ctl))
  ∧ (∀ cause, gstPort s.ctl = 0 ∨ gstPort s.ctl = 5 ∨ linkSt s.ctl 2 < 4 → exec (.portReset cause) s = .next s)
  ∧ (s.ctl.guest.resetting ≠ none → s.ctl.guest.owes = none → (∃ t, exec .portResetAck s = .next t ∧ next t ∧ linkSt t.ctl 2 = 2)
    ∧ ∃ t, exec .portResetAckTimeout s = .next t ∧ next t ∧ linkSt t.ctl 2 = 1)
  ∧ (s.ctl.guest.resetting = none ∨ s.ctl.guest.owes ≠ none → exec .portResetAck s = .next s ∧ exec .portResetAckTimeout s = .next s)
  ∧ (gstPort s.ctl ≠ 0 → gstPort s.ctl ≠ 5 → s.ctl.guest.resetting = none → ∃ t, exec (.gstCtrl 0x6A11) s = .next t
    ∧ (let cause := if gstPort s.ctl = 4 then 3 else 2
       t.ctl.guest.resetting = some cause ∧ (held = false → t.ctl.guest.owes = none ∧ (⟨.link 2, .portReset, [cause], []⟩ : Msg) ∈ t.ctl.sent)
       ∧ (held = true → t.ctl.guest.owes = some (true, cause))) ∧ t.ctl.pipe.qg = [] ∧ getF Reg.HUB_DOMAIN_STATUS.GUEST_OPEN t.ctl = 0 ∧ SameMemory s t)
  ∧ (∀ key, key ≠ 0x6A11 ∨ gstPort s.ctl = 0 ∨ gstPort s.ctl = 5 ∨ s.ctl.guest.resetting ≠ none → exec (.gstCtrl key) s = .next s)
  ∧ (∀ upper, let f := if upper then Reg.PRD_LK_STATUS.M1_UP k else Reg.PRD_LK_STATUS.M0_UP k
    let other := if upper then Reg.PRD_LK_STATUS.M0_UP k else Reg.PRD_LK_STATUS.M1_UP k
    (getF f s.ctl = 0 → exec (.moduleLoss k upper) s = .next s)
    ∧ (getF f s.ctl ≠ 0 → getF other s.ctl ≠ 0 → ∃ t, exec (.moduleLoss k upper) s = .next t ∧ getF f t.ctl = 0
      ∧ getF (Reg.PRD_LK_TRAIN.LOSSES k) t.ctl = satInc (Reg.PRD_LK_TRAIN.LOSSES k).width (getF (Reg.PRD_LK_TRAIN.LOSSES k) s.ctl)
      ∧ linkSt t.ctl k = linkSt s.ctl k ∧ (k = 2 → getF Reg.GST_STATUS.DEGRADED t.ctl = 1) ∧ SameMemory s t)
    ∧ (getF f s.ctl ≠ 0 → getF other s.ctl = 0 → k = 2 → ∃ t, exec (.moduleLoss k upper) s = .next t ∧ next t ∧ linkSt t.ctl 2 = 1)
    ∧ (getF f s.ctl ≠ 0 → getF other s.ctl = 0 → k.val < 2 → ∃ e, exec (.moduleLoss k upper) s = .next (onCtl (fun _ => dieLeaves k.val 1 e) s)
      ∧ linkSt e k = 0 ∧ getF f e = 0)))
  ∧ (∀ s : State,
  (∀ cause, cause < 8 → gstPort s.ctl ≠ 0 → gstPort s.ctl ≠ 4 ∨ 4 ≤ cause → gstPort s.ctl ≠ 5 → let e := contain cause s.ctl
    getF Reg.GST_STATUS.CONTAIN_CAUSE e = cause ∧ e.pipe.qg = [] ∧ getF Reg.HUB_DOMAIN_STATUS.GUEST_OPEN e = 0 ∧ e.guest.reads = [] ∧ e.guest.mmioQ = []
    ∧ gstPort e = (if 4 ≤ cause then 5 else 4) ∧ (4 ≤ cause → linkSt e 2 = 0 ∧ e.guest.ready = false) ∧ e.op = s.ctl.op
    ∧ getF Reg.GST_COUNTS.CONTAINS e = satInc Reg.GST_COUNTS.CONTAINS.width (getF Reg.GST_COUNTS.CONTAINS s.ctl))
  ∧ (∀ cause, gstPort s.ctl = 0 ∨ (gstPort s.ctl = 4 ∧ cause < 4) ∨ gstPort s.ctl = 5 → contain cause s.ctl = s.ctl)
  ∧ (∀ code, LeadsTo (.err true code) s (linkLive s.ctl 2 = true) (onCtl (contain 3) s) ∧ LeadsTo (.err false code) s (linkLive s.ctl 2 = true) (onCtl (logEvent 0x0D02 13 1 (code * 256)) s))
  ∧ exec .gsAlert s = .next (onCtl (contain 4) s)
  ∧ LeadsTo .tempTimeout s (s.ctl.guest.ready = true) (onCtl (contain 5) s)
  ∧ LeadsTo .guestRetrainExpiry s (linkSt s.ctl 2 ≤ 1) (onCtl (contain 1) s)
  ∧ (∀ t : Int, linkLive s.ctl 2 = true → t < 105 → ∃ u, exec (.temp t) s = .next u ∧ getF Reg.GST_TEMP.TEMP u.ctl = fieldOf 8 t
    ∧ u.ctl.guest.tempAt = some s.ctl.uptime ∧ gstPort u.ctl = gstPort s.ctl ∧ u.ctl.op = s.ctl.op
    ∧ (s.ctl.guest.tempAt = none ∨ signedOf 8 (getF Reg.GST_TEMP.MAX s.ctl) < t → getF Reg.GST_TEMP.MAX u.ctl = fieldOf 8 t) ∧ SameMemory s u)
  ∧ (∀ t : Int, linkLive s.ctl 2 = true → 105 ≤ t → t < 115 → gstPort s.ctl ≠ 0 → gstPort s.ctl ≠ 5 → ∃ u, exec (.temp t) s = .next u
    ∧ getF Reg.GST_TEMP.TEMP u.ctl = fieldOf 8 t ∧ gstPort u.ctl = 5 ∧ getF Reg.GST_STATUS.CONTAIN_CAUSE u.ctl = 6 ∧ SameMemory s u)
  ∧ (∀ t : Int, linkLive s.ctl 2 = true → 115 ≤ t → ∃ e, exec (.temp t) s = .next (onCtl (fun _ => saveTrigger 6 e) s)
    ∧ getF Reg.GST_TEMP.TEMP e = fieldOf 8 t ∧ e.op = s.ctl.op)
  ∧ (∀ t, linkLive s.ctl 2 = false → exec (.temp t) s = .next s)
  ∧ (∀ v, linkLive s.ctl 2 = true → gstPort s.ctl ≠ 4 → s.ctl.guest.ready = true → s.ctl.guest.ints.length < 16 → (∀ r ∈ s.ctl.pipe.qg, r.op = .rd) →
    ∃ t, exec (.int v) s = .next t ∧ (getF Reg.GST_INT_PEND.PEND t.ctl).testBit (v % 32) = true ∧ t.ctl.guest.ints = s.ctl.guest.ints ∧ SameMemory s t)
  ∧ (∀ v, linkLive s.ctl 2 = true → gstPort s.ctl ≠ 4 → s.ctl.guest.ready = true → s.ctl.guest.ints.length < 16 → (∃ r ∈ s.ctl.pipe.qg, r.op ≠ .rd) →
    ∃ t n, exec (.int v) s = .next t ∧ 0 < n ∧ t.ctl.guest.ints = s.ctl.guest.ints ++ [(v % 32, n)] ∧ t.ctl.rf = s.ctl.rf
      ∧ (∀ p, p ≠ Part.guest → p.Same s.ctl t.ctl) ∧ SameMemory s t)
  ∧ (∀ v, linkLive s.ctl 2 = true → gstPort s.ctl ≠ 4 → s.ctl.guest.ready = true → 16 ≤ s.ctl.guest.ints.length → exec (.int v) s = .next (onCtl (protoError 2) s))
  ∧ (∀ v, linkLive s.ctl 2 = false ∨ gstPort s.ctl = 4 ∨ s.ctl.guest.ready = false → exec (.int v) s = .next s))

/-- MRD, MWR and MWRP, and the responses and messages that the guest takes: CMP, DATA, DERR and EVT (R360-R364, R368-R370). A request of the era in force with a
credit and a TID of its own joins the guest's queue at its place in the window; one outside the window is answered with an error; a stale one
is late, and one without a credit or with a TID in use breaks the protocol.
BAR4_READ, BAR4_WRITE, MMRD, MMWR, MMCPL, MMIO_TIMEOUT and TID_QUARANTINE_END (R360, R362, R366, R368): accesses of BAR 4 go to the guest in order as pieces
of 8 bytes, each with a credit and a read with a TID; a read completes with its last piece, or with an abort. -/
def Obligations.GuestRequests : Prop :=
  (∀ (s : State) (i : Instr),
  (∀ w tid era ga hint op data mask poison, guestRequestOf i = some (w, tid, era, ga, hint, op, data, mask, poison) →
    let credits := fun (c : Ctl) => if w then c.guest.mwr else c.guest.mreq
    let shut := s.ctl.guest.opened = true ∧ getF Reg.HUB_DOMAIN_STATUS.GUEST_OPEN s.ctl = 0
    let good := linkLive s.ctl 2 = true ∧ gstPort s.ctl ≠ 4 ∧ era = gstEra s.ctl ∧ ¬ shut ∧ 0 < credits s.ctl ∧ (tid + 1024 * era) ∉ s.ctl.guest.tids
    (good → ga < getF Reg.GST_WIN.SIZE s.ctl * 268435456 → ∃ t, exec i s = .next t ∧ t.ctl.pipe.qg = s.ctl.pipe.qg
        ++ [⟨op, tid + 1024 * era, getF Reg.GST_WIN.BASE s.ctl * 268435456 + ga / 64 * 64, data, mask, poison, if hint = 3 then 0 else hint, false⟩]
      ∧ t.ctl.guest.tids = s.ctl.guest.tids ++ [tid + 1024 * era] ∧ credits t.ctl = credits s.ctl - 1
      ∧ t.ctl.pipe.q0 = s.ctl.pipe.q0 ∧ t.ctl.pipe.q1 = s.ctl.pipe.q1 ∧ t.ctl.chans = s.ctl.chans ∧ t.ctl.dtk = s.ctl.dtk ∧ SameMemory s t)
    ∧ (good → getF Reg.HUB_DOMAIN_STATUS.GUEST_OPEN s.ctl = 1 → tid < 1024 → getF Reg.GST_WIN.SIZE s.ctl * 268435456 ≤ ga → ∃ t, exec i s = .next t
      ∧ (⟨.link 2, if w then .cmpGuest else .derrGuest, [tid, era, 1, 0, 0], []⟩ : Msg) ∈ t.ctl.sent ∧ t.ctl.pipe = s.ctl.pipe
      ∧ credits t.ctl = credits s.ctl ∧ SameMemory s t)
    ∧ (linkLive s.ctl 2 = true → gstPort s.ctl ≠ 4 → era ≠ gstEra s.ctl → exec i s = .next (onCtl (addF (Reg.PRD_LK_LATE.LATE 2)) s))
    ∧ (linkLive s.ctl 2 = true → gstPort s.ctl ≠ 4 → era = gstEra s.ctl → shut → exec i s = .next s)
    ∧ (linkLive s.ctl 2 = true → gstPort s.ctl ≠ 4 → era = gstEra s.ctl → ¬ shut → credits s.ctl = 0 ∨ (tid + 1024 * era) ∈ s.ctl.guest.tids →
      exec i s = .next (onCtl (protoError 2) s))
    ∧ (linkLive s.ctl 2 = false ∨ gstPort s.ctl = 4 → exec i s = .next s))
  ∧ (∀ kind tid m, responseOf i = some (kind, tid) → s.ctl.guest.toGuest.find? (fun m => m.kind == kind && m.args.head? == some tid) = some m →
    (tid + 1024 * m.args.getD 1 0 ∈ s.ctl.guest.tids → exec i s = .next (onCtl (updGuest (fun g => { g with
      toGuest := g.toGuest.erase m, tids := g.tids.erase (tid + 1024 * m.args.getD 1 0) })) s))
    ∧ (tid + 1024 * m.args.getD 1 0 ∉ s.ctl.guest.tids → exec i s = .next (onCtl (fun c => addF (Reg.PRD_LK_LATE.LATE 2)
      (updGuest (fun g => { g with toGuest := g.toGuest.erase m }) c)) s)))
  ∧ (∀ kind tid, responseOf i = some (kind, tid) → s.ctl.guest.toGuest.find? (fun m => m.kind == kind && m.args.head? == some tid) = none → exec i s = .next s)
  ∧ (∀ m, s.ctl.guest.toGuest.find? (fun m => m.kind == .evt) = some m → exec .evt s = .next (onCtl (updGuest (fun g => { g with
    toGuest := g.toGuest.erase m, tids := if m.args.getD 2 0 = 2 then g.tids.filter (fun t => t / 1024 == m.args.getD 3 0) else g.tids })) s))
  ∧ (s.ctl.guest.toGuest.find? (fun m => m.kind == .evt) = none → exec .evt s = .next s))
  ∧ (∀ s : State,
  (∀ (h : HeadId) tag off n, barActive s.ctl = true → ∃ t, exec (.bar4Read h tag off n) s = .next t
    ∧ t.ctl.guest.reads = s.ctl.guest.reads ++ [⟨s.ctl.guest.nextRead, h, tag, (barPieces off n).length, 0, []⟩]
    ∧ t.ctl.guest.mmioQ = s.ctl.guest.mmioQ ++ (barPieces off n).map (fun p => ⟨some s.ctl.guest.nextRead, p, pieceBe off n p, []⟩)
    ∧ t.ctl.guest.nextRead = s.ctl.guest.nextRead + 1 ∧ t.ctl.pipe = s.ctl.pipe ∧ SameMemory s t)
  ∧ (∀ (h : HeadId) tag off n, barActive s.ctl = false → exec (.bar4Read h tag off n) s
    = .next (onCtl (fun c => send ⟨.head h, .bar4Data, [tag, 1], []⟩ (if (headOf c h).linkUp then leaveL1 h c else c)) s))
  ∧ (∀ off data, barActive s.ctl = true → ∃ t, exec (.bar4Write off data) s = .next t ∧ t.ctl.guest.mmioQ = s.ctl.guest.mmioQ
      ++ (barPieces off data.length).map (fun p => ⟨none, p, pieceBe off data.length p, pieceData off p data⟩)
    ∧ t.ctl.guest.reads = s.ctl.guest.reads ∧ t.ctl.pipe = s.ctl.pipe ∧ SameMemory s t)
  ∧ (∀ off data, barActive s.ctl = false → exec (.bar4Write off data) s = .next (onCtl (updGuest (fun g => { g with barDiscards := g.barDiscards + 1 })) s))
  ∧ (∀ p rest id n, s.ctl.guest.mmioQ = p :: rest → p.read = some id → 0 < s.ctl.guest.mmioCr → linkLive s.ctl 2 = true → freeTid s.ctl = some n →
    ∃ t, exec .mmrd s = .next t ∧ t.ctl.guest.mmioQ = rest ∧ t.ctl.guest.mmioCr = s.ctl.guest.mmioCr - 1
      ∧ t.ctl.guest.mmrds = s.ctl.guest.mmrds ++ [⟨n, id, p.offset⟩] ∧ (⟨.link 2, .mmrd, [n, gstEra s.ctl, p.offset, p.be], []⟩ : Msg) ∈ t.ctl.sent
      ∧ t.ctl.rf = s.ctl.rf ∧ SameMemory s t)
  ∧ (∀ p rest, s.ctl.guest.mmioQ = p :: rest → p.read = none → 0 < s.ctl.guest.mmioCr → linkLive s.ctl 2 = true →
    ∃ t, exec .mmwr s = .next t ∧ t.ctl.guest.mmioQ = rest ∧ t.ctl.guest.mmioCr = s.ctl.guest.mmioCr - 1
      ∧ (⟨.link 2, .mmwr, [0, gstEra s.ctl, p.offset, p.be], p.data⟩ : Msg) ∈ t.ctl.sent ∧ t.ctl.rf = s.ctl.rf ∧ SameMemory s t)
  ∧ (s.ctl.guest.mmioQ = [] → s.ctl.guest.toGuest = [] → exec .mmrd s = .next s ∧ exec .mmwr s = .next s)
  ∧ (∀ tid status data m r, linkLive s.ctl 2 = true → s.ctl.guest.mmrds.find? (fun m => m.tid == tid) = some m →
    s.ctl.guest.reads.find? (fun r => r.id == m.read) = some r →
    (r.left ≤ 1 → ∃ t, exec (.mmcpl tid (gstEra s.ctl) status data) s = .next t
      ∧ (∃ d, (⟨.head r.head, .bar4Data, [r.tag, max r.status status], d⟩ : Msg) ∈ t.ctl.sent) ∧ (∀ x ∈ t.ctl.guest.reads, x.id ≠ r.id)
      ∧ t.ctl.rf = s.ctl.rf ∧ SameMemory s t)
    ∧ (1 < r.left → ∃ t, exec (.mmcpl tid (gstEra s.ctl) status data) s = .next t
      ∧ (∃ x ∈ t.ctl.guest.reads, x.id = r.id ∧ x.left = r.left - 1 ∧ mapFind x.data m.offset = some data)
      ∧ t.ctl.sent = s.ctl.sent ∧ t.ctl.rf = s.ctl.rf ∧ SameMemory s t))
  ∧ (∀ tid era status data, linkLive s.ctl 2 = true → s.ctl.guest.mmrds.find? (fun m => m.tid == tid) = none ∨ era ≠ gstEra s.ctl →
    exec (.mmcpl tid era status data) s = .next (onCtl (addF (Reg.PRD_LK_LATE.LATE 2)) s))
  ∧ (∀ tid era status data, linkLive s.ctl 2 = false → exec (.mmcpl tid era status data) s = .next s)
  ∧ (∀ tid m r, s.ctl.guest.mmrds.find? (fun m => m.tid == tid) = some m → s.ctl.guest.reads.find? (fun r => r.id == m.read) = some r →
    ∃ t, exec (.mmioTimeout tid) s = .next t ∧ (⟨.head r.head, .bar4Data, [r.tag, 2], []⟩ : Msg) ∈ t.ctl.sent
      ∧ tid ∈ t.ctl.guest.quarantine ∧ r.tag ∈ (headOf t.ctl r.head).aer ∧ (∀ x ∈ t.ctl.guest.reads, x.id ≠ r.id)
      ∧ getF Reg.GST_COUNTS.MMIO_TIMEOUTS t.ctl = satInc Reg.GST_COUNTS.MMIO_TIMEOUTS.width (getF Reg.GST_COUNTS.MMIO_TIMEOUTS s.ctl)
      ∧ KeepsRegs [Reg.GST_COUNTS.MMIO_TIMEOUTS] s t ∧ SameMemory s t)
  ∧ (∀ tid, s.ctl.guest.mmrds.find? (fun m => m.tid == tid) = none → exec (.mmioTimeout tid) s = .next s)
  ∧ (∀ tid, ∃ t, exec (.tidQuarantineEnd tid) s = .next t ∧ tid ∉ t.ctl.guest.quarantine ∧ (∀ x, x ≠ tid → (x ∈ t.ctl.guest.quarantine ↔ x ∈ s.ctl.guest.quarantine))
    ∧ t.ctl.rf = s.ctl.rf ∧ (∀ p, p ≠ Part.guest → p.Same s.ctl t.ctl) ∧ SameMemory s t))

/-- FLIT_CRC_ERROR, NAK, REPLAY_TIMEOUT, REPLAY_RETRAIN and IDLE_FLIT (R354-R356): nothing that is not acknowledged is lost: a replay sends every flit held again, in
order, and keeps it; a flit in sequence is accepted once. -/
def Obligations.FlitsAndReplay : Prop := ∀ (s : State) (k : Fin 3),
  (∀ c, (linkOf (replay k c) k).unacked = (linkOf c k).unacked ∧ (replay k c).sent = ((linkOf c k).unacked.map (·.msg)).reverse ++ c.sent
    ∧ ((linkOf c k).unacked ≠ [] → getF (Reg.PRD_LK_CRC.REPLAYS k) (replay k c) = satInc (Reg.PRD_LK_CRC.REPLAYS k).width (getF (Reg.PRD_LK_CRC.REPLAYS k) c)))
  ∧ (∀ a c, ∃ n, (linkOf (ackFlits k a c) k).unacked = (linkOf c k).unacked.drop n ∧ (ackFlits k a c).rf = c.rf)
  ∧ (∀ header slots, flitGood (flitBytes header slots) = true)
  ∧ (∀ flit, linkSt s.ctl k ≠ 0 → flitGood flit = false → (linkOf s.ctl k).dropping = false → ∃ t, exec (.flitCrcError ⟨k, flit⟩) s = .next t ∧ (linkOf t.ctl k).dropping = true
    ∧ (⟨.link k, .nak, [(linkOf s.ctl k).rxSeq], []⟩ : Msg) ∈ t.ctl.sent
    ∧ getF (Reg.PRD_LK_CRC.CRC_ERR k) t.ctl = satInc (Reg.PRD_LK_CRC.CRC_ERR k).width (getF (Reg.PRD_LK_CRC.CRC_ERR k) s.ctl)
    ∧ KeepsRegs [Reg.PRD_LK_CRC.CRC_ERR k] s t ∧ SameMemory s t)
  ∧ (∀ flit, linkSt s.ctl k ≠ 0 → flitGood flit = false → (linkOf s.ctl k).dropping = true → exec (.flitCrcError ⟨k, flit⟩) s = .next (onCtl (addF (Reg.PRD_LK_CRC.CRC_ERR k)) s))
  ∧ (∀ flit, linkSt s.ctl k = 0 ∨ flitGood flit = true → exec (.flitCrcError ⟨k, flit⟩) s = .next s)
  ∧ (∀ a, LeadsTo (.nak k a) s (linkSt s.ctl k ≠ 0) (onCtl (fun c => replay k (ackFlits k a c)) s))
  ∧ LeadsTo (.replayTimeout k) s (linkSt s.ctl k ≠ 0) (onCtl (replay k) s)
  ∧ (4 ≤ (linkOf s.ctl k).replays → ∃ t, exec (.replayRetrain k) s = .next t ∧ (linkOf t.ctl k).unacked = (linkOf s.ctl k).unacked
    ∧ (linkOf t.ctl k).replays ≤ 1 ∧ (⟨.link k, .retrain, [], []⟩ : Msg) ∈ t.ctl.sent
    ∧ getF (Reg.PRD_LK_TRAIN.RETRAINS k) t.ctl = satInc (Reg.PRD_LK_TRAIN.RETRAINS k).width (getF (Reg.PRD_LK_TRAIN.RETRAINS k) s.ctl) ∧ SameMemory s t)
  ∧ ((linkOf s.ctl k).replays < 4 → exec (.replayRetrain k) s = .next s)
  ∧ (∀ fseq a cra crb, 3 ≤ linkSt s.ctl k → fseq = (linkOf s.ctl k).rxSeq → ∃ t, exec (.idleFlit k fseq a cra crb) s = .next t
    ∧ (linkOf t.ctl k).rxSeq = (fseq + 1) % 4096 ∧ (linkOf t.ctl k).dropping = false ∧ t.ctl.rf = s.ctl.rf ∧ t.ctl.pipe = s.ctl.pipe ∧ SameMemory s t)
  ∧ (∀ fseq a cra crb, linkSt s.ctl k < 3 ∨ fseq ≠ (linkOf s.ctl k).rxSeq → exec (.idleFlit k fseq a cra crb) s = .next s)

/-- SLEEP_PROPOSAL, SLP_PREP, SLP_ACK, SLP_NAK, SLEEP_ACK_TIMEOUT, SLP_GO, SLP_CANCEL, SLP_WAKE, SLEEP_ENTRY_COMPLETE, SLEEP_EXIT and GUEST_L1_REQUEST (R374-R376): sleep
is agreed by every partner or cancelled, and the links come back active. -/
def Obligations.SleepProtocol : Prop := ∀ (s : State) (k : Fin 3),
  let st := getF Reg.PRD_SLEEP.STATE s.ctl
  let id := getF Reg.PRD_SLEEP.SLEEP_ID s.ctl
  (sleepReady s.ctl = true → ∃ t, exec .sleepProposal s = .next t ∧ getF Reg.PRD_SLEEP.STATE t.ctl = 1 ∧ getF Reg.PRD_SLEEP.SLEEP_ID t.ctl = (id + 1) % 256
    ∧ t.ctl.prd.acks = [] ∧ (∀ p ∈ partners s.ctl, (⟨.link p, .slpPrep, [(id + 1) % 256], []⟩ : Msg) ∈ t.ctl.sent) ∧ SameMemory s t)
  ∧ (sleepReady s.ctl = false → exec .sleepProposal s = .next s)
  ∧ (∀ busy, LeadsTo (.slpPrep k busy) s (st = 1) (onCtl (updLink k (fun l => { l with partner := if busy then 0 else 1 })) s))
  ∧ (st = 1 → (∃ p ∈ partners s.ctl, p ≠ k.val ∧ p ∉ s.ctl.prd.acks) →
    exec (.slpAck k id) s = .next (onCtl (fun c => { c with prd := { c.prd with acks := setAdd c.prd.acks k } }) s))
  ∧ (st = 1 → (∀ p ∈ partners s.ctl, p = k.val ∨ p ∈ s.ctl.prd.acks) → sleepReady (setF Reg.PRD_SLEEP.STATE 0 s.ctl) = true → ∃ t, exec (.slpAck k id) s = .next t
    ∧ getF Reg.PRD_SLEEP.STATE t.ctl = 2 ∧ (∀ p ∈ partners s.ctl, (⟨.link p, .slpGo, [id], []⟩ : Msg) ∈ t.ctl.sent) ∧ SameMemory s t)
  ∧ (∀ n, st ≠ 1 ∨ n ≠ id → exec (.slpAck k n) s = .next s)
  ∧ (∀ n, LeadsTo (.slpNak k n) s (st = 1 ∧ n = id) (onCtl sleepCancel s))
  ∧ LeadsTo .sleepAckTimeout s (st = 1) (onCtl sleepCancel s)
  ∧ (getF Reg.PRD_SLEEP.STATE (sleepCancel s.ctl) = 0 ∧ (sleepCancel s.ctl).prd.acks = []
    ∧ getF Reg.PRD_CANCELS.CANCELS (sleepCancel s.ctl) = satInc Reg.PRD_CANCELS.CANCELS.width (getF Reg.PRD_CANCELS.CANCELS s.ctl))
  ∧ LeadsTo (.slpGo k) s (st = 2) (onCtl (updLink k (fun l => { l with partner := 2 })) s)
  ∧ exec (.slpCancel k) s = .next (onCtl (updLink k (fun l => { l with partner := 0 })) s)
  ∧ (∀ n, LeadsTo (.slpWake k n) s (n = id) (onCtl hubWake s))
  ∧ ((st = 1 → hubWake s.ctl = sleepCancel s.ctl) ∧ (st = 2 → s.ctl.prd.entered = true → hubWake s.ctl = setF Reg.PRD_SLEEP.STATE 3 s.ctl)
    ∧ (st = 2 → s.ctl.prd.entered = false → (hubWake s.ctl).prd.heldWake = true))
  ∧ (st = 2 → s.ctl.prd.entered = false → ∃ t, exec .sleepEntryComplete s = .next t ∧ t.ctl.prd.entered = true
    ∧ (∀ p ∈ partners s.ctl, linkSt t.ctl p = 5) ∧ getF Reg.PRD_SLEEP.STATE t.ctl = (if s.ctl.prd.heldWake then 3 else 2)
    ∧ getF Reg.PRD_SLEEP.SLEEPS t.ctl = satInc Reg.PRD_SLEEP.SLEEPS.width (getF Reg.PRD_SLEEP.SLEEPS s.ctl) ∧ SameMemory s t)
  ∧ (st ≠ 2 ∨ s.ctl.prd.entered = true → exec .sleepEntryComplete s = .next s)
  ∧ (st = 2 ∨ st = 3 → s.ctl.prd.entered = true → ∃ t, exec .sleepExit s = .next t ∧ getF Reg.PRD_SLEEP.STATE t.ctl = 0
    ∧ getF Reg.GST_STATUS.ASLEEP t.ctl = 0 ∧ t.ctl.prd.entered = false ∧ (∀ p, p < 3 → linkSt t.ctl p = (if linkSt s.ctl p = 5 then 4 else linkSt s.ctl p)) ∧ SameMemory s t)
  ∧ ((st ≠ 2 ∧ st ≠ 3) ∨ s.ctl.prd.entered = false → exec .sleepExit s = .next s)
  ∧ LeadsTo .guestL1Request s (st ≠ 2) (onCtl (send ⟨.link 2, .l1Refused, [], []⟩) s)

/-! ### Save-die messages and the CXL heads -/

/-- PERST_ASSERT, PERST_DEASSERT, HOT_RESET, LINK_DOWN_RESET, CXL_RESET and FUNCTION_LEVEL_RESET (R98-R100, R102, R103): a reset of a head takes its link,
decoders, requests and viral state, and leaves the other head and the memory alone; a function-level reset takes its mailbox and interrupts. -/
def Obligations.CxlResets : Prop := ∀ (s : State) (h : HeadId),
  ((headOf s.ctl h).perstLow = false → portLive s.ctl = true → headPresent s.ctl h = true → ∃ t, exec (.perstAssert h) s = .next t
    ∧ HeadGone s t h ∧ (headOf t.ctl h).perstLow = true ∧ getF (perstBit h) t.ctl = 1)
  ∧ ((headOf s.ctl h).perstLow = false → portLive s.ctl = false ∨ headPresent s.ctl h = false →
    exec (.perstAssert h) s = .next (onCtl (updHead h (fun d => { d with perstLow := true })) s))
  ∧ ((headOf s.ctl h).perstLow = true → exec (.perstAssert h) s = .next s)
  ∧ (∃ t, exec (.perstDeassert h) s = .next t ∧ (headOf t.ctl h).perstLow = false ∧ (headOf t.ctl h).l23 = false ∧ getF (wakePendFld h) t.ctl = 0
    ∧ (getF (wakeDrivenFld h) s.ctl ≤ 1 → getF (wakeDrivenFld h) t.ctl = 0) ∧ KeepsRegs [wakePendFld h, wakeDrivenFld h] s t
    ∧ headOf t.ctl (1 - h) = headOf s.ctl (1 - h) ∧ SameMemory s t)
  ∧ (portLive s.ctl = true → (headOf s.ctl h).linkUp = true → (∃ t, exec (.hotReset h) s = .next t ∧ HeadGone s t h ∧ getF (hotBit h) t.ctl = 1
      ∧ (headOf t.ctl h).host = HostCfg.init)
    ∧ (∃ t, exec (.linkDownReset h) s = .next t ∧ HeadGone s t h ∧ getF (hotBit h) t.ctl = 1 ∧ (headOf t.ctl h).host = HostCfg.init)
    ∧ (∃ t, exec (.cxlReset h) s = .next t ∧ HeadGone s t h ∧ getF (hotBit h) t.ctl = getF (hotBit h) s.ctl
      ∧ (headOf t.ctl h).host = { (headOf s.ctl h).host with msix := 0 })
    ∧ (∃ t, exec (.functionLevelReset h) s = .next t ∧ (headOf t.ctl h).policy = 0 ∧ t.ctl.mbx.doorbell = bitClr s.ctl.mbx.doorbell h.val
      ∧ (headOf t.ctl h).decs = (headOf s.ctl h).decs ∧ (headOf t.ctl h).linkUp = true ∧ (headOf t.ctl h).host = { (headOf s.ctl h).host with msix := 0 }
      ∧ t.ctl.pipe = s.ctl.pipe ∧ t.ctl.rf = s.ctl.rf ∧ SameMemory s t))
  ∧ (portLive s.ctl = false ∨ (headOf s.ctl h).linkUp = false → exec (.hotReset h) s = .next s ∧ exec (.linkDownReset h) s = .next s
    ∧ exec (.cxlReset h) s = .next s ∧ exec (.functionLevelReset h) s = .next s)

/-- LINK_UP, HDM_DECODER_COMMIT, VIRAL, GPF_PHASE1, GPF_PHASE2, GPF_TIMEOUT, PME_TURN_OFF and ASPM_L1_ENTRY (R77-R79, R85, R88, R93, R94, R101, R102). -/
def Obligations.CxlLinkEvents : Prop := ∀ (s : State) (h : HeadId),
  let live := portLive s.ctl = true ∧ (headOf s.ctl h).linkUp = true
  (∀ rate width flit lopt host, portLive s.ctl = true → headPresent s.ctl h = true → wakeDone s.ctl 11 = true →
    (headOf s.ctl h).perstLow = false → linkModeOk (twoHead s.ctl) rate width flit lopt = true →
    ∃ t, exec (.linkUp h rate width flit ⟨lopt, host⟩) s = .next t ∧ (headOf t.ctl h).linkUp = true
      ∧ (headOf t.ctl h).host = { host with msix := host.msix % 16 }
      ∧ (linkFields h).map (fun f => getF f t.ctl) = [rate, width, b2n flit, b2n lopt, 0]
      ∧ (headOf t.ctl h).l23 = false ∧ (headOf t.ctl h).decs = (headOf s.ctl h).decs
      ∧ getF (if h = 0 then Reg.HUB_DOMAIN_STATUS.CXL0_UP else Reg.HUB_DOMAIN_STATUS.CXL1_UP) t.ctl = 1
      ∧ KeepsRegs ((if h = 0 then Reg.HUB_DOMAIN_STATUS.CXL0_UP else Reg.HUB_DOMAIN_STATUS.CXL1_UP) :: linkFields h) s t
      ∧ headOf t.ctl (1 - h) = headOf s.ctl (1 - h) ∧ SameMemory s t)
  ∧ (∀ rate width flit lopt host, portLive s.ctl = false ∨ headPresent s.ctl h = false ∨ wakeDone s.ctl 11 = false
      ∨ (headOf s.ctl h).perstLow = true ∨ linkModeOk (twoHead s.ctl) rate width flit lopt = false →
    exec (.linkUp h rate width flit ⟨lopt, host⟩) s = .next s)
  ∧ (∀ (d : Fin 8) base size ways gran target skip, let m : Hdm := ⟨base, size, ways, gran, target, decoderStart s.ctl h d.val skip⟩
    (live → decoderOk s.ctl h d.val m = true → ∃ t, exec (.hdmDecoderCommit h d base size ways gran target skip) s = .next t
      ∧ mapFind (headOf t.ctl h).decs d.val = some m ∧ (headOf t.ctl h).resetting = false
      ∧ (∀ e, e ≠ d.val → mapFind (headOf t.ctl h).decs e = mapFind (headOf s.ctl h).decs e)
      ∧ (∀ x ∈ (headOf s.ctl h).decs, x.2.dpa + hdmLen x.2 ≤ m.dpa) ∧ m.dpa + hdmLen m ≤ (headWindow s.ctl h).2 ∧ t.ctl.rf = s.ctl.rf ∧ SameMemory s t)
    ∧ (live → decoderOk s.ctl h d.val m = false → ∃ t, exec (.hdmDecoderCommit h d base size ways gran target skip) s = .next t
      ∧ (headOf t.ctl h).hdmErr.testBit d.val = true ∧ (headOf t.ctl h).decs = (headOf s.ctl h).decs ∧ t.ctl.rf = s.ctl.rf ∧ SameMemory s t)
    ∧ (¬ live → exec (.hdmDecoderCommit h d base size ways gran target skip) s = .next s))
  ∧ (live → getF (viralFld h) s.ctl ≠ 1 → ∃ t, exec (.viral h) s = .next t ∧ getF (viralFld h) t.ctl = 1 ∧ intakeOpen t.ctl h = false
    ∧ (∀ r ∈ queueOf t.ctl (srcOfHead h), dropTag < r.tag) ∧ (headOf t.ctl h).gpfWait = none
    ∧ queueOf t.ctl (srcOfHead (1 - h)) = queueOf s.ctl (srcOfHead (1 - h)) ∧ t.ctl.op = s.ctl.op ∧ SameMemory s t)
  ∧ (¬ live ∨ getF (viralFld h) s.ctl = 1 → exec (.viral h) s = .next s)
  ∧ LeadsTo (.gpfPhase1 h) s live (onCtl (send ⟨.head h, .gpfDone, [1], []⟩) s)
  ∧ (live → queueOf s.ctl (srcOfHead h) = [] → ∃ t, exec (.gpfPhase2 h) s = .next t ∧ (headOf t.ctl h).gpfWait = none
    ∧ (⟨.head h, .gpfDone, [2], []⟩ : Msg) ∈ t.ctl.sent ∧ (getF Reg.MEM_PORT_CFG.GPF_POLICY s.ctl = 1 → t.ctl.cxl.gpf = some h)
    ∧ (getF Reg.MEM_PORT_CFG.GPF_POLICY s.ctl ≠ 1 → t.ctl.cxl.gpf = s.ctl.cxl.gpf) ∧ t.ctl.rf = s.ctl.rf ∧ SameMemory s t)
  ∧ (live → queueOf s.ctl (srcOfHead h) ≠ [] →
    exec (.gpfPhase2 h) s = .next (onCtl (updHead h (fun d => { d with gpfWait := some (queueOf s.ctl (srcOfHead h)).length })) s))
  ∧ (¬ live → exec (.gpfPhase2 h) s = .next s)
  ∧ LeadsTo .gpfTimeout s (s.ctl.cxl.gpf ≠ none) (onCtl (fun c => saveTrigger 3 { c with cxl := { c.cxl with gpf := none } }) s)
  ∧ (live → (headOf s.ctl h).l23 = false → headQuiet s.ctl h = true → ∃ t, exec (.pmeTurnOff h) s = .next t ∧ (headOf t.ctl h).l23 = true
    ∧ (headOf t.ctl h).pmePolicy = (headOf s.ctl h).policy ∧ (⟨.head h, .pmeToAck, [], []⟩ : Msg) ∈ t.ctl.sent ∧ t.ctl.rf = s.ctl.rf ∧ SameMemory s t)
  ∧ (live → (headOf s.ctl h).l23 = false → headQuiet s.ctl h = false →
    exec (.pmeTurnOff h) s = .next (onCtl (updHead h (fun d => { d with pmeWait := true })) s))
  ∧ (¬ live ∨ (headOf s.ctl h).l23 = true → exec (.pmeTurnOff h) s = .next s)
  ∧ LeadsTo (.aspmL1Entry h) s (live ∧ (headOf s.ctl h).l23 = false ∧ headQuiet s.ctl h = true ∧ ioQuiet s.ctl h = true
      ∧ ((headOf s.ctl h).host.aspmL1 = true ∨ (headOf s.ctl h).host.d3hot = true))
    (onCtl (setF (if h = 0 then Reg.MEM_LINK_STATUS.H0_L1 else Reg.MEM_LINK_STATUS.H1_L1) 1) s)

/-! ### The CXL mailbox -/

/-- The CXL commands that only answer: IDENTIFY_MEMORY_DEVICE, GET_PARTITION_INFO, SET_PARTITION_INFO, GET_LSA, GET_HEALTH_INFO, GET_SHUTDOWN_STATE,
GET_SCAN_MEDIA_CAPABILITIES, GET_EVENT_INTERRUPT_POLICY, GET_FW_INFO, GET_TIMESTAMP and UNSUPPORTED_COMMAND, and those whose answer holds
open values: GET_ALERT_CONFIGURATION, GET_EVENT_RECORDS, GET_SUPPORTED_LOGS and GET_LOG (R76, R83, R89-R92, R95, R96): nothing but the
answer, the doorbell, the L1 bits and the free-value counter changes. GET_POISON_LIST and GET_SCAN_MEDIA_RESULTS answer within one payload of 64 KiB and
keep where they stopped (R82, R89).
A mailbox that cannot be reached takes nothing, and one whose firmware is down keeps the doorbell and nothing else (R86, R387). -/
def Obligations.CxlReadCommands : Prop :=
  (∀ (s : State) (i : Instr) (h : HeadId) (tag : Nat), cxlRuns s.ctl h tag = true →
  (∀ rc data, cxlReads s.ctl i = some (h, tag, rc, data) → ∃ t, exec i s = .next t
    ∧ (⟨.head h, .mailbox, [rc, tag], data⟩ : Msg) ∈ t.ctl.sent ∧ t.ctl.mbx = { s.ctl.mbx with doorbell := bitClr s.ctl.mbx.doorbell h.val }
    ∧ KeepsRegs l1Flds s t ∧ (∀ p, p ∉ [Part.sent, .mbx] → p.Same s.ctl t.ctl) ∧ SameMemory s t)
  ∧ (∀ n, cxlOpenReads s.ctl i = some (h, tag, n) → ∃ t data, exec i s = .next t ∧ data.length = n
    ∧ (⟨.head h, .mailbox, [rcSuccess, tag], data⟩ : Msg) ∈ t.ctl.sent ∧ t.ctl.mbx = { s.ctl.mbx with doorbell := bitClr s.ctl.mbx.doorbell h.val }
    ∧ KeepsRegs l1Flds s t ∧ (∀ p, p ∉ [Part.sent, .mbx, .fresh] → p.Same s.ctl t.ctl) ∧ SameMemory s t)
  ∧ (∀ dpa lines, dpa + lines * 64 ≤ capBytes s.ctl → ∃ t data, exec (.getPoisonList h tag dpa lines) s = .next t
    ∧ (⟨.head h, .mailbox, [rcSuccess, tag], data⟩ : Msg) ∈ t.ctl.sent ∧ data.length ≤ 65536
    ∧ (s.ctl.cxl.poisonSent = none → data.drop 32 = (poisonRecords (dpa / 64) lines s.ctl).take (16 * payloadRecords))
    ∧ (∀ m, s.ctl.cxl.poisonSent = some (dpa / 64, lines, m) → data.drop 32 = ((poisonRecords (dpa / 64) lines s.ctl).drop (16 * m)).take (16 * payloadRecords))
    ∧ KeepsRegs l1Flds s t ∧ (∀ p, p ∉ [Part.sent, .mbx, .fresh, .cxl] → p.Same s.ctl t.ctl) ∧ SameMemory s t)
  ∧ (∃ t, exec (.getScanMediaResults h tag) s = .next t ∧ (⟨.head h, .mailbox, [rcSuccess, tag], (scanResults s.ctl).data⟩ : Msg) ∈ t.ctl.sent
    ∧ (scanResults s.ctl).data.length ≤ 65536 ∧ t.ctl.cxl.scan = s.ctl.cxl.scan
    ∧ t.ctl.cxl.scanSent = (if payloadRecords < s.ctl.cxl.scan.length - s.ctl.cxl.scanSent then s.ctl.cxl.scanSent + payloadRecords else 0)
    ∧ KeepsRegs l1Flds s t ∧ (∀ p, p ∉ [Part.sent, .mbx, .cxl] → p.Same s.ctl t.ctl) ∧ SameMemory s t)
  ∧ (∀ dpa lines, capBytes s.ctl < dpa + lines * 64 → ∃ t, exec (.getPoisonList h tag dpa lines) s = .next t ∧ CxlDone t h rcInvalidPa tag
    ∧ KeepsRegs l1Flds s t ∧ SameMemory s t))
  ∧ (∀ (s : State) (i : Instr) (h : HeadId) (tag rc : Nat) (data : List Byte),
  cxlReads s.ctl i = some (h, tag, rc, data) →
  (reachable s.ctl h = false → exec i s = .next s)
  ∧ (reachable s.ctl h = true → fwRunning s.ctl = false → exec i s = .next (onCtl (ringDoorbell h) s)))

/-- SET_LSA, SET_ALERT_CONFIGURATION, SET_SHUTDOWN_STATE, CLEAR_EVENT_RECORDS, SET_EVENT_INTERRUPT_POLICY and SET_TIMESTAMP (R82, R91, R95, R96, R104, R301, R302): each
takes its effect, is answered, and is in the journal. -/
def Obligations.CxlSetCommands : Prop := ∀ (s : State) (h : HeadId) (tag : Nat), cxlRuns s.ctl h tag = true →
  (∀ off (data : List Byte), off + data.length ≤ 131072 → data.length ≤ 65528 → ∃ t, exec (.setLsa h tag off data) s = .next t
    ∧ (∀ a, memRead 0 t.ctl.ef.lsa a = if off ≤ a ∧ a < off + data.length then data.getD (a - off) 0 else memRead 0 s.ctl.ef.lsa a)
    ∧ CxlDone t h rcSuccess tag ∧ Journaled s t rcSuccess ∧ KeepsRegs l1Flds s t ∧ SameMemory s t)
  ∧ (∀ off (data : List Byte), 131072 < off + data.length ∨ 65528 < data.length → ∃ t, exec (.setLsa h tag off data) s = .next t
    ∧ t.ctl.ef = s.ctl.ef ∧ CxlDone t h rcInvalidInput tag ∧ Journaled s t rcInvalidInput ∧ KeepsRegs l1Flds s t ∧ SameMemory s t)
  ∧ (∀ valid enable vals, ∃ t, exec (.setAlertConfiguration h tag valid enable vals) s = .next t
    ∧ (∀ n, n < 5 → valid.testBit n = true → t.ctl.ef.alertCfg.getD (n + 1) 0 = vals.getD n 0 % 65536
      ∧ (t.ctl.ef.alertCfg.getD 0 0).testBit n = enable.testBit n)
    ∧ (∀ n, n < 5 → valid.testBit n = false → t.ctl.ef.alertCfg.getD (n + 1) 0 = s.ctl.ef.alertCfg.getD (n + 1) 0
      ∧ (t.ctl.ef.alertCfg.getD 0 0).testBit n = (s.ctl.ef.alertCfg.getD 0 0).testBit n)
    ∧ CxlDone t h rcSuccess tag ∧ Journaled s t rcSuccess ∧ KeepsRegs l1Flds s t ∧ SameMemory s t)
  ∧ (∀ dirty, ∃ t, exec (.setShutdownState h tag dirty) s = .next t ∧ t.ctl.ef = { s.ctl.ef with shutdownDirty := dirty }
    ∧ CxlDone t h rcSuccess tag ∧ Journaled s t rcSuccess ∧ KeepsRegs l1Flds s t ∧ SameMemory s t)
  ∧ (∀ (log : Fin 4) all handles, all = true ∨ ((logOf s.ctl log.val).take handles.length).map evHandle = handles →
    ∃ t, exec (.clearEventRecords h tag log all handles) s = .next t
      ∧ logOf t.ctl log.val = (if all then [] else (logOf s.ctl log.val).drop handles.length)
      ∧ (∀ n, n < 4 → n ≠ log.val → logOf t.ctl n = logOf s.ctl n) ∧ mapGet 0 t.ctl.cxl.overflow log.val = 0
      ∧ CxlDone t h rcSuccess tag ∧ Journaled s t rcSuccess ∧ KeepsRegs l1Flds s t ∧ SameMemory s t)
  ∧ (∀ (log : Fin 4) handles, ((logOf s.ctl log.val).take handles.length).map evHandle ≠ handles → ∃ t, exec (.clearEventRecords h tag log false handles) s = .next t
    ∧ t.ctl.cxl = s.ctl.cxl ∧ CxlDone t h rcInvalidHandle tag ∧ SameMemory s t)
  ∧ (∀ policy, ∃ t, exec (.setEventInterruptPolicy h tag policy) s = .next t ∧ (headOf t.ctl h).policy = policy % 16
    ∧ headOf t.ctl (1 - h) = headOf s.ctl (1 - h) ∧ (headOf t.ctl h).decs = (headOf s.ctl h).decs
    ∧ CxlDone t h rcSuccess tag ∧ Journaled s t rcSuccess ∧ KeepsRegs l1Flds s t ∧ SameMemory s t)
  ∧ (∀ time, clkSource s.ctl = 1 ∨ clkSource s.ctl = 2 → ∃ t, exec (.setTimestamp h tag time) s = .next t ∧ t.ctl.clk = s.ctl.clk
    ∧ CxlDone t h rcSuccess tag ∧ Journaled s t rcSuccess ∧ KeepsRegs l1Flds s t ∧ SameMemory s t)
  ∧ (∀ time, clkSource s.ctl ≠ 1 → clkSource s.ctl ≠ 2 → ∃ t, exec (.setTimestamp h tag time) s = .next t ∧ clkValid t.ctl = true
    ∧ clkErrNow t.ctl = 1000000 ∧ clkSource t.ctl = (if clkSource s.ctl = 3 then 3 else 5)
    ∧ (nowNs s.ctl + 1000000000 < time → nowNs t.ctl = time ∧ t.ctl.clk.slew = 0)
    ∧ (time ≤ nowNs s.ctl + 1000000000 → nowNs t.ctl = nowNs s.ctl ∧ t.ctl.clk.slew = ((time : Int) - nowNs s.ctl) * 1000000000)
    ∧ CxlDone t h rcSuccess tag ∧ SameMemory s t)

/-- INJECT_POISON, CLEAR_POISON, SCAN_MEDIA and BACKGROUND_OPERATION_DONE (R89, R90, R125, R153): an injected line carries its marker at once; a clear writes its
data through the head's queue; a scan lists the poisoned lines of its range and what it found; an erase leaves zeros in the host-visible
capacity and touches nothing above it.
SANITIZE, SECURE_ERASE and PASSPHRASE_SECURE_ERASE (R87, R90): an erase starts in Serving and Derated outside a group, one operation at a time; elsewhere it is
refused as busy, and on a locked module as a matter of security. -/
def Obligations.PoisonAndErase : Prop :=
  (∀ (s : State) (h : HeadId) (tag dpa lines : Nat),
  (cxlRuns s.ctl h tag = true → injectCode dpa s.ctl = rcSuccess → ∃ t, exec (.injectPoison h tag dpa) s = .next t ∧ dpa / 64 ∈ t.poison
    ∧ (∀ l, l ≠ dpa / 64 → (l ∈ t.poison ↔ l ∈ s.poison)) ∧ dpa / 64 ∈ t.ctl.ef.injected ∧ CxlDone t h rcSuccess tag
    ∧ t.dram = s.dram ∧ t.pending = s.pending)
  ∧ (cxlRuns s.ctl h tag = true → injectCode dpa s.ctl ≠ rcSuccess → ∃ t, exec (.injectPoison h tag dpa) s = .next t
    ∧ CxlDone t h (injectCode dpa s.ctl) tag ∧ t.ctl.ef = s.ctl.ef ∧ t.ctl.chans = s.ctl.chans ∧ SameMemory s t)
  ∧ (∀ data, cxlRuns s.ctl h tag = true → dpa % 64 = 0 → dpa < capBytes s.ctl → ∃ t r, exec (.clearPoison h tag dpa data) s = .next t
    ∧ queueOf t.ctl (srcOfHead h) = queueOf s.ctl (srcOfHead h) ++ [r] ∧ r.op = .wr ∧ r.dpa = dpa ∧ r.poison = false
    ∧ (∀ i, i < 64 → r.data.getD i 0 = data.getD i 0) ∧ r.tag = dropTag + s.ctl.mbx.nextSeq
    ∧ t.ctl.mbx.running = s.ctl.mbx.running ++ [⟨h, 0x4302, tag, 0, s.ctl.mbx.nextSeq⟩] ∧ SameMemory s t)
  ∧ (∀ data, cxlRuns s.ctl h tag = true → dpa % 64 ≠ 0 ∨ capBytes s.ctl ≤ dpa → ∃ t, exec (.clearPoison h tag dpa data) s = .next t
    ∧ CxlDone t h rcInvalidPa tag ∧ t.ctl.pipe = s.ctl.pipe ∧ SameMemory s t)
  ∧ (cxlRuns s.ctl h tag = true → calState s.ctl = true → dpa + lines * 64 ≤ capBytes s.ctl → s.ctl.cxl.bg = none →
    ∃ t, exec (.scanMedia h tag dpa lines) s = .next t ∧ t.ctl.cxl.bg = some ⟨0x4304, dpa / 64, lines, some h⟩ ∧ t.ctl.cxl.scan = []
      ∧ (∃ x, scanFetch t.ctl = some x ∧ x.first = dpa / 64 ∧ x.total = lines ∧ x.next = 0)
      ∧ CxlDone t h rcBackground tag ∧ KeepsRegs l1Flds s t ∧ SameMemory s t)
  ∧ (cxlRuns s.ctl h tag = true → calState s.ctl = false ∨ (dpa + lines * 64 ≤ capBytes s.ctl ∧ s.ctl.cxl.bg ≠ none) →
    ∃ t, exec (.scanMedia h tag dpa lines) s = .next t ∧ t.ctl.cxl = s.ctl.cxl ∧ CxlDone t h rcBusy tag ∧ SameMemory s t)
  ∧ (∀ b x, s.ctl.cxl.bg = some b → b.opcode = 0x4304 → scanFetch s.ctl = some x → x.complete = true → ∃ t, exec (.backgroundOperationDone b.opcode) s = .next t
    ∧ t.ctl.cxl.scan = s.ctl.cxl.scan ∧ t.ctl.cxl.bg = none ∧ t.ctl.cxl.lastBg = (0x4304, rcSuccess) ∧ (∀ y ∈ t.ctl.pipe.fetches, y.id ≠ x.id) ∧ SameMemory s t)
  ∧ (∀ b, s.ctl.cxl.bg = some b → b.opcode = 0x4304 → (∀ x, scanFetch s.ctl = some x → x.complete = false) → exec (.backgroundOperationDone b.opcode) s = .next s)
  ∧ (∀ b, s.ctl.cxl.bg = some b → b.opcode ≠ 0x4304 → s.ctl.op = .serving ∨ s.ctl.op = .derated → ∃ t, exec (.backgroundOperationDone b.opcode) s = .next t
    ∧ (∀ a, a < capBytes s.ctl → t.byte a = 0) ∧ (∀ a, capBytes s.ctl ≤ a → t.byte a = s.byte a)
    ∧ (∀ l, l ∈ t.poison ↔ l ∈ s.poison ∧ capBytes s.ctl ≤ l * 64) ∧ t.ctl.cxl.bg = none ∧ t.ctl.ef.pendingErase = 0
    ∧ t.ctl.ef.poisonList = [] ∧ t.ctl.dtk.frames = [] ∧ t.ctl.flash.units = [] ∧ t.pending = s.pending)
  ∧ (∀ op, (∀ b, s.ctl.cxl.bg = some b → b.opcode ≠ op) → exec (.backgroundOperationDone op) s = .next s))
  ∧ (∀ (s : State) (h : HeadId) (tag : Nat), cxlRuns s.ctl h tag = true →
  (∀ p ∈ [(Instr.sanitize h tag, 0x4400, 1), (.secureErase h tag, 0x4401, 2)],
    (memLocked s.ctl = false → eraseAllowed s.ctl = true → s.ctl.cxl.bg = none → ∃ t, exec p.1 s = .next t
      ∧ t.ctl.ef.pendingErase = p.2.2 ∧ t.ctl.cxl.bg = some ⟨p.2.1, 0, 0, some h⟩ ∧ CxlDone t h rcBackground tag ∧ (∀ x, intakeOpen t.ctl x = false)
      ∧ KeepsRegs l1Flds s t ∧ SameMemory s t)
    ∧ (memLocked s.ctl = true → ∃ t, exec p.1 s = .next t ∧ CxlDone t h rcSecurity tag ∧ Journaled s t rcSecurity ∧ t.ctl.ef = s.ctl.ef ∧ t.ctl.cxl = s.ctl.cxl ∧ SameMemory s t)
    ∧ (memLocked s.ctl = false → eraseAllowed s.ctl = false ∨ s.ctl.cxl.bg ≠ none → ∃ t, exec p.1 s = .next t ∧ CxlDone t h rcBusy tag
      ∧ Journaled s t rcBusy ∧ t.ctl.ef = s.ctl.ef ∧ t.ctl.cxl = s.ctl.cxl ∧ SameMemory s t))
  ∧ (∀ master pass, frozenSec s.ctl = false → (master = true → s.ctl.cxl.masterTries < 5) → passOf s.ctl master = some pass →
    eraseAllowed s.ctl = true → s.ctl.cxl.bg = none → ∃ t, exec (.passphraseSecureErase h tag master pass) s = .next t
      ∧ t.ctl.ef.pendingErase = 2 ∧ t.ctl.ef.passphrase = none ∧ memLocked t.ctl = false ∧ CxlDone t h rcBackground tag ∧ SameMemory s t)
  ∧ (∀ master pass q, frozenSec s.ctl = false → (master = true → s.ctl.cxl.masterTries < 5) → passOf s.ctl master = some q → q ≠ pass →
    ∃ t, exec (.passphraseSecureErase h tag master pass) s = .next t ∧ CxlDone t h rcPassphrase tag ∧ t.ctl.ef = s.ctl.ef
      ∧ t.ctl.cxl.masterTries = s.ctl.cxl.masterTries + b2n master ∧ SameMemory s t))

/-- GET_SECURITY_STATE, SET_PASSPHRASE, DISABLE_PASSPHRASE, UNLOCK and FREEZE_SECURITY_STATE (R87): a passphrase is changed under the old one, a locked module is
unlocked by the user passphrase alone and at most five attempts, and nothing of it while the security state is frozen. -/
def Obligations.SecurityCommands : Prop := ∀ (s : State) (h : HeadId) (tag : Nat), cxlRuns s.ctl h tag = true →
  (∃ t, exec (.getSecurityState h tag) s = .next t ∧ (⟨.head h, .mailbox, [rcSuccess, tag], leBytes (securityState s.ctl) 4⟩ : Msg) ∈ t.ctl.sent
    ∧ Journaled s t rcSuccess ∧ KeepsRegs l1Flds s t ∧ SameMemory s t)
  ∧ (∀ master old new, frozenSec s.ctl = false → (passOf s.ctl master = none ∨ passOf s.ctl master = some old) →
    ∃ t, exec (.setPassphrase h tag master old new) s = .next t ∧ passOf t.ctl master = some new ∧ passOf t.ctl (!master) = passOf s.ctl (!master)
      ∧ CxlDone t h rcSuccess tag ∧ Journaled s t rcSuccess ∧ KeepsRegs l1Flds s t ∧ SameMemory s t)
  ∧ (∀ master old new p, frozenSec s.ctl = false → passOf s.ctl master = some p → p ≠ old →
    ∃ t, exec (.setPassphrase h tag master old new) s = .next t ∧ t.ctl.ef = s.ctl.ef ∧ CxlDone t h rcPassphrase tag ∧ Journaled s t rcPassphrase ∧ SameMemory s t)
  ∧ (∀ master pass, frozenSec s.ctl = false → passOf s.ctl master = some pass → ∃ t, exec (.disablePassphrase h tag master pass) s = .next t
    ∧ passOf t.ctl master = none ∧ passOf t.ctl (!master) = passOf s.ctl (!master) ∧ (master = false → memLocked t.ctl = false)
    ∧ CxlDone t h rcSuccess tag ∧ Journaled s t rcSuccess ∧ SameMemory s t)
  ∧ (∀ master pass p, frozenSec s.ctl = false → passOf s.ctl master = some p → p ≠ pass → ∃ t, exec (.disablePassphrase h tag master pass) s = .next t
    ∧ t.ctl.ef = s.ctl.ef ∧ CxlDone t h rcPassphrase tag ∧ SameMemory s t)
  ∧ (∀ pass, frozenSec s.ctl = false → memLocked s.ctl = true → s.ctl.cxl.tries < 5 → s.ctl.ef.passphrase = some pass →
    ∃ t, exec (.unlock h tag pass) s = .next t ∧ memLocked t.ctl = false ∧ CxlDone t h rcSuccess tag ∧ Journaled s t rcSuccess ∧ SameMemory s t)
  ∧ (∀ pass, frozenSec s.ctl = false → memLocked s.ctl = true → s.ctl.cxl.tries < 5 → s.ctl.ef.passphrase ≠ some pass →
    ∃ t, exec (.unlock h tag pass) s = .next t ∧ memLocked t.ctl = true ∧ t.ctl.cxl.tries = s.ctl.cxl.tries + 1 ∧ CxlDone t h rcPassphrase tag ∧ SameMemory s t)
  ∧ (∀ pass, frozenSec s.ctl = true ∨ memLocked s.ctl = false ∨ 5 ≤ s.ctl.cxl.tries → ∃ t, exec (.unlock h tag pass) s = .next t
    ∧ KeepsRegs l1Flds s t ∧ t.ctl.cxl = s.ctl.cxl ∧ CxlDone t h rcSecurity tag ∧ SameMemory s t)
  ∧ (∃ t, exec (.freezeSecurityState h tag) s = .next t ∧ frozenSec t.ctl = true ∧ CxlDone t h rcSuccess tag ∧ Journaled s t rcSuccess
    ∧ KeepsRegs (Reg.MEM_ACCESS_STATUS.FROZEN :: l1Flds) s t ∧ SameMemory s t)

/-- TRANSFER_FW, TRANSFER_FW_TIMEOUT, ACTIVATE_FW and PROVISIONAL_PERIOD_END (R402-R404): the parts of a package arrive in order, the running slot is never written, and
a package that does not verify leaves its slot empty; activation keeps the slot to roll back to until the provisional period ends. -/
def Obligations.FirmwareCommands : Prop := ∀ (s : State) (h : HeadId) (tag slot off len inCrc : Nat) (p : FwPackage),
  let barred := (slot ≠ 1 ∧ slot ≠ 2) ∨ slot = s.ctl.mbx.fwSlot ∨ (s.ctl.ef.provisional = true ∧ slot = s.ctl.ef.bootSlot)
  (cxlRuns s.ctl h tag = true → s.ctl.mbx.xfer = none → ¬ barred →
    (fwValid s.ctl p = true → ∃ t, exec (.transferFw h tag 0 slot off len inCrc (some p)) s = .next t ∧ fwSlotOf t.ctl slot = some p
      ∧ fwSlotOf t.ctl (3 - slot) = fwSlotOf s.ctl (3 - slot) ∧ CxlDone t h rcSuccess tag ∧ Journaled s t rcSuccess ∧ SameMemory s t)
    ∧ (fwValid s.ctl p = false → ∃ t, exec (.transferFw h tag 0 slot off len inCrc (some p)) s = .next t ∧ fwSlotOf t.ctl slot = none
      ∧ CxlDone t h rcInvalidFw tag ∧ Journaled s t rcInvalidFw ∧ SameMemory s t)
    ∧ (off = 0 → ∃ t, exec (.transferFw h tag 1 slot off len inCrc none) s = .next t ∧ t.ctl.mbx.xfer = some ⟨slot, h, len⟩ ∧ fwSlotOf t.ctl slot = none
      ∧ CxlDone t h rcSuccess tag ∧ Journaled s t rcSuccess ∧ SameMemory s t))
  ∧ (cxlRuns s.ctl h tag = true → s.ctl.mbx.xfer = none → barred → ∀ action q, action < 2 → ∃ t, exec (.transferFw h tag action slot off len inCrc q) s = .next t
    ∧ t.ctl.ef = s.ctl.ef ∧ t.ctl.mbx.xfer = none ∧ CxlDone t h rcInvalidSlot tag ∧ SameMemory s t)
  ∧ (cxlRuns s.ctl h tag = true → s.ctl.mbx.xfer = some ⟨slot, h, off⟩ →
    (∃ t, exec (.transferFw h tag 2 slot off len inCrc none) s = .next t ∧ t.ctl.mbx.xfer = some ⟨slot, h, off + len⟩ ∧ t.ctl.ef = s.ctl.ef
      ∧ CxlDone t h rcSuccess tag ∧ Journaled s t rcSuccess ∧ SameMemory s t)
    ∧ (fwValid s.ctl p = true → slot = 1 ∨ slot = 2 → ∃ t, exec (.transferFw h tag 3 slot off len inCrc (some p)) s = .next t ∧ fwSlotOf t.ctl slot = some p
      ∧ t.ctl.mbx.xfer = none ∧ CxlDone t h rcSuccess tag ∧ Journaled s t rcSuccess ∧ SameMemory s t)
    ∧ (∃ t, exec (.transferFw h tag 4 slot off len inCrc none) s = .next t ∧ t.ctl.mbx.xfer = none ∧ fwSlotOf t.ctl slot = none ∧ CxlDone t h rcSuccess tag ∧ SameMemory s t)
    ∧ (∀ x, x ≠ off → ∃ t, exec (.transferFw h tag 2 slot x len inCrc none) s = .next t ∧ t.ctl.mbx.xfer = s.ctl.mbx.xfer ∧ CxlDone t h rcXferOrder tag ∧ SameMemory s t))
  ∧ LeadsTo .transferFwTimeout s (hubPowered s.ctl = true ∧ fwRunning s.ctl = true) (onCtl abortXfer s)
  ∧ (∀ x, s.ctl.mbx.xfer = some x → (abortXfer s.ctl).mbx.xfer = none ∧ fwSlotOf (abortXfer s.ctl) x.slot = none)
  ∧ (cxlRuns s.ctl h tag = true → activateCheck false slot s.ctl = none → ∃ t, exec (.activateFw h tag false slot) s = .next t
    ∧ t.ctl.ef.bootSlot = slot ∧ t.ctl.ef.provisional = true ∧ t.ctl.ef.prevSlot = s.ctl.mbx.fwSlot ∧ fwRunning t.ctl = true
    ∧ CxlDone t h rcSuccess tag ∧ Journaled s t rcSuccess ∧ KeepsRegs l1Flds s t ∧ SameMemory s t)
  ∧ (cxlRuns s.ctl h tag = true → hubPowered s.ctl = true → activateCheck true slot s.ctl = none → ∃ t, exec (.activateFw h tag true slot) s = .next t
    ∧ t.ctl.ef.bootSlot = slot ∧ t.ctl.ef.provisional = true ∧ fwRunning t.ctl = false ∧ t.ctl.op = s.ctl.op ∧ SameMemory s t)
  ∧ (∀ online rc st detail, cxlRuns s.ctl h tag = true → activateCheck online slot s.ctl = some (rc, st, detail) →
    ∃ t, exec (.activateFw h tag online slot) s = .next t ∧ t.ctl.ef = s.ctl.ef ∧ CxlDone t h rc tag ∧ Journaled s t rc ∧ KeepsRegs l1Flds s t ∧ SameMemory s t)
  ∧ (fwRunning s.ctl = true → s.ctl.mbx.provEnd ≠ none → ∃ t, exec .provisionalPeriodEnd s = .next t ∧ t.ctl.mbx.provEnd = none
    ∧ t.ctl.ef = { s.ctl.ef with provisional := false } ∧ (getF Reg.MBX_ALERT_PEND.PEND t.ctl).testBit 2 = true ∧ SameMemory s t)
  ∧ (fwRunning s.ctl = false ∨ s.ctl.mbx.provEnd = none → exec .provisionalPeriodEnd s = .next s)

/-! ### Vendor commands -/

/-- The frame of the vendor and group commands (R384-R388, R394): without a session, with a stale era, in a wrong operating state or on a locked module a command
is answered with its status and does nothing else; a duplicate is answered from its journal entry and makes no other. -/
def Obligations.VendorFrame : Prop := ∀ (s : State) (i : Instr) (h : HeadId) (tag era : Nat) (journaled unlocked : Bool) (states : OpState → Bool),
  vendorFrame i = some (h, tag, era, journaled, states, unlocked) → tag < dropTag →
  let up := reachable s.ctl h = true ∧ fwRunning s.ctl = true
  let session := up ∧ sessionOpen s.ctl h = true ∧ era = sessionEra s.ctl h
  let twin := fun (e : JnlEntry) => e.head == h && e.era == era && e.tag == tag && decide (0xC000 ≤ e.opcode)
  let idle := fun (t : State) => KeepsRegs l1Flds s t ∧ (∀ p, p ∉ [Part.sent, .mbx] → p.Same s.ctl t.ctl) ∧ SameMemory s t
  (reachable s.ctl h = false → exec i s = .next s)
  ∧ (reachable s.ctl h = true → fwRunning s.ctl = false → exec i s = .next (onCtl (ringDoorbell h) s))
  ∧ (up → sessionOpen s.ctl h = false → ∃ t, exec i s = .next t ∧ Answered t h rcInvalidInput tag era stNoSession 0 0 ∧ t.ctl.mbx.jrnl = s.ctl.mbx.jrnl ∧ idle t)
  ∧ (up → sessionOpen s.ctl h = true → era ≠ sessionEra s.ctl h → ∃ t, exec i s = .next t ∧ Answered t h rcInvalidInput tag era stStaleEra 0 0
    ∧ t.ctl.mbx.jrnl = s.ctl.mbx.jrnl ∧ idle t)
  ∧ (∀ e, session → s.ctl.mbx.jrnl.find? twin = some e → ∃ t, exec i s = .next t
    ∧ Answered t h rcSuccess tag era stDuplicate e.status e.seq ∧ t.ctl.mbx.jrnl = s.ctl.mbx.jrnl ∧ idle t)
  ∧ (session → s.ctl.mbx.jrnl.find? twin = none → states s.ctl.op = false → ∃ t, exec i s = .next t
    ∧ Answered t h rcBusy tag era stWrongState 0 (if journaled then s.ctl.mbx.nextSeq else 0) ∧ idle t)
  ∧ (session → s.ctl.mbx.jrnl.find? twin = none → states s.ctl.op = true → unlocked = true → getF Reg.MEM_ACCESS_STATUS.LOCKED s.ctl = 1 →
    ∃ t, exec i s = .next t ∧ Answered t h rcSecurity tag era stSecurity 0 s.ctl.mbx.nextSeq ∧ idle t)

/-- GET_JARICA_INFO, GET_JOURNAL, READ_INTEGRATOR_DATA, GET_DIAGNOSTICS and OPEN_SESSION (R385, R388, R398). -/
def Obligations.SessionsAndInformation : Prop := ∀ (s : State) (h : HeadId) (tag era : Nat), tag < dropTag → reachable s.ctl h = true → fwRunning s.ctl = true →
  (∃ t, exec (.getJaricaInfo h tag era) s = .next t ∧ (⟨.head h, .mailbox, [0, tag, era, stOk, 0, 0], vendorHeader tag era stOk 0 0 ++ jaricaInfo (takeDoorbell h s.ctl)⟩ : Msg) ∈ t.ctl.sent
    ∧ (jaricaInfo (takeDoorbell h s.ctl)).length = 64 ∧ t.ctl.mbx.jrnl = s.ctl.mbx.jrnl ∧ KeepsRegs l1Flds s t ∧ SameMemory s t)
  ∧ (∀ start max filter, 0 < max → max ≤ 2040 → filter ≤ 2 → ∃ t, exec (.getJournal h tag era start max filter) s = .next t
    ∧ (⟨.head h, .mailbox, [0, tag, era, stOk, 0, 0], vendorHeader tag era stOk 0 0 ++ journalData start max filter s.ctl⟩ : Msg) ∈ t.ctl.sent
    ∧ t.ctl.mbx.jrnl = s.ctl.mbx.jrnl ∧ KeepsRegs l1Flds s t ∧ SameMemory s t)
  ∧ (∀ start max filter, max = 0 ∨ 2040 < max ∨ 2 < filter → ∃ t, exec (.getJournal h tag era start max filter) s = .next t
    ∧ Answered t h rcInvalidInput tag era stRefused 0 0 ∧ KeepsRegs l1Flds s t ∧ SameMemory s t)
  ∧ (∀ inst off len m, sessionOpen s.ctl h = true → era = sessionEra s.ctl h → earlierEntry h tag era s.ctl = none → s.ctl.cfg = some m → m.integrator.getD inst [] ≠ [] → len ≤ 65504 →
    ∃ t, exec (.readIntegratorData h tag era inst off len) s = .next t
      ∧ (⟨.head h, .mailbox, [0, tag, era, stOk, 0, 0], vendorHeader tag era stOk 0 0 ++ ((m.integrator.getD inst []).drop off).take len⟩ : Msg) ∈ t.ctl.sent ∧ KeepsRegs l1Flds s t ∧ SameMemory s t)
  ∧ (∀ mpa n, sessionOpen s.ctl h = true → era = sessionEra s.ctl h → earlierEntry h tag era s.ctl = none → mpaInBlock mpa = true → mpa % 4 = 0 → n ≤ 4096 →
    ∃ t data, exec (.getDiagnostics h tag era mpa n) s = .next t ∧ (⟨.head h, .mailbox, [0, tag, era, stOk, 0, 0], vendorHeader tag era stOk 0 0 ++ data⟩ : Msg) ∈ t.ctl.sent
      ∧ data.length = 4 * n ∧ KeepsRegs l1Flds s t ∧ (∀ p, p ∉ [Part.sent, .mbx, .latches, .fresh] → p.Same s.ctl t.ctl) ∧ SameMemory s t)
  ∧ (∀ mpa n, sessionOpen s.ctl h = true → era = sessionEra s.ctl h → earlierEntry h tag era s.ctl = none → mpaInBlock mpa = false ∨ mpa % 4 ≠ 0 →
    ∃ t, exec (.getDiagnostics h tag era mpa n) s = .next t ∧ Answered t h rcInvalidInput tag era stRefused 1 0 ∧ KeepsRegs l1Flds s t ∧ SameMemory s t)
  ∧ (sessionOpen s.ctl h = false ∨ (1 ≤ (era % 16 + 16 - sessionEra s.ctl h) % 16 ∧ (era % 16 + 16 - sessionEra s.ctl h) % 16 ≤ 8) →
    earlierEntry h tag (era % 16) s.ctl = none →
    ∃ t, exec (.openSession h tag era) s = .next t ∧ sessionOpen t.ctl h = true ∧ sessionEra t.ctl h = era % 16
      ∧ sessionOpen t.ctl (1 - h) = sessionOpen s.ctl (1 - h) ∧ sessionEra t.ctl (1 - h) = sessionEra s.ctl (1 - h)
      ∧ Answered t h 0 tag (era % 16) stOk 0 s.ctl.mbx.nextSeq ∧ Journaled s t 0 ∧ KeepsRegs l1Flds s t ∧ SameMemory s t)
  ∧ (sessionOpen s.ctl h = true → (era % 16 + 16 - sessionEra s.ctl h) % 16 = 0 ∨ 8 < (era % 16 + 16 - sessionEra s.ctl h) % 16 →
    ∃ t, exec (.openSession h tag era) s = .next t ∧ sessionEra t.ctl h = sessionEra s.ctl h ∧ t.ctl.mbx.jrnl = s.ctl.mbx.jrnl
      ∧ Answered t h rcInvalidInput tag (era % 16) stStaleEra 0 0 ∧ KeepsRegs l1Flds s t ∧ SameMemory s t)

/-- STAGE_START, STAGE_DATA, STAGE_FINISH, STAGE_ABORT and STAGING_IDLE_TIMEOUT (R58, R59, R389, R393): the inactive copy is erased, filled in order, and valid only after
its check; the active copy is never written. -/
def Obligations.Staging : Prop := ∀ (s : State) (h : HeadId) (tag era : Nat),
  let run := vendorRuns s.ctl h tag era stageStates true = true
  let active := fun (c : Ctl) => if inactiveCopy c then c.nor.copyA else c.nor.copyB
  let inactive := fun (c : Ctl) => if inactiveCopy c then c.nor.copyB else c.nor.copyA
  let done := fun (t : State) => Answered t h 0 tag era stOk 0 s.ctl.mbx.nextSeq ∧ Journaled s t 0 ∧ SameMemory s t
  (∀ hdr, run → stageBusy h s.ctl = false → stageReject (headerOf hdr) s.ctl = 0 → ∃ t, exec (.stageStart h tag era hdr (headerOf hdr).imageSize) s = .next t
    ∧ t.ctl.mbx.stage.st = 2 ∧ t.ctl.mbx.stage.head = h ∧ t.ctl.mbx.stage.bytes = 0 ∧ inactive t.ctl = ImageCopy.erased ∧ active t.ctl = active s.ctl
    ∧ t.ctl.mbx.stage.hdr = headerOnly (headerOf hdr) ∧ KeepsRegs (Reg.HUB_CFG_STATUS.STAGED :: l1Flds) s t ∧ done t)
  ∧ (∀ hdr n, run → stageBusy h s.ctl = false → (if n ≠ (headerOf hdr).imageSize then 3 else stageReject (headerOf hdr) s.ctl) ≠ 0 → ∃ t, exec (.stageStart h tag era hdr n) s = .next t
    ∧ t.ctl.nor = s.ctl.nor ∧ Answered t h rcInvalidInput tag era stRefused (if n ≠ (headerOf hdr).imageSize then 3 else stageReject (headerOf hdr) s.ctl) s.ctl.mbx.nextSeq
    ∧ KeepsRegs l1Flds s t ∧ SameMemory s t)
  ∧ (∀ off data, run → stageBusy h s.ctl = false → s.ctl.mbx.stage.st = 2 → off = s.ctl.mbx.stage.bytes → data ≠ [] → data.length ≤ 61440 →
    off + data.length ≤ s.ctl.mbx.stage.hdr.imageSize → (data.length % 4096 = 0 ∨ off + data.length = s.ctl.mbx.stage.hdr.imageSize) →
    ∃ t, exec (.stageData h tag era off data true) s = .next t ∧ t.ctl.mbx.stage.bytes = off + data.length ∧ t.ctl.mbx.stage.last = s.ctl.uptime
      ∧ active t.ctl = active s.ctl ∧ KeepsRegs l1Flds s t ∧ done t)
  ∧ (∀ off data, run → stageBusy h s.ctl = false → s.ctl.mbx.stage.st = 2 → off ≠ s.ctl.mbx.stage.bytes → ∃ t, exec (.stageData h tag era off data true) s = .next t
    ∧ Answered t h rcInvalidInput tag era stSequence s.ctl.mbx.stage.bytes s.ctl.mbx.nextSeq ∧ t.ctl.mbx.stage = s.ctl.mbx.stage ∧ t.ctl.nor = s.ctl.nor ∧ SameMemory s t)
  ∧ (∀ img, run → stageBusy h s.ctl = false → s.ctl.mbx.stage.st = 2 → s.ctl.mbx.stage.bytes = s.ctl.mbx.stage.hdr.imageSize →
    headerOnly img = { s.ctl.mbx.stage.hdr with readFails := img.readFails } → ∃ t, exec (.stageFinish h tag era img) s = .next t
      ∧ inactive t.ctl = img ∧ active t.ctl = active s.ctl ∧ SameMemory s t
      ∧ (t.ctl.mbx.stage.st = 4 ∧ getF Reg.HUB_CFG_STATUS.STAGED t.ctl = 1 ∧ done t
        ∨ t.ctl.mbx.stage.st = 5 ∧ t.ctl.mbx.stage.reject ≠ 0 ∧ Answered t h rcInvalidInput tag era stRefused t.ctl.mbx.stage.reject s.ctl.mbx.nextSeq))
  ∧ (vendorRuns s.ctl h tag era anyState true = true → stageBusy h s.ctl = false → ∃ t, exec (.stageAbort h tag era) s = .next t
    ∧ (staging s.ctl = true → t.ctl.mbx.stage.st = 5) ∧ (staging s.ctl = false → t.ctl.mbx.stage = s.ctl.mbx.stage) ∧ t.ctl.nor = s.ctl.nor
    ∧ KeepsRegs l1Flds s t ∧ done t)
  ∧ LeadsTo .stagingIdleTimeout s (fwRunning s.ctl = true) (onCtl (abortStage true) s)
  ∧ (staging s.ctl = true → (abortStage true s.ctl).mbx.stage.st = 5 ∧ (getF Reg.MBX_ALERT_PEND.PEND (abortStage true s.ctl)).testBit 3 = true)

/-- RAISE_GENERATION_FLOOR, PROGRAM_KEY_SLOT, REVOKE_KEY_SLOT, RAISE_FIRMWARE_FLOOR and ADVANCE_FORMAT (R390, R404, R405): floors only rise and never above what runs; a key slot
is programmed once; the slot that signed the active copy and the last usable slot are not revoked; the format moves by one.
SET_ALERT_ENABLES, SAVE_NOW, SET_RESTORE_TARGET, HEEL_RESTORE_TGT, RELEASE_KEEP_IMAGE, RELEASE_DRAIN_DONE and RELEASE_DRAIN_TIMEOUT (R239, R246, R388, R391, R407, R452). -/
def Obligations.FloorsKeysAndSaves : Prop :=
  (∀ (s : State) (h : HeadId) (tag era v : Nat), vendorRuns s.ctl h tag era servingStates true = true →
  let done := fun (t : State) (d : Nat) => Answered t h 0 tag era stOk d s.ctl.mbx.nextSeq ∧ Journaled s t 0 ∧ SameMemory s t
  let refused := fun (t : State) (d : Nat) => Answered t h rcInvalidInput tag era stRefused d s.ctl.mbx.nextSeq ∧ t.ctl.ef = s.ctl.ef ∧ t.ctl.fuses = s.ctl.fuses
    ∧ KeepsRegs l1Flds s t ∧ SameMemory s t
  let usable := (List.range 4).filter (fun n => (keySlotOf s.ctl n).hash.isSome && !(keySlotOf s.ctl n).revoked)
  (s.ctl.ef.genFloor < v → v ≤ getF Reg.HUB_CFG_GEN.VALUE s.ctl → ∃ t d, exec (.raiseGenerationFloor h tag era v) s = .next t ∧ t.ctl.ef.genFloor = v
    ∧ d ≤ 1 ∧ KeepsRegs l1Flds s t ∧ done t d)
  ∧ (v ≤ s.ctl.ef.genFloor ∨ getF Reg.HUB_CFG_GEN.VALUE s.ctl < v → ∃ t, exec (.raiseGenerationFloor h tag era v) s = .next t ∧ refused t 0)
  ∧ (∀ slot, 0 < slot → slot ≤ 3 → slot < s.ctl.fuses.length → (keySlotOf s.ctl slot).hash = none → ∃ t, exec (.programKeySlot h tag era slot v) s = .next t
    ∧ (keySlotOf t.ctl slot).hash = some v ∧ (∀ n, n ≠ slot → keySlotOf t.ctl n = keySlotOf s.ctl n) ∧ KeepsRegs l1Flds s t ∧ done t 0)
  ∧ (∀ slot, slot = 0 ∨ 3 < slot ∨ (keySlotOf s.ctl slot).hash ≠ none → ∃ t, exec (.programKeySlot h tag era slot v) s = .next t ∧ refused t 0)
  ∧ (∀ slot m, slot ≤ 3 → slot < s.ctl.fuses.length → s.ctl.cfg = some m → slot ≠ m.keySlot → usable ≠ [slot] → ∃ t, exec (.revokeKeySlot h tag era slot) s = .next t
    ∧ (keySlotOf t.ctl slot).revoked = true ∧ (∀ n, n ≠ slot → keySlotOf t.ctl n = keySlotOf s.ctl n) ∧ KeepsRegs l1Flds s t ∧ done t 0)
  ∧ (∀ slot m, slot ≤ 3 → s.ctl.cfg = some m → slot = m.keySlot ∨ usable = [slot] → ∃ t, exec (.revokeKeySlot h tag era slot) s = .next t ∧ refused t 3)
  ∧ (∀ p, runningFw s.ctl = some p → s.ctl.ef.fwFloor < v → v ≤ p.svn → ∃ t, exec (.raiseFirmwareFloor h tag era v) s = .next t ∧ t.ctl.ef.fwFloor = v
    ∧ KeepsRegs l1Flds s t ∧ done t 0)
  ∧ (∀ p, runningFw s.ctl = some p → v ≤ s.ctl.ef.fwFloor ∨ p.svn < v → ∃ t, exec (.raiseFirmwareFloor h tag era v) s = .next t ∧ refused t 0)
  ∧ (∀ p m, s.ctl.mbx.provEnd = none → s.ctl.cfg = some m → imgHas m 12 = false → runningFw s.ctl = some p → v = getF Reg.HEEL_GRP.FORMAT s.ctl + 1 →
    v ≤ p.formatMax → (∀ q, fwSlotOf s.ctl (3 - s.ctl.mbx.fwSlot) = some q → v ≤ q.formatMax) → ∃ t, exec (.advanceFormat h tag era v) s = .next t
      ∧ getF Reg.HEEL_GRP.FORMAT t.ctl = v % 2 ^ Reg.HEEL_GRP.FORMAT.width ∧ KeepsRegs (Reg.HEEL_GRP.FORMAT :: l1Flds) s t ∧ done t 0)
  ∧ (s.ctl.mbx.provEnd ≠ none → ∃ t, exec (.advanceFormat h tag era v) s = .next t ∧ Answered t h rcInvalidInput tag era stLevel 2 s.ctl.mbx.nextSeq
    ∧ KeepsRegs l1Flds s t ∧ SameMemory s t))
  ∧ (∀ (s : State) (h : HeadId) (tag era v : Nat),
  (vendorRuns s.ctl h tag era anyState false = true → ∃ t, exec (.setRestoreTarget h tag era v false) s = .next t ∧ SameMemory s t
    ∧ (v < 3 → getF Reg.HEEL_RESTORE_TGT.TARGET t.ctl = v ∧ getF Reg.HEEL_RESTORE_TGT.ONCE t.ctl = 0 ∧ Answered t h 0 tag era stOk 0 s.ctl.mbx.nextSeq
      ∧ KeepsRegs (Reg.HEEL_RESTORE_TGT.TARGET :: Reg.HEEL_RESTORE_TGT.ONCE :: l1Flds) s t)
    ∧ (3 ≤ v → KeepsRegs l1Flds s t ∧ Answered t h rcInvalidInput tag era stRefused 0 s.ctl.mbx.nextSeq))
  ∧ (v % 4 ≠ 3 → ∃ t, exec (.heelRestoreTgt v) s = .next t ∧ getF Reg.HEEL_RESTORE_TGT.TARGET t.ctl = v % 4 ∧ getF Reg.HEEL_RESTORE_TGT.ONCE t.ctl = b2n (v.testBit 4)
    ∧ KeepsRegs [Reg.HEEL_RESTORE_TGT.TARGET, Reg.HEEL_RESTORE_TGT.ONCE] s t ∧ (∀ p : Part, p.Same s.ctl t.ctl) ∧ SameMemory s t)
  ∧ (v % 4 = 3 → exec (.heelRestoreTgt v) s = .next s)
  ∧ (vendorRuns s.ctl h tag era anyState false = true → ∃ t, exec (.setAlertEnables h tag era v) s = .next t ∧ getF Reg.MBX_ALERT_EN.H0 t.ctl = v % 2 ^ Reg.MBX_ALERT_EN.H0.width
      ∧ getF Reg.MBX_ALERT_EN.H1 t.ctl = v / 256 % 2 ^ Reg.MBX_ALERT_EN.H1.width ∧ getF Reg.MBX_ALERT_EN.WAKE t.ctl = v / 65536 % 2 ^ Reg.MBX_ALERT_EN.WAKE.width
      ∧ KeepsRegs ([Reg.MBX_ALERT_EN.H0, Reg.MBX_ALERT_EN.H1, Reg.MBX_ALERT_EN.WAKE] ++ l1Flds) s t ∧ Answered t h 0 tag era stOk 0 s.ctl.mbx.nextSeq ∧ SameMemory s t)
  ∧ (vendorRuns s.ctl h tag era saveStates false = true → ∃ e, exec (.saveNow h tag era) s = .next (onCtl (fun _ => saveTrigger 4 e) s) ∧ Changes l1Flds [Part.mbx] s.ctl e
    ∧ (∃ x ∈ e.mbx.jrnl, x.seq = s.ctl.mbx.nextSeq ∧ x.st = 1 ∧ x.applied = true ∧ x.opcode = 0xC020))
  ∧ (vendorRuns s.ctl h tag era keepState false = true → getF Reg.HEEL_DEGRADE.KEEP (keepCausesNow s.ctl) = 0 →
    getF Reg.HEEL_DEGRADE.RELEASE_PENDING (keepCausesNow s.ctl) ≠ 1 → ∃ t, exec (.releaseKeepImage h tag era) s = .next t
      ∧ getF Reg.HEEL_DEGRADE.RELEASE_PENDING t.ctl = 1 ∧ t.ctl.mbx.running = s.ctl.mbx.running ++ [⟨h, 0xC022, tag, era, s.ctl.mbx.nextSeq⟩] ∧ SameMemory s t)
  ∧ (vendorRuns s.ctl h tag era keepState false = true → getF Reg.HEEL_DEGRADE.KEEP (keepCausesNow s.ctl) ≠ 0 → ∃ t, exec (.releaseKeepImage h tag era) s = .next t
    ∧ Answered t h rcInvalidInput tag era stRefused (1 + getF Reg.HEEL_DEGRADE.KEEP (keepCausesNow s.ctl) * 256) s.ctl.mbx.nextSeq ∧ SameMemory s t)
  ∧ (s.ctl.op = .keep → getF Reg.HEEL_DEGRADE.RELEASE_PENDING s.ctl = 1 → slotless s.ctl = 0 → dirtyCount s.ctl ≤ effB s.ctl →
    getF Reg.HEEL_DEGRADE.KEEP (keepCausesNow s.ctl) = 0 → ∃ t, exec .releaseDrainDone s = .next t ∧ (t.ctl.op = .serving ∨ t.ctl.op = .derated) ∧ getF Reg.HEEL_DEGRADE.RELEASE_PENDING t.ctl = 0
    ∧ getF Reg.HEEL_SEAL_STATUS.PROTECTED t.ctl = 0 ∧ SameMemory s t)
  ∧ (s.ctl.op = .keep → getF Reg.HEEL_DEGRADE.RELEASE_PENDING s.ctl = 1 → slotless s.ctl = 0 → dirtyCount s.ctl ≤ effB s.ctl →
    getF Reg.HEEL_DEGRADE.KEEP (keepCausesNow s.ctl) ≠ 0 → ∃ e, exec .releaseDrainDone s = .next (onCtl (fun _ => saveTrigger 8 e) s)
      ∧ (e.op = .serving ∨ e.op = .derated) ∧ getF Reg.HEEL_DEGRADE.RELEASE_PENDING e = 0)
  ∧ (s.ctl.op ≠ .keep ∨ getF Reg.HEEL_DEGRADE.RELEASE_PENDING s.ctl ≠ 1 ∨ slotless s.ctl ≠ 0 ∨ effB s.ctl < dirtyCount s.ctl → exec .releaseDrainDone s = .next s)
  ∧ (getF Reg.HEEL_DEGRADE.RELEASE_PENDING s.ctl = 1 → ∃ t, exec .releaseDrainTimeout s = .next t ∧ getF Reg.HEEL_DEGRADE.RELEASE_PENDING t.ctl = 0
    ∧ (∀ o, s.ctl.mbx.running.find? (fun o => o.opcode == 0xC022) = some o → o.tag < dropTag → Answered t o.head rcInvalidInput o.tag o.era stRefused 3 o.seq)
    ∧ t.ctl.op = s.ctl.op ∧ SameMemory s t)
  ∧ (getF Reg.HEEL_DEGRADE.RELEASE_PENDING s.ctl ≠ 1 → exec .releaseDrainTimeout s = .next s))


/-! ### The sideband bus -/

/-- SB_WRITE_TRANSFER and SB_READ_TRANSFER (R413-R415): four bytes at an aligned word are one register write, lowest byte first, and read back as one snapshot of the
register; with a wrong PEC nothing is applied; a transfer to another address is none of ours.
ALERT_RESPONSE_ADDRESS, SB_ALERT_ASSERT, SBB_ALERT_PEND_CLEAR, HOST_NOTIFY, HOST_NOTIFY_RETRY and ARBITRATION_LOST (R419-R421): the alert pin is released when it
is answered or its last masked source is cleared; a notify counts its sequence when it is acknowledged and is given up after four tries. -/
def Obligations.SidebandTransfersAndAlerts : Prop :=
  (∀ (s : State) (addr : Nat),
  (∀ bytes, sbAnswers s.ctl = false → exec (.sbWriteTransfer addr bytes) s = .next s)
  ∧ (∀ ptr n, sbAnswers s.ctl = false → exec (.sbReadTransfer addr ptr n) s = .next s)
  ∧ (∀ bytes, sbAnswers s.ctl = true → addr ≠ s.ctl.sbb.addr → exec (.sbWriteTransfer addr bytes) s = .next (onCtl sbStop s))
  ∧ (∀ ptr n, sbAnswers s.ctl = true → addr ≠ s.ctl.sbb.addr → exec (.sbReadTransfer addr ptr n) s = .next (onCtl sbStop s))
  ∧ (∀ bytes, sbAnswers s.ctl = true → addr = s.ctl.sbb.addr → sbPec s.ctl = false →
    exec (.sbWriteTransfer addr bytes) s = .next (onCtlW (fun c => sbStop (sbWriteBytes bytes c)) s))
  ∧ (∀ (bytes : List Byte) (pec : Byte), sbAnswers s.ctl = true → addr = s.ctl.sbb.addr → sbPec s.ctl = true → bytes.length < 34 →
    (crc8 (addrW s.ctl :: bytes) = pec.toNat → exec (.sbWriteTransfer addr (bytes ++ [pec])) s = .next (onCtlW (fun c => sbStop (sbWriteBytes bytes c)) s))
    ∧ (crc8 (addrW s.ctl :: bytes) ≠ pec.toNat → exec (.sbWriteTransfer addr (bytes ++ [pec])) s = .next (onCtl (fun c => sbStop (if hubServing c then addF Reg.SBB_BUS_COUNTS.PEC_ERRORS c else c)) s)))
  ∧ (∀ p v mpa, p % 4 = 0 → p < 0xFC → sbMpa s.ctl (sbPage s.ctl * 256 + p) = some mpa → mpa ≠ 0xF000C → s.ctl.sbb.staged = none → mapWf 0 s.ctl.rf = true →
    sbWriteBytes (BitVec.ofNat 8 p :: leBytes v 4) s.ctl
      = setPtr (p + 4) (regWrite .sideband mpa (v % 2 ^ 32) (setPtr (p + 3) { s.ctl with sbb := { s.ctl.sbb with staged := none, latch := none } })))
  ∧ (∀ ptr n, sbAnswers s.ctl = true → addr = s.ctl.sbb.addr → ∃ t out, exec (.sbReadTransfer addr ptr n) s = .next t
    ∧ (⟨.sideband, .sbByte, [addr], out⟩ : Msg) ∈ t.ctl.sent ∧ out.length = n ∧ t.ctl.op = s.ctl.op ∧ SameMemory s t)
  ∧ (∀ p mpa, sbAnswers s.ctl = true → addr = s.ctl.sbb.addr → sbPec s.ctl = false → p % 4 = 0 → p < 0xFC → sbMpa s.ctl (sbPage s.ctl * 256 + p) = some mpa →
    mpa ≠ 0xF000C → ∃ t, exec (.sbReadTransfer addr (some p) 4) s = .next t
      ∧ (⟨.sideband, .sbByte, [addr], leBytes (regRead .sideband mpa (setPtr p s.ctl)).1 4⟩ : Msg) ∈ t.ctl.sent
      ∧ getF Reg.HEEL_SB_STATUS.POINTER t.ctl = p + 4 ∧ SameMemory s t))
  ∧ (∀ s : State,
  (s.ctl.sbb.alertLow = true → sbI2c s.ctl = false → ∃ t, exec (.alertResponseAddress true) s = .next t ∧ t.ctl.sbb.alertLow = false
    ∧ t.ctl.sbb.released = some s.ctl.uptime ∧ (⟨.sideband, .sbByte, [0x0C], [addrW s.ctl]⟩ : Msg) ∈ t.ctl.sent
    ∧ getF Reg.SBB_BUS_COUNTS.ARA_WON t.ctl = satInc Reg.SBB_BUS_COUNTS.ARA_WON.width (getF Reg.SBB_BUS_COUNTS.ARA_WON s.ctl)
    ∧ KeepsRegs [Reg.SBB_BUS_COUNTS.ARA_WON] s t ∧ SameMemory s t)
  ∧ exec (.alertResponseAddress false) s = .next s
  ∧ (∀ won, s.ctl.sbb.alertLow = false ∨ sbI2c s.ctl = true → exec (.alertResponseAddress won) s = .next s)
  ∧ LeadsTo .sbAlertAssert s (s.ctl.sbb.alertWait = true ∧ s.ctl.sbb.alertLow = false ∧ s.ctl.op ≠ .dormant) (onCtl sbAssert s)
  ∧ (∀ v : Word, LeadsTo (.sbbAlertPendClear v) s (hubPowered s.ctl = true) (onCtl (sbPendClear v.toNat) s))
  ∧ (∀ v, (∀ i, i < 8 → (getF Reg.SBB_ALERT_PEND.PEND (sbPendClear v s.ctl)).testBit i = ((getF Reg.SBB_ALERT_PEND.PEND s.ctl).testBit i && !v.testBit i))
    ∧ (getF Reg.SBB_ALERT_PEND.PEND (sbPendClear v s.ctl) &&& getF Reg.SBB_ALERT_CFG.MASK s.ctl = 0 → (sbPendClear v s.ctl).sbb.alertLow = false))
  ∧ (∀ acked, LeadsTo (.hostNotify acked) s (notifyStarts s.ctl = true) (onCtl (notifySend acked) s))
  ∧ (∀ acked, LeadsTo (.hostNotifyRetry acked) s (hubServing s.ctl = true ∧ s.ctl.op ≠ .dormant ∧ s.ctl.sbb.notify = 2) (onCtl (notifySend acked) s))
  ∧ (∀ acked at_, s.ctl.sbb.notify = 1 → s.ctl.sbb.notified = some at_ → s.ctl.uptime < at_ + getF Reg.SBB_ALERT_CFG.COALESCE s.ctl * 1000000 →
    exec (.hostNotify acked) s = .next s)
  ∧ (let word : Msg := ⟨.sideband, .hostNotify, [0x10, s.ctl.sbb.addr * 2, notifyWord s.ctl], []⟩
    word ∈ (notifySend true s.ctl).sent ∧ (notifySend true s.ctl).sbb.notify = 0
    ∧ getF Reg.SBB_NOTIFY_STATUS.SEQ (notifySend true s.ctl) = (getF Reg.SBB_NOTIFY_STATUS.SEQ s.ctl + 1) % 2 ^ Reg.SBB_NOTIFY_STATUS.SEQ.width
    ∧ word ∈ (notifySend false s.ctl).sent ∧ (notifySend false s.ctl).sbb.notify = (if s.ctl.sbb.tries < 3 then 2 else 0)
    ∧ getF Reg.SBB_NOTIFY_STATUS.SEQ (notifySend false s.ctl) = getF Reg.SBB_NOTIFY_STATUS.SEQ s.ctl
    ∧ getF Reg.SBB_NOTIFY_STATUS.NACKED (notifySend false s.ctl) = satInc Reg.SBB_NOTIFY_STATUS.NACKED.width (getF Reg.SBB_NOTIFY_STATUS.NACKED s.ctl))
  ∧ LeadsTo .arbitrationLost s (notifyStarts s.ctl = true ∨ hubServing s.ctl = true ∧ s.ctl.op ≠ .dormant ∧ s.ctl.sbb.notify = 2)
    (onCtl (fun c => addF Reg.SBB_NOTIFY_STATUS.ARB_LOST { c with sbb := { c.sbb with notify := 3 } }) s))

/-- SB_QUICK_COMMAND, SBB_IND_READ, SBB_IND_WRITE, SB_HANDOFF and SB_CLOCK_LOW_TIMEOUT (R409, R411, R416, R417): indirect access runs while the hub serves the bus; its
outcome code says what stopped it, and its address moves on when AUTO_INC is set. -/
def Obligations.SidebandAccess : Prop := ∀ s : State,
  (∀ addr, sbAnswers s.ctl = true → exec (.sbQuickCommand addr) s = .next (onCtl (fun c =>
    sbStop (if addr = c.sbb.addr ∧ !sbI2c c then send ⟨.sideband, .sbByte, [addr], []⟩ c else c)) s))
  ∧ (∀ addr, sbAnswers s.ctl = false → exec (.sbQuickCommand addr) s = .next s)
  ∧ (hubServing s.ctl = true → indBefore (indMpa s.ctl) s.ctl = 0 → indMpa s.ctl ≠ 0xF0008 → indMpa s.ctl ≠ 0xF000C → ∃ t, exec (.sbbIndRead false) s = .next t
    ∧ t.ctl.sbb.latch = some (0x0C, (regRead .sideband (indMpa s.ctl) s.ctl).1)
    ∧ getF Reg.SBB_STATUS.IND_ERR t.ctl = 0 ∧ getF Reg.SBB_IND_DATA.DATA t.ctl = (regRead .sideband (indMpa s.ctl) s.ctl).1 % 2 ^ 32
    ∧ getF Reg.SBB_IND_ADDR.WORD t.ctl = (if getF Reg.SBB_IND_ADDR.AUTO_INC s.ctl = 1 then (getF Reg.SBB_IND_ADDR.WORD s.ctl + 1) % 2 ^ Reg.SBB_IND_ADDR.WORD.width
      else getF Reg.SBB_IND_ADDR.WORD s.ctl) ∧ SameMemory s t)
  ∧ (∀ late, hubServing s.ctl = true → (indBefore (indMpa s.ctl) s.ctl ≠ 0 ∨ late = true) → ∃ t, exec (.sbbIndRead late) s = .next t
    ∧ t.ctl.sbb.latch = some (0x0C, 0xFFFFFFFF)
    ∧ getF Reg.SBB_STATUS.IND_ERR t.ctl = (if indBefore (indMpa s.ctl) s.ctl = 0 then 2 else indBefore (indMpa s.ctl) s.ctl) ∧ SameMemory s t)
  ∧ (∀ late, hubServing s.ctl = false → exec (.sbbIndRead late) s = .next s)
  ∧ (∀ v : Word, hubServing s.ctl = true → exec (.sbbIndWrite v) s
    = .next (onCtlW (fun c => indWrite v.toNat { c with sbb := { c.sbb with staged := none, latch := none } }) s))
  ∧ (∀ v, hubServing s.ctl = false → exec (.sbbIndWrite v) s = .next s)
  ∧ (∀ v, indBefore (indMpa s.ctl) s.ctl = 0 → regRestricted .sideband (indMpa s.ctl) = false → indMpa s.ctl ≠ 0xF0008 → indMpa s.ctl ≠ 0xF000C →
    indWrite v s.ctl = indNext (setF Reg.SBB_STATUS.IND_ERR 0 (regWrite .sideband (indMpa s.ctl) v s.ctl)))
  ∧ (∀ v, indBefore (indMpa s.ctl) s.ctl ≠ 0 ∨ regRestricted .sideband (indMpa s.ctl) = true → ∃ e, 1 ≤ e ∧ e ≤ 4 ∧ indWrite v s.ctl = indNext (setF Reg.SBB_STATUS.IND_ERR e s.ctl))
  ∧ (∀ cut, hubServing s.ctl = true → s.ctl.op = .dormant → exec (.sbHandoff cut) s = .next (onCtl (sbHandoffTo false cut) s))
  ∧ (∀ cut, hubServing s.ctl = false → s.ctl.op ≠ .off → s.ctl.op ≠ .dormant → (s.ctl.op = .waking → wakeDone s.ctl 2 = true) → wholeDown s.ctl = none → ∃ t,
    exec (.sbHandoff cut) s = .next t ∧ hubServing t.ctl = true ∧ t.ctl.sbb.latch = none ∧ t.ctl.sbb.staged = none ∧ KeepsRegs [Reg.HEEL_SB_STATUS.HUB_SERVING] s t ∧ SameMemory s t)
  ∧ (∀ cut, hubServing s.ctl = true → s.ctl.op ≠ .dormant → wholeDown s.ctl = none → exec (.sbHandoff cut) s = .next s)
  ∧ (sbAnswers s.ctl = true → sbI2c s.ctl = false → sbPec s.ctl = true → ∀ bytes, ∃ t, exec (.sbClockLowTimeout bytes) s = .next t ∧ SameMemory s t
    ∧ getF (if hubServing s.ctl then Reg.SBB_BUS_COUNTS.TIMEOUTS else Reg.HEEL_SB_STATUS.ABORTS) t.ctl
      = satInc (if hubServing s.ctl then Reg.SBB_BUS_COUNTS.TIMEOUTS else Reg.HEEL_SB_STATUS.ABORTS).width
        (getF (if hubServing s.ctl then Reg.SBB_BUS_COUNTS.TIMEOUTS else Reg.HEEL_SB_STATUS.ABORTS) s.ctl)
    ∧ KeepsRegs [if hubServing s.ctl then Reg.SBB_BUS_COUNTS.TIMEOUTS else Reg.HEEL_SB_STATUS.ABORTS] s t)
  ∧ (∀ bytes, sbAnswers s.ctl = false ∨ sbI2c s.ctl = true → exec (.sbClockLowTimeout bytes) s = .next s)


/-! ### Embedded flash, the event recorder and register access -/

/-- EFL_HKEY, EFL_UNLOCK_TIMEOUT, EFL_HBUF, EFL_READ, EFL_BLANK_CHECK and EFL_CLEAR_BUF (R428, R429): the two keys in order unlock the host port; a read
gives the 16 bytes of a word, all ones where they cannot be corrected; a command that ends shows its result and counts.
EFL_PROGRAM, EFL_ERASE and EFL_OPERATION_DONE (R429, R431, R434): a checked operation starts when its bank is idle and waits otherwise; a program stores the buffer at
its offset and nothing else, and an erase leaves one sector of ones and nothing else. -/
def Obligations.EmbeddedFlashHostPort : Prop :=
  (∀ s : State,
  let ends := fun (t : State) (err : Nat) => getF Reg.EFL_HSTATUS.ERR t.ctl = err
    ∧ getF Reg.EFL_HSTATUS.DONE t.ctl = satInc Reg.EFL_HSTATUS.DONE.width (getF Reg.EFL_HSTATUS.DONE s.ctl) ∧ t.ctl.ef = s.ctl.ef ∧ SameMemory s t
  let free := fwRunning s.ctl = true ∧ hostBusy s.ctl = false
  (∀ v : Word, fwRunning s.ctl = true → v.toNat % 65536 = 0x3A7C → exec (.eflHkey v) s = .next (onCtl (updEfl (fun e => { e with keyStep := true })) s))
  ∧ (∀ v : Word, fwRunning s.ctl = true → v.toNat % 65536 = 0xC5E1 → s.ctl.efl.keyStep = true → ∃ t, exec (.eflHkey v) s = .next t ∧ unlocked t.ctl = true
    ∧ t.ctl.efl.keyStep = false ∧ KeepsRegs [Reg.EFL_HSTATUS.UNLOCKED] s t ∧ (∀ p, p ≠ Part.efl → p.Same s.ctl t.ctl) ∧ SameMemory s t)
  ∧ (∀ v : Word, v.toNat % 65536 = 0xC5E1 → s.ctl.efl.keyStep = false → exec (.eflHkey v) s = .next s)
  ∧ (∀ v : Word, fwRunning s.ctl = true → v.toNat % 65536 ≠ 0x3A7C → v.toNat % 65536 ≠ 0xC5E1 → ∃ t, exec (.eflHkey v) s = .next t ∧ unlocked t.ctl = false
    ∧ t.ctl.efl.keyStep = false ∧ KeepsRegs [Reg.EFL_HSTATUS.UNLOCKED] s t ∧ SameMemory s t)
  ∧ (∃ t, exec .eflUnlockTimeout s = .next t ∧ unlocked t.ctl = false ∧ KeepsRegs [Reg.EFL_HSTATUS.UNLOCKED] s t ∧ (∀ p : Part, p.Same s.ctl t.ctl) ∧ SameMemory s t)
  ∧ (∀ v : Word, free → ∃ t, exec (.eflHbuf v) s = .next t ∧ t.ctl.efl.hbuf = (if s.ctl.efl.hbuf.length < 512 then s.ctl.efl.hbuf ++ leBytes v.toNat 4 else s.ctl.efl.hbuf)
    ∧ t.ctl.efl.keyStep = false ∧ t.ctl.rf = s.ctl.rf ∧ (∀ p, p ≠ Part.efl → p.Same s.ctl t.ctl) ∧ SameMemory s t)
  ∧ (∀ v : Word, ¬ free → exec (.eflHbuf v) s = .next s)
  ∧ (free → hostOffset s.ctl % 16 = 0 → erasing s.ctl (hostBase + hostOffset s.ctl) = false → ∀ ecc stall, ecc ≠ .uncorrectable → ∃ t, exec (.eflRead ⟨ecc, stall⟩) s = .next t ∧ ends t 0
    ∧ ∀ i, i < 4 → getF (Reg.EFL_HDATA.DATA i) t.ctl = leNat (memReadList 0xFF s.ctl.ef.cells (hostOffset s.ctl + 4 * i) 4))
  ∧ (free → hostOffset s.ctl % 16 = 0 → ∀ ecc stall, (ecc = .uncorrectable ∨ erasing s.ctl (hostBase + hostOffset s.ctl) = true) → ∃ t, exec (.eflRead ⟨ecc, stall⟩) s = .next t
    ∧ getF Reg.EFL_HSTATUS.ERR t.ctl = 7 ∧ getF Reg.EFL_HSTATUS.DONE t.ctl = satInc Reg.EFL_HSTATUS.DONE.width (getF Reg.EFL_HSTATUS.DONE s.ctl)
    ∧ t.ctl.ef.cells = s.ctl.ef.cells ∧ SameMemory s t ∧ getF Reg.EFL_ECC.UNCORRECTABLE t.ctl = satInc Reg.EFL_ECC.UNCORRECTABLE.width (getF Reg.EFL_ECC.UNCORRECTABLE s.ctl)
    ∧ ∀ i, i < 4 → getF (Reg.EFL_HDATA.DATA i) t.ctl = 0xFFFFFFFF)
  ∧ (free → hostOffset s.ctl % 16 ≠ 0 → ∀ ecc stall, ∃ t, exec (.eflRead ⟨ecc, stall⟩) s = .next t ∧ ends t 2)
  ∧ (free → hostOffset s.ctl % 4096 = 0 → ∃ t, exec .eflBlankCheck s = .next t
    ∧ ends t (if (memSlice s.ctl.ef.cells (hostOffset s.ctl) 4096).isEmpty then 0 else 5))
  ∧ (free → hostOffset s.ctl % 4096 ≠ 0 → ∃ t, exec .eflBlankCheck s = .next t ∧ ends t 2)
  ∧ (free → ∃ t, exec .eflClearBuf s = .next t ∧ t.ctl.efl.hbuf = [] ∧ ends t 0)
  ∧ (¬ free → (∀ ecc stall, exec (.eflRead ⟨ecc, stall⟩) s = .next s) ∧ exec .eflBlankCheck s = .next s ∧ exec .eflClearBuf s = .next s
    ∧ exec .eflProgram s = .next s ∧ exec .eflErase s = .next s))
  ∧ (∀ s : State,
  let a := hostOffset s.ctl
  let n := s.ctl.efl.hbuf.length
  let free := fwRunning s.ctl = true ∧ hostBusy s.ctl = false
  let starts := fun (i : Instr) (o : EflOp) => ∃ t, exec i s = .next t ∧ t.ctl.ef = s.ctl.ef ∧ t.ctl.rf = s.ctl.rf ∧ SameMemory s t
    ∧ (bankIdle s.ctl 1 = true → t.ctl.efl.bank1.running = some o ∧ t.ctl.efl.waiting = none) ∧ (bankIdle s.ctl 1 = false → t.ctl.efl.waiting = some o)
  let fails := fun (i : Instr) (err : Nat) => ∃ t, exec i s = .next t ∧ getF Reg.EFL_HSTATUS.ERR t.ctl = err ∧ t.ctl.ef = s.ctl.ef ∧ SameMemory s t
  (free → unlocked s.ctl = true → a % 16 = 0 → n % 16 = 0 → 0 < n → a % 512 + n ≤ 512 → mayProgram s.ctl = true → (∀ b ∈ hostBytes s.ctl a n, b = 0xFF) →
    starts .eflProgram ⟨false, true, hostBase + a, s.ctl.efl.hbuf, 0⟩)
  ∧ (free → unlocked s.ctl = true → a % 4096 = 0 → mayProgram s.ctl = true → starts .eflErase ⟨true, true, hostBase + a, [], 0⟩)
  ∧ (free → unlocked s.ctl = false → fails .eflProgram 1 ∧ fails .eflErase 1)
  ∧ (free → unlocked s.ctl = true → (a % 16 ≠ 0 ∨ n % 16 ≠ 0 ∨ n = 0 ∨ 512 < a % 512 + n → fails .eflProgram 2) ∧ (a % 4096 ≠ 0 → fails .eflErase 2))
  ∧ (free → unlocked s.ctl = true → a % 4096 = 0 → mayProgram s.ctl = false → fails .eflErase 4)
  ∧ (free → unlocked s.ctl = true → a % 16 = 0 → n % 16 = 0 → 0 < n → a % 512 + n ≤ 512 → mayProgram s.ctl = true → (∃ b ∈ hostBytes s.ctl a n, b ≠ 0xFF) → fails .eflProgram 3)
  ∧ (∀ o, s.ctl.efl.bank1.running = some o → o.host = true → o.erase = false → ∃ t, exec (.eflOperationDone 1 none) s = .next t ∧ SameMemory s t
    ∧ (∀ x, memRead 0xFF t.ctl.ef.cells x = if o.addr - hostBase ≤ x ∧ x < o.addr - hostBase + o.data.length then o.data.getD (x - (o.addr - hostBase)) 0
      else memRead 0xFF s.ctl.ef.cells x)
    ∧ (s.ctl.efl.waiting = none → getF Reg.EFL_HSTATUS.ERR t.ctl = 0))
  ∧ (∀ o, s.ctl.efl.bank1.running = some o → o.host = true → o.erase = true → ∃ t, exec (.eflOperationDone 1 none) s = .next t ∧ SameMemory s t
    ∧ (∀ x, memRead 0xFF t.ctl.ef.cells x = if o.addr - hostBase ≤ x ∧ x < o.addr - hostBase + 4096 then 0xFF else memRead 0xFF s.ctl.ef.cells x)
    ∧ (s.ctl.efl.waiting = none → getF Reg.EFL_HSTATUS.ERR t.ctl = 0))
  ∧ (∀ o k, s.ctl.efl.bank1.running = some o → o.host = true → o.erase = false → k * 16 < o.data.length → ∃ t, exec (.eflOperationDone 1 (some k)) s = .next t ∧ SameMemory s t
    ∧ (∀ x, x < k * 16 → memRead 0xFF t.ctl.ef.cells (o.addr - hostBase + x) = o.data.getD x 0)
    ∧ (∀ x, x < o.addr - hostBase ∨ o.addr - hostBase + k * 16 + 16 ≤ x → memRead 0xFF t.ctl.ef.cells x = memRead 0xFF s.ctl.ef.cells x)
    ∧ (s.ctl.efl.waiting = none → getF Reg.EFL_HSTATUS.ERR t.ctl = 6))
  ∧ (∀ (b : Fin 2) f, (bankOf s.ctl b.val).running = none → exec (.eflOperationDone b f) s = .next s))

/-- EFL_FETCH, EFL_RESUME and EFL_WAIT_BAND (R430, R432-R434): a fetch suspends what runs in its bank and counts the error it meets; the last suspended operation goes on
afterwards, but an erase not during a save. -/
def Obligations.FlashFetches : Prop := ∀ s : State,
  (∀ addr stall ecc, hubPowered s.ctl = true → addr < 0x800000 → ∃ t, exec (.eflFetch addr stall ecc) s = .next t
    ∧ (bankOf t.ctl (addr / 4194304)).running = none ∧ t.ctl.ef.cells = s.ctl.ef.cells ∧ SameMemory s t
    ∧ (∀ o, (bankOf s.ctl (addr / 4194304)).running = some o → (∃ x rest, (bankOf t.ctl (addr / 4194304)).susp = x :: rest ∧ rest = (bankOf s.ctl (addr / 4194304)).susp
        ∧ x.addr = o.addr ∧ x.erase = o.erase ∧ x.data = o.data)
      ∧ getF Reg.EFL_STATUS.STALL_MAX t.ctl = min 0xFFFF (max (min stall (stallLimit o)) (getF Reg.EFL_STATUS.STALL_MAX s.ctl)))
    ∧ (ecc = .uncorrectable ∨ erasing s.ctl addr = true →
      getF Reg.EFL_ECC.UNCORRECTABLE t.ctl = satInc Reg.EFL_ECC.UNCORRECTABLE.width (getF Reg.EFL_ECC.UNCORRECTABLE s.ctl))
    ∧ (ecc = .corrected → erasing s.ctl addr = false → getF Reg.EFL_ECC.CORRECTED t.ctl = satInc Reg.EFL_ECC.CORRECTED.width (getF Reg.EFL_ECC.CORRECTED s.ctl))
    ∧ (ecc ≠ .uncorrectable → erasing s.ctl addr = false → t.ctl.ef = s.ctl.ef ∧ KeepsRegs [Reg.EFL_ECC.CORRECTED, Reg.EFL_STATUS.STALL_MAX] s t))
  ∧ (∀ addr stall ecc, hubPowered s.ctl = false ∨ 0x800000 ≤ addr → exec (.eflFetch addr stall ecc) s = .next s)
  ∧ (∀ (b : Fin 2) o rest, (bankOf s.ctl b.val).running = none → (bankOf s.ctl b.val).susp = o :: rest → (o.erase = true → s.ctl.op ≠ .saving ∧ s.ctl.op ≠ .saved) →
    ∃ t, exec (.eflResume b) s = .next t ∧ (bankOf t.ctl b.val).running = some o ∧ (bankOf t.ctl b.val).susp = rest
      ∧ bankOf t.ctl (1 - b.val) = bankOf s.ctl (1 - b.val) ∧ t.ctl.rf = s.ctl.rf ∧ (∀ p, p ≠ Part.efl → p.Same s.ctl t.ctl) ∧ SameMemory s t)
  ∧ (∀ (b : Fin 2) o rest, (bankOf s.ctl b.val).susp = o :: rest → o.erase = true → s.ctl.op = .saving ∨ s.ctl.op = .saved → exec (.eflResume b) s = .next s)
  ∧ (∀ b : Fin 2, (bankOf s.ctl b.val).running ≠ none ∨ (bankOf s.ctl b.val).susp = [] → exec (.eflResume b) s = .next s)
  ∧ (∀ vs, hubPowered s.ctl = true → ∃ t, exec (.eflWaitBand vs) s = .next t
    ∧ getF Reg.EFL_STATUS.BAND_L t.ctl = (if vs < 995 then 1 else if 1000 ≤ vs then 0 else getF Reg.EFL_STATUS.BAND_L s.ctl)
    ∧ getF Reg.EFL_STATUS.WS t.ctl = eflWaits (getF Reg.EFL_STATUS.BAND_L t.ctl == 1) s.ctl ∧ KeepsRegs [Reg.EFL_STATUS.BAND_L, Reg.EFL_STATUS.WS] s t ∧ (∀ p : Part, p.Same s.ctl t.ctl) ∧ SameMemory s t)
  ∧ (∀ vs, hubPowered s.ctl = false → exec (.eflWaitBand vs) s = .next s)

/-- EVENT_RECORD, FOLD_WINDOW_CLOSE, EVR_FLUSH, EVR_FLUSH_CMD and EVR_CLEAR (R435-R440): a failure or fatal event takes the next number and is programmed at once behind
everything that was buffered, in order; nothing below MIN_SEV is recorded; a fold window that folded makes a summary. -/
def Obligations.EventRecorder : Prop := ∀ s : State,
  (∀ code src sev data, LeadsTo (.eventRecord code src sev data) s (sev ≤ 4) (onCtl (logEvent code src sev data) s))
  ∧ (∀ code src sev data, fwRunning s.ctl = false ∨ sev < getF Reg.EVR_CFG.MIN_SEV s.ctl → logEvent code src sev data s.ctl = s.ctl)
  ∧ (∀ code src sev data, fwRunning s.ctl = true → getF Reg.EVR_CFG.MIN_SEV s.ctl ≤ sev → 3 ≤ sev → s.ctl.ef.clearing = none → s.ctl.evr.buffer.length < 64 → mayProgram s.ctl = true →
    s.ctl.ef.records.length + s.ctl.evr.buffer.length + 1 < 15360 → ∃ r, (logEvent code src sev data s.ctl).ef.records = s.ctl.ef.records ++ s.ctl.evr.buffer ++ [r]
      ∧ (logEvent code src sev data s.ctl).evr.buffer = [] ∧ r.rseq = s.ctl.evr.rseq ∧ r.code = code % 65536 ∧ r.severity = sev ∧ r.source = src % 256
      ∧ r.state = opCode s.ctl.op ∧ r.data = data % 2 ^ 64 ∧ (logEvent code src sev data s.ctl).evr.rseq = (s.ctl.evr.rseq + 1) % 2 ^ 32)
  ∧ (∀ code src, foldOf s.ctl code src = none → exec (.foldWindowClose code src) s = .next s)
  ∧ (∀ code src f, foldOf s.ctl code src = some f → f.folded = 0 → ∃ t, exec (.foldWindowClose code src) s = .next t ∧ foldOf t.ctl code src = none
    ∧ t.ctl.evr.buffer = s.ctl.evr.buffer ∧ t.ctl.rf = s.ctl.rf ∧ (∀ p, p ≠ Part.evr → p.Same s.ctl t.ctl) ∧ SameMemory s t)
  ∧ (∀ code src f, foldOf s.ctl code src = some f → f.folded ≠ 0 → ∃ e, exec (.foldWindowClose code src) s = .next (onCtl (fun _ =>
      evrRecord code src f.severity 4 (min 0xFFFF f.folded) (f.folded % 4294967296 + f.first * 4294967296) e) s) ∧ foldOf e code src = none
    ∧ e.evr.buffer = s.ctl.evr.buffer ∧ e.rf = s.ctl.rf ∧ ∀ p, p ≠ Part.evr → p.Same s.ctl e)
  ∧ LeadsTo .evrFlush s (fwRunning s.ctl = true) (onCtl (evrFlush false) s)
  ∧ LeadsTo .evrFlushCmd s (fwRunning s.ctl = true) (onCtl (evrFlush false) s)
  ∧ (s.ctl.ef.clearing = none → s.ctl.ef.records.length + s.ctl.evr.buffer.length < 15360 → mayProgram s.ctl = true →
    (evrFlush false s.ctl).ef.records = s.ctl.ef.records ++ s.ctl.evr.buffer ∧ (evrFlush false s.ctl).evr.buffer = [] ∧ (evrFlush false s.ctl).rf = s.ctl.rf)
  ∧ (fwRunning s.ctl = true → s.ctl.ef.clearing = none → ∃ t, exec .evrClear s = .next t ∧ t.ctl.ef.records = [] ∧ t.ctl.ef.clearing = some 0 ∧ t.ctl.ef.stale = s.ctl.ef.records
    ∧ t.ctl.ef.rseqKept = s.ctl.evr.rseq ∧ t.ctl.evr = s.ctl.evr ∧ getF Reg.EVR_LOST.BUFFER t.ctl = 0 ∧ getF Reg.EVR_LOST.FULL t.ctl = 0
    ∧ getF Reg.EVR_LOST.RESERVE t.ctl = 0 ∧ getF Reg.EVR_LOST.RESET t.ctl = 0 ∧ SameMemory s t)
  ∧ (fwRunning s.ctl = false ∨ s.ctl.ef.clearing ≠ none → exec .evrClear s = .next s)

/-- LO_READ_LATCH and REGISTER_WRITE (R4-R7, R65, R191, R456): a read is answered with the register's value, one of another width or
alignment with all ones; the two halves of a LO and HI pair read over one path are one value; a write of another width or over a
path that does not reach its register is discarded; read-only fields, and locked ones under the configuration lock, keep their value. -/
def Obligations.RegisterAccess : Prop := ∀ (s : State) (p : Path) (mpa v : Nat),
  (∀ aligned, aligned = true ∧ mpa % 4 = 0 ∨ p = .sideband → mpaReachable p mpa s.ctl = true →
    exec (.loReadLatch p ⟨mpa, aligned⟩) s = .next (onCtl (fun c => send ⟨.path p, .regData, [mpa, (regRead p mpa c).1], []⟩ (regRead p mpa c).2) s))
  ∧ (∀ aligned, aligned = false ∨ mpa % 4 ≠ 0 → p ≠ .sideband → mpaReachable p mpa s.ctl = true →
    exec (.loReadLatch p ⟨mpa, aligned⟩) s = .next (onCtl (send ⟨.path p, .regData, [mpa, 0xFFFFFFFF], []⟩) s))
  ∧ (∀ aligned, mpaReachable p mpa s.ctl = false → exec (.loReadLatch p ⟨mpa, aligned⟩) s = .next s)
  ∧ (∀ r r', indOnly p mpa = false → indOnly p (mpa + 4) = false → regRow mpa = some r → r.kind = .lo → regRow (mpa + 4) = some r' → r'.kind = .hi →
    (regRead p mpa s.ctl).1 + 4294967296 * (regRead p (mpa + 4) (regRead p mpa s.ctl).2).1 = regWhole mpa s.ctl)
  ∧ (regRead p mpa s.ctl).2.rf = s.ctl.rf
  ∧ (∀ aligned, aligned = true → mpa % 4 = 0 → mpaReachable p mpa s.ctl = true →
    exec (.registerWrite p mpa v aligned) s = .next (onCtlW (regWrite p mpa (v % 2 ^ 32)) s))
  ∧ (∀ aligned, aligned = false ∨ mpa % 4 ≠ 0 ∨ mpaReachable p mpa s.ctl = false → exec (.registerWrite p mpa v aligned) s = .next s)
  ∧ (regRestricted p mpa = true ∨ regDead mpa s.ctl = true ∨ indOnly p mpa = true → regWrite p mpa v s.ctl = s.ctl)
  ∧ (∀ lo w, fieldWrite mpa v (lo, w, .ro) s.ctl = s.ctl ∧ (cfgLocked s.ctl = true → fieldWrite mpa v (lo, w, .rwl) s.ctl = s.ctl)
    ∧ getF ⟨mpa, lo, w⟩ (fieldWrite mpa v (lo, w, .rw) s.ctl) = bitsOf v lo w
    ∧ (cfgLocked s.ctl = false → getF ⟨mpa, lo, w⟩ (fieldWrite mpa v (lo, w, .rwl) s.ctl) = bitsOf v lo w)
    ∧ (∀ i, i < w → (getF ⟨mpa, lo, w⟩ (fieldWrite mpa v (lo, w, .w1c) s.ctl)).testBit i = ((getF ⟨mpa, lo, w⟩ s.ctl).testBit i && !(bitsOf v lo w).testBit i)))
end

