-- ==== Sys2Proof/Laws/Maps.lean ====
section
/-! SUPPORT. Sys2Proof/Laws/Maps.lean: the laws of sorted maps and of sets of numbers. -/
namespace Sys2Proof.Machine

variable {α : Type}

/-! What a map reads after a write. -/

theorem mapFind_mapErase (m : AMap α) (i j : Nat) : mapFind (mapErase m i) j = if i = j then none else mapFind m j := by
  induction m with
  | nil => simp [mapErase, mapFind]
  | cons e m ih =>
    obtain ⟨k, v⟩ := e
    by_cases hk : k = i
    · subst hk
      by_cases hj : k = j
      · subst hj
        simpa [mapErase] using ih
      · simpa [mapErase, mapFind, hj] using ih
    · by_cases hj : k = j
      · subst hj
        simp [mapErase, mapFind, hk, Ne.symm hk]
      · simp [mapErase, mapFind, hk, hj, ih]

theorem mapFind_mapPut (m : AMap α) (i j : Nat) (x : α) : mapFind (mapPut m i x) j = if i = j then some x else mapFind m j := by
  induction m with
  | nil => simp [mapPut, mapFind]
  | cons e m ih =>
    obtain ⟨k, v⟩ := e
    unfold mapPut
    split
    · simp [mapFind]
    · split
      · rename_i hk
        subst hk
        by_cases hj : k = j <;> simp [mapFind, hj]
      · rename_i hk
        by_cases hj : k = j
        · subst hj
          simp [mapFind, Ne.symm hk]
        · simp [mapFind, hj, ih]

section
variable [DecidableEq α]

/-- A map reads what was last written at the key, and what it read before at every other. -/
theorem mapGet_mapSet (d : α) (m : AMap α) (i j : Nat) (x : α) : mapGet d (mapSet d m i x) j = if i = j then x else mapGet d m j := by
  unfold mapGet mapSet
  split
  · rename_i hx
    rw [mapFind_mapErase]
    split <;> simp [hx]
  · rw [mapFind_mapPut]
    split <;> rfl

@[simp] theorem mapGet_mapSet_same (d : α) (m : AMap α) (i : Nat) (x : α) : mapGet d (mapSet d m i x) i = x := by
  simp [mapGet_mapSet]

theorem mapGet_mapSet_ne (d : α) (m : AMap α) {i j : Nat} (x : α) (h : i ≠ j) : mapGet d (mapSet d m i x) j = mapGet d m j := by
  simp [mapGet_mapSet, h]

end

/-! The canonical form. -/

/-- The keys rise strictly, as a proposition: each lies below every later one. -/
theorem mapRising_some (b : Nat) (m : AMap α) : mapRising (some b) m = true ↔ (∀ e ∈ m, b < e.1) ∧ mapRising none m = true := by
  induction m generalizing b with
  | nil => simp [mapRising]
  | cons e m ih =>
    obtain ⟨k, v⟩ := e
    simp only [mapRising, Bool.and_eq_true, decide_eq_true_eq, ih, List.mem_cons, forall_eq_or_imp]
    constructor
    · rintro ⟨h, h1, h2⟩
      exact ⟨⟨h, fun e he => Nat.lt_trans h (h1 e he)⟩, h1, h2⟩
    · rintro ⟨⟨h, _⟩, h1, h2⟩
      exact ⟨h, h1, h2⟩

theorem mapRising_cons (k : Nat) (v : α) (m : AMap α) :
    mapRising none ((k, v) :: m) = true ↔ (∀ e ∈ m, k < e.1) ∧ mapRising none m = true := mapRising_some k m

theorem mem_mapErase {m : AMap α} {i : Nat} {e : Nat × α} (h : e ∈ mapErase m i) : e ∈ m := by
  induction m with
  | nil => simp [mapErase] at h
  | cons x m ih =>
    obtain ⟨k, v⟩ := x
    unfold mapErase at h
    split at h
    · exact List.mem_cons_of_mem _ (ih h)
    · rcases List.mem_cons.1 h with h | h
      · exact h ▸ List.mem_cons_self
      · exact List.mem_cons_of_mem _ (ih h)

theorem mem_mapPut {m : AMap α} {i : Nat} {x : α} {e : Nat × α} (h : e ∈ mapPut m i x) : e = (i, x) ∨ e ∈ m := by
  induction m with
  | nil => simpa [mapPut] using h
  | cons y m ih =>
    obtain ⟨k, v⟩ := y
    unfold mapPut at h
    split at h
    · simpa using h
    · split at h
      · rcases List.mem_cons.1 h with h | h
        · exact .inl h
        · exact .inr (List.mem_cons_of_mem _ h)
      · rcases List.mem_cons.1 h with h | h
        · exact .inr (h ▸ List.mem_cons_self)
        · rcases ih h with h | h
          · exact .inl h
          · exact .inr (List.mem_cons_of_mem _ h)

theorem mapRising_mapErase {m : AMap α} (i : Nat) (h : mapRising none m = true) : mapRising none (mapErase m i) = true := by
  induction m with
  | nil => rfl
  | cons e m ih =>
    obtain ⟨k, v⟩ := e
    obtain ⟨h1, h2⟩ := (mapRising_cons k v m).1 h
    unfold mapErase
    split
    · exact ih h2
    · exact (mapRising_cons _ _ _).2 ⟨fun e he => h1 e (mem_mapErase he), ih h2⟩

theorem mapRising_mapPut {m : AMap α} (i : Nat) (x : α) (h : mapRising none m = true) : mapRising none (mapPut m i x) = true := by
  induction m with
  | nil => rfl
  | cons e m ih =>
    obtain ⟨k, v⟩ := e
    obtain ⟨h1, h2⟩ := (mapRising_cons k v m).1 h
    unfold mapPut
    split
    · rename_i hk
      exact (mapRising_cons _ _ _).2 ⟨by
        intro e he
        rcases List.mem_cons.1 he with he | he
        · exact he ▸ hk
        · exact Nat.lt_trans hk (h1 e he), h⟩
    · split
      · rename_i hk
        exact (mapRising_cons _ _ _).2 ⟨hk ▸ h1, h2⟩
      · rename_i hlt hne
        exact (mapRising_cons _ _ _).2 ⟨by
          intro e he
          rcases mem_mapPut he with he | he
          · rw [he]
            simp only
            omega
          · exact h1 e he, ih h2⟩

/-- A write keeps the canonical form. -/
theorem mapWf_mapSet [DecidableEq α] (d : α) {m : AMap α} (i : Nat) (x : α) (h : mapWf d m = true) : mapWf d (mapSet d m i x) = true := by
  simp only [mapWf, Bool.and_eq_true, List.all_eq_true, decide_eq_true_eq] at h ⊢
  unfold mapSet
  split
  · exact ⟨mapRising_mapErase i h.1, fun e he => h.2 e (mem_mapErase he)⟩
  · rename_i hx
    refine ⟨mapRising_mapPut i x h.1, fun e he => ?_⟩
    rcases mem_mapPut he with he | he
    · rw [he]; exact hx
    · exact h.2 e he

/-- Leaving cells out keeps the canonical form. -/
theorem mapWf_filter [DecidableEq α] (d : α) {m : AMap α} (p : Nat × α → Bool) (h : mapWf d m = true) : mapWf d (m.filter p) = true := by
  simp only [mapWf, Bool.and_eq_true, List.all_eq_true, decide_eq_true_eq] at h ⊢
  refine ⟨?_, fun e he => h.2 e (List.mem_filter.1 he).1⟩
  obtain ⟨h, -⟩ := h
  induction m with
  | nil => rfl
  | cons e m ih =>
    obtain ⟨k, v⟩ := e
    obtain ⟨h1, h2⟩ := (mapRising_cons k v m).1 h
    rw [List.filter_cons]
    split
    · exact (mapRising_cons _ _ _).2 ⟨fun e he => h1 e (List.mem_filter.1 he).1, ih h2⟩
    · exact ih h2

/-! Byte memories. -/

theorem memRead_memWrite (e : Byte) (m : List Host.Cell) (a b : Nat) (v : Byte) :
    memRead e (memWrite e m a v) b = if a = b then v else memRead e m b := mapGet_mapSet e m a b v

theorem memWf_memWrite (e : Byte) {m : List Host.Cell} (a : Nat) (v : Byte) (h : memWf e m = true) : memWf e (memWrite e m a v) = true :=
  mapWf_mapSet e a v h

theorem memWf_memWriteList (e : Byte) (bs : List Byte) {m : List Host.Cell} (a : Nat) (h : memWf e m = true) :
    memWf e (memWriteList e m a bs) = true := by
  induction bs generalizing m a with
  | nil => exact h
  | cons b bs ih => exact ih (a + 1) (memWf_memWrite e a b h)

theorem memWf_memWriteMasked (e : Byte) (bs : List Byte) {m : List Host.Cell} (a mask : Nat) (h : memWf e m = true) :
    memWf e (memWriteMasked e m a mask bs) = true := by
  induction bs generalizing m a mask with
  | nil => exact h
  | cons b bs ih =>
    refine ih (a + 1) (mask / 2) ?_
    split
    · exact memWf_memWrite e a b h
    · exact h

theorem memWf_memClear (e : Byte) {m : List Host.Cell} (a n : Nat) (h : memWf e m = true) : memWf e (memClear m a n) = true :=
  mapWf_filter e _ h

theorem memWf_memPutSlice (e : Byte) (sl : List Host.Cell) {m : List Host.Cell} (a : Nat) (h : memWf e m = true) :
    memWf e (memPutSlice e m a sl) = true := by
  unfold memPutSlice
  induction sl generalizing m with
  | nil => exact h
  | cons c sl ih => exact ih (memWf_memWrite e (a + c.1) c.2 h)

/-- A byte after the bytes of a list have been written from `a` on. -/
theorem memRead_memWriteList (e : Byte) (bs : List Byte) (m : List Host.Cell) (a b : Nat) :
    memRead e (memWriteList e m a bs) b = if a ≤ b ∧ b < a + bs.length then bs.getD (b - a) 0 else memRead e m b := by
  induction bs generalizing m a with
  | nil => simp [memWriteList] <;> omega
  | cons x bs ih =>
    rw [memWriteList, ih, memRead_memWrite]
    by_cases h : a = b
    · subst h
      rw [if_neg (by omega), if_pos rfl, if_pos (by simp)]
      simp
    · by_cases h2 : a + 1 ≤ b ∧ b < a + 1 + bs.length
      · rw [if_pos h2, if_pos (by simp; omega)]
        have : b - a = (b - (a + 1)) + 1 := by omega
        rw [this]; simp
      · rw [if_neg h2, if_neg h, if_neg (by simp; omega)]

/-! Sets of numbers. -/

theorem mem_setAdd (l : List Nat) (i j : Nat) : j ∈ setAdd l i ↔ j = i ∨ j ∈ l := by
  induction l with
  | nil => simp [setAdd]
  | cons k l ih =>
    unfold setAdd
    split
    · simp
    · split
      · rename_i h; subst h; simp
      · simp [ih, or_left_comm]

end Sys2Proof.Machine
end

