-- ==== Sys2Proof/Laws/State.lean ====
section
/-! SUPPORT. Sys2Proof/Laws/State.lean: what every elementary update of the state leaves: one lemma per field and update. -/
namespace Sys2Proof.Machine

/-! An operation on the control state leaves DRAM and the queue as they are. -/

@[simp] theorem onCtl_ctl (f : Ctl → Ctl) (s : State) : (onCtl f s).ctl = f s.ctl := rfl
@[simp] theorem onCtl_dram (f : Ctl → Ctl) (s : State) : (onCtl f s).dram = s.dram := rfl
@[simp] theorem onCtl_poison (f : Ctl → Ctl) (s : State) : (onCtl f s).poison = s.poison := rfl
@[simp] theorem onCtl_pending (f : Ctl → Ctl) (s : State) : (onCtl f s).pending = s.pending := rfl

/-! A register write changes no part of the structured state. -/

@[simp] theorem setF_latches (f : Fld) (v : Nat) (c : Ctl) : (setF f v c).latches = c.latches := rfl
@[simp] theorem setF_op (f : Fld) (v : Nat) (c : Ctl) : (setF f v c).op = c.op := rfl
@[simp] theorem setF_prev (f : Fld) (v : Nat) (c : Ctl) : (setF f v c).prev = c.prev := rfl
@[simp] theorem setF_uptime (f : Fld) (v : Nat) (c : Ctl) : (setF f v c).uptime = c.uptime := rfl
@[simp] theorem setF_fresh (f : Fld) (v : Nat) (c : Ctl) : (setF f v c).fresh = c.fresh := rfl
@[simp] theorem setF_sent (f : Fld) (v : Nat) (c : Ctl) : (setF f v c).sent = c.sent := rfl
@[simp] theorem setF_cfg (f : Fld) (v : Nat) (c : Ctl) : (setF f v c).cfg = c.cfg := rfl
@[simp] theorem setF_nor (f : Fld) (v : Nat) (c : Ctl) : (setF f v c).nor = c.nor := rfl
@[simp] theorem setF_fuses (f : Fld) (v : Nat) (c : Ctl) : (setF f v c).fuses = c.fuses := rfl
@[simp] theorem setF_ef (f : Fld) (v : Nat) (c : Ctl) : (setF f v c).ef = c.ef := rfl
@[simp] theorem setF_heel (f : Fld) (v : Nat) (c : Ctl) : (setF f v c).heel = c.heel := rfl
@[simp] theorem setF_nv (f : Fld) (v : Nat) (c : Ctl) : (setF f v c).nv = c.nv := rfl
@[simp] theorem setF_waking (f : Fld) (v : Nat) (c : Ctl) : (setF f v c).waking = c.waking := rfl
@[simp] theorem setF_pipe (f : Fld) (v : Nat) (c : Ctl) : (setF f v c).pipe = c.pipe := rfl
@[simp] theorem setF_chans (f : Fld) (v : Nat) (c : Ctl) : (setF f v c).chans = c.chans := rfl
@[simp] theorem setF_cal (f : Fld) (v : Nat) (c : Ctl) : (setF f v c).cal = c.cal := rfl
@[simp] theorem setF_dtk (f : Fld) (v : Nat) (c : Ctl) : (setF f v c).dtk = c.dtk := rfl
@[simp] theorem setF_reel (f : Fld) (v : Nat) (c : Ctl) : (setF f v c).reel = c.reel := rfl
@[simp] theorem setF_welt (f : Fld) (v : Nat) (c : Ctl) : (setF f v c).welt = c.welt := rfl
@[simp] theorem setF_weltNv (f : Fld) (v : Nat) (c : Ctl) : (setF f v c).weltNv = c.weltNv := rfl
@[simp] theorem setF_save (f : Fld) (v : Nat) (c : Ctl) : (setF f v c).save = c.save := rfl
@[simp] theorem setF_images (f : Fld) (v : Nat) (c : Ctl) : (setF f v c).images = c.images := rfl
@[simp] theorem setF_restore (f : Fld) (v : Nat) (c : Ctl) : (setF f v c).restore = c.restore := rfl
@[simp] theorem setF_flash (f : Fld) (v : Nat) (c : Ctl) : (setF f v c).flash = c.flash := rfl
@[simp] theorem setF_nrg (f : Fld) (v : Nat) (c : Ctl) : (setF f v c).nrg = c.nrg := rfl
@[simp] theorem setF_psq (f : Fld) (v : Nat) (c : Ctl) : (setF f v c).psq = c.psq := rfl
@[simp] theorem setF_prd (f : Fld) (v : Nat) (c : Ctl) : (setF f v c).prd = c.prd := rfl
@[simp] theorem setF_guest (f : Fld) (v : Nat) (c : Ctl) : (setF f v c).guest = c.guest := rfl
@[simp] theorem setF_mbx (f : Fld) (v : Nat) (c : Ctl) : (setF f v c).mbx = c.mbx := rfl
@[simp] theorem setF_sbb (f : Fld) (v : Nat) (c : Ctl) : (setF f v c).sbb = c.sbb := rfl
@[simp] theorem setF_cxl (f : Fld) (v : Nat) (c : Ctl) : (setF f v c).cxl = c.cxl := rfl
@[simp] theorem setF_epg (f : Fld) (v : Nat) (c : Ctl) : (setF f v c).epg = c.epg := rfl
@[simp] theorem setF_clk (f : Fld) (v : Nat) (c : Ctl) : (setF f v c).clk = c.clk := rfl
@[simp] theorem setF_evr (f : Fld) (v : Nat) (c : Ctl) : (setF f v c).evr = c.evr := rfl
@[simp] theorem setF_efl (f : Fld) (v : Nat) (c : Ctl) : (setF f v c).efl = c.efl := rfl

@[simp] theorem addF_latches (f : Fld) (c : Ctl) : (addF f c).latches = c.latches := rfl
@[simp] theorem addF_op (f : Fld) (c : Ctl) : (addF f c).op = c.op := rfl
@[simp] theorem addF_prev (f : Fld) (c : Ctl) : (addF f c).prev = c.prev := rfl
@[simp] theorem addF_uptime (f : Fld) (c : Ctl) : (addF f c).uptime = c.uptime := rfl
@[simp] theorem addF_fresh (f : Fld) (c : Ctl) : (addF f c).fresh = c.fresh := rfl
@[simp] theorem addF_sent (f : Fld) (c : Ctl) : (addF f c).sent = c.sent := rfl
@[simp] theorem addF_cfg (f : Fld) (c : Ctl) : (addF f c).cfg = c.cfg := rfl
@[simp] theorem addF_nor (f : Fld) (c : Ctl) : (addF f c).nor = c.nor := rfl
@[simp] theorem addF_fuses (f : Fld) (c : Ctl) : (addF f c).fuses = c.fuses := rfl
@[simp] theorem addF_ef (f : Fld) (c : Ctl) : (addF f c).ef = c.ef := rfl
@[simp] theorem addF_heel (f : Fld) (c : Ctl) : (addF f c).heel = c.heel := rfl
@[simp] theorem addF_nv (f : Fld) (c : Ctl) : (addF f c).nv = c.nv := rfl
@[simp] theorem addF_waking (f : Fld) (c : Ctl) : (addF f c).waking = c.waking := rfl
@[simp] theorem addF_pipe (f : Fld) (c : Ctl) : (addF f c).pipe = c.pipe := rfl
@[simp] theorem addF_chans (f : Fld) (c : Ctl) : (addF f c).chans = c.chans := rfl
@[simp] theorem addF_cal (f : Fld) (c : Ctl) : (addF f c).cal = c.cal := rfl
@[simp] theorem addF_dtk (f : Fld) (c : Ctl) : (addF f c).dtk = c.dtk := rfl
@[simp] theorem addF_reel (f : Fld) (c : Ctl) : (addF f c).reel = c.reel := rfl
@[simp] theorem addF_welt (f : Fld) (c : Ctl) : (addF f c).welt = c.welt := rfl
@[simp] theorem addF_weltNv (f : Fld) (c : Ctl) : (addF f c).weltNv = c.weltNv := rfl
@[simp] theorem addF_save (f : Fld) (c : Ctl) : (addF f c).save = c.save := rfl
@[simp] theorem addF_images (f : Fld) (c : Ctl) : (addF f c).images = c.images := rfl
@[simp] theorem addF_restore (f : Fld) (c : Ctl) : (addF f c).restore = c.restore := rfl
@[simp] theorem addF_flash (f : Fld) (c : Ctl) : (addF f c).flash = c.flash := rfl
@[simp] theorem addF_nrg (f : Fld) (c : Ctl) : (addF f c).nrg = c.nrg := rfl
@[simp] theorem addF_psq (f : Fld) (c : Ctl) : (addF f c).psq = c.psq := rfl
@[simp] theorem addF_prd (f : Fld) (c : Ctl) : (addF f c).prd = c.prd := rfl
@[simp] theorem addF_guest (f : Fld) (c : Ctl) : (addF f c).guest = c.guest := rfl
@[simp] theorem addF_mbx (f : Fld) (c : Ctl) : (addF f c).mbx = c.mbx := rfl
@[simp] theorem addF_sbb (f : Fld) (c : Ctl) : (addF f c).sbb = c.sbb := rfl
@[simp] theorem addF_cxl (f : Fld) (c : Ctl) : (addF f c).cxl = c.cxl := rfl
@[simp] theorem addF_epg (f : Fld) (c : Ctl) : (addF f c).epg = c.epg := rfl
@[simp] theorem addF_clk (f : Fld) (c : Ctl) : (addF f c).clk = c.clk := rfl
@[simp] theorem addF_evr (f : Fld) (c : Ctl) : (addF f c).evr = c.evr := rfl
@[simp] theorem addF_efl (f : Fld) (c : Ctl) : (addF f c).efl = c.efl := rfl

/-! A message sent changes the transcript alone. -/

@[simp] theorem send_sent (m : Msg) (c : Ctl) : (send m c).sent = m :: c.sent := rfl
@[simp] theorem send_rf (m : Msg) (c : Ctl) : (send m c).rf = c.rf := rfl
@[simp] theorem send_latches (m : Msg) (c : Ctl) : (send m c).latches = c.latches := rfl
@[simp] theorem send_op (m : Msg) (c : Ctl) : (send m c).op = c.op := rfl
@[simp] theorem send_prev (m : Msg) (c : Ctl) : (send m c).prev = c.prev := rfl
@[simp] theorem send_uptime (m : Msg) (c : Ctl) : (send m c).uptime = c.uptime := rfl
@[simp] theorem send_fresh (m : Msg) (c : Ctl) : (send m c).fresh = c.fresh := rfl
@[simp] theorem send_cfg (m : Msg) (c : Ctl) : (send m c).cfg = c.cfg := rfl
@[simp] theorem send_nor (m : Msg) (c : Ctl) : (send m c).nor = c.nor := rfl
@[simp] theorem send_fuses (m : Msg) (c : Ctl) : (send m c).fuses = c.fuses := rfl
@[simp] theorem send_ef (m : Msg) (c : Ctl) : (send m c).ef = c.ef := rfl
@[simp] theorem send_heel (m : Msg) (c : Ctl) : (send m c).heel = c.heel := rfl
@[simp] theorem send_nv (m : Msg) (c : Ctl) : (send m c).nv = c.nv := rfl
@[simp] theorem send_waking (m : Msg) (c : Ctl) : (send m c).waking = c.waking := rfl
@[simp] theorem send_pipe (m : Msg) (c : Ctl) : (send m c).pipe = c.pipe := rfl
@[simp] theorem send_chans (m : Msg) (c : Ctl) : (send m c).chans = c.chans := rfl
@[simp] theorem send_cal (m : Msg) (c : Ctl) : (send m c).cal = c.cal := rfl
@[simp] theorem send_dtk (m : Msg) (c : Ctl) : (send m c).dtk = c.dtk := rfl
@[simp] theorem send_reel (m : Msg) (c : Ctl) : (send m c).reel = c.reel := rfl
@[simp] theorem send_welt (m : Msg) (c : Ctl) : (send m c).welt = c.welt := rfl
@[simp] theorem send_weltNv (m : Msg) (c : Ctl) : (send m c).weltNv = c.weltNv := rfl
@[simp] theorem send_save (m : Msg) (c : Ctl) : (send m c).save = c.save := rfl
@[simp] theorem send_images (m : Msg) (c : Ctl) : (send m c).images = c.images := rfl
@[simp] theorem send_restore (m : Msg) (c : Ctl) : (send m c).restore = c.restore := rfl
@[simp] theorem send_flash (m : Msg) (c : Ctl) : (send m c).flash = c.flash := rfl
@[simp] theorem send_nrg (m : Msg) (c : Ctl) : (send m c).nrg = c.nrg := rfl
@[simp] theorem send_psq (m : Msg) (c : Ctl) : (send m c).psq = c.psq := rfl
@[simp] theorem send_prd (m : Msg) (c : Ctl) : (send m c).prd = c.prd := rfl
@[simp] theorem send_guest (m : Msg) (c : Ctl) : (send m c).guest = c.guest := rfl
@[simp] theorem send_mbx (m : Msg) (c : Ctl) : (send m c).mbx = c.mbx := rfl
@[simp] theorem send_sbb (m : Msg) (c : Ctl) : (send m c).sbb = c.sbb := rfl
@[simp] theorem send_cxl (m : Msg) (c : Ctl) : (send m c).cxl = c.cxl := rfl
@[simp] theorem send_epg (m : Msg) (c : Ctl) : (send m c).epg = c.epg := rfl
@[simp] theorem send_clk (m : Msg) (c : Ctl) : (send m c).clk = c.clk := rfl
@[simp] theorem send_evr (m : Msg) (c : Ctl) : (send m c).evr = c.evr := rfl
@[simp] theorem send_efl (m : Msg) (c : Ctl) : (send m c).efl = c.efl := rfl

end Sys2Proof.Machine
end

