-- ==== Sys2Proof/Laws/Regs.lean ====
section
/-! SUPPORT. Sys2Proof/Laws/Regs.lean: register fields read what was last written; what an operation changes at most, and how two
such bounds compose. -/
namespace Sys2Proof.Machine

/-! Register fields. -/

theorem getF_setF (f g : Fld) (v : Nat) (c : Ctl) : getF f (setF g v c) = if g.key = f.key then v % 2 ^ g.width else getF f c :=
  mapGet_mapSet 0 c.rf g.key f.key (v % 2 ^ g.width)

@[simp] theorem getF_setF_same (f : Fld) (v : Nat) (c : Ctl) : getF f (setF f v c) = v % 2 ^ f.width := by simp [getF_setF]

theorem getF_setF_ne {f g : Fld} (h : g.key ≠ f.key) (v : Nat) (c : Ctl) : getF f (setF g v c) = getF f c := by simp [getF_setF, h]

@[simp] theorem getF_addF_same (f : Fld) (c : Ctl) : getF f (addF f c) = satInc f.width (getF f c) % 2 ^ f.width := getF_setF_same _ _ _

theorem getF_addF_ne {f g : Fld} (h : g.key ≠ f.key) (c : Ctl) : getF f (addF g c) = getF f c := getF_setF_ne h _ _

@[simp] theorem getF_send (f : Fld) (m : Msg) (c : Ctl) : getF f (send m c) = getF f c := rfl

/-- A field reads what the register map holds, whatever else changes. -/
theorem getF_congr {c d : Ctl} (f : Fld) (h : d.rf = c.rf) : getF f d = getF f c := by rw [getF, getF, h]

/-! What an operation changes at most. -/

theorem same_refl (p : Part) (c : Ctl) : p.Same c c := by cases p <;> rfl

theorem same_trans {p : Part} {c d e : Ctl} (h : p.Same c d) (g : p.Same d e) : p.Same c e := by
  cases p <;> exact Eq.trans g h

theorem Changes.refl (fs : List Fld) (ps : List Part) (c : Ctl) : Changes fs ps c c := ⟨fun _ _ => rfl, fun p _ => same_refl p c⟩

theorem Changes.trans {fs : List Fld} {ps : List Part} {c d e : Ctl} (h : Changes fs ps c d) (g : Changes fs ps d e) : Changes fs ps c e :=
  ⟨fun k hk => (g.1 k hk).trans (h.1 k hk), fun p hp => same_trans (h.2 p hp) (g.2 p hp)⟩

theorem Changes.mono {fs gs : List Fld} {ps qs : List Part} {c d : Ctl} (h : Changes fs ps c d) (hf : fs ⊆ gs) (hp : ps ⊆ qs) :
    Changes gs qs c d :=
  ⟨fun k hk => h.1 k (fun hm => hk (List.map_subset _ hf hm)), fun p hq => h.2 p (fun hm => hq (hp hm))⟩

/-- A field outside the bound reads as before. -/
theorem Changes.getF_eq {fs : List Fld} {ps : List Part} {c d : Ctl} (h : Changes fs ps c d) (f : Fld) (hf : f.key ∉ fs.map Fld.key) :
    getF f d = getF f c := h.1 f.key hf

theorem setF_changes (f : Fld) (v : Nat) (c : Ctl) : Changes [f] [] c (setF f v c) :=
  ⟨fun k hk => mapGet_mapSet_ne 0 c.rf _ (fun h => hk (by simp [h])), fun p _ => by cases p <;> rfl⟩

theorem addF_changes (f : Fld) (c : Ctl) : Changes [f] [] c (addF f c) := setF_changes f _ c

theorem send_changes (m : Msg) (c : Ctl) : Changes [] [.sent] c (send m c) :=
  ⟨fun _ _ => rfl, fun p hp => by cases p <;> first | rfl | exact absurd (List.mem_singleton.2 rfl) hp⟩

/-- A fold of operations within a bound stays within it. -/
theorem Changes.foldl {α : Type} {fs : List Fld} {ps : List Part} {g : Ctl → α → Ctl} (h : ∀ c x, Changes fs ps c (g c x)) (l : List α) (c : Ctl) :
    Changes fs ps c (l.foldl g c) := by
  induction l generalizing c with
  | nil => exact Changes.refl _ _ _
  | cons x l ih => exact (h c x).trans (ih (g c x))

/-- One branch or the other stays within a bound. -/
theorem Changes.ite {fs : List Fld} {ps : List Part} {p : Prop} [Decidable p] {c d e : Ctl} (h : Changes fs ps c d) (g : Changes fs ps c e) :
    Changes fs ps c (if p then d else e) := by
  split <;> assumption

/-! Reset of a range of registers. -/

/-- A filter that judges by the key alone keeps or hides it. -/
theorem mapFind_filter {α : Type} (p : Nat × α → Bool) (m : AMap α) (k : Nat) (b : Bool) (h : ∀ v, p (k, v) = b) :
    mapFind (m.filter p) k = if b = true then mapFind m k else none := by
  induction m with
  | nil => simp [mapFind]
  | cons e m ih =>
    obtain ⟨i, v⟩ := e
    by_cases hk : i = k
    · subst hk
      cases b <;> simp_all [mapFind]
    · cases hp : p (i, v) <;> simp [hp, mapFind, hk, ih]

/-- Writes at other keys. -/
theorem mapGet_foldl_mapSet (l : AMap Nat) (m : AMap Nat) (k : Nat) (h : ∀ e ∈ l, e.1 ≠ k) :
    mapGet 0 (l.foldl (fun m e => mapSet 0 m e.1 e.2) m) k = mapGet 0 m k := by
  induction l generalizing m with
  | nil => rfl
  | cons e l ih =>
    rw [List.foldl_cons, ih _ (fun x hx => h x (List.mem_cons_of_mem _ hx)), mapGet_mapSet_ne _ _ _ (h e List.mem_cons_self)]

/-- Outside the reset range every field reads as before. -/
theorem rfk_resetRange {lo hi k : Nat} (h : ¬ (lo ≤ k / 64 ∧ k / 64 < hi)) (c : Ctl) : mapGet 0 (resetRange lo hi c).rf k = mapGet 0 c.rf k := by
  unfold resetRange
  dsimp only
  rw [mapGet_foldl_mapSet]
  · unfold mapGet
    rw [mapFind_filter _ _ _ true]
    · rfl
    · intro v
      by_cases a : lo ≤ k / 64 <;> by_cases b : k / 64 < hi <;> simp_all
  · intro e he hk
    rw [List.mem_filter] at he
    apply h
    have := he.2
    rw [hk] at this
    simpa using this

/-- What the writes of a sorted list leave at a key. -/
theorem mapGet_foldl_mapSet_rising (l m : AMap Nat) (k : Nat) (hr : mapRising none l = true) :
    mapGet 0 (l.foldl (fun m e => mapSet 0 m e.1 e.2) m) k = (mapFind l k).getD (mapGet 0 m k) := by
  induction l generalizing m with
  | nil => rfl
  | cons e l ih =>
    obtain ⟨i, v⟩ := e
    have hr' := (mapRising_some _ _).1 hr
    rw [List.foldl_cons, ih _ hr'.2]
    by_cases hk : i = k
    · subst hk
      have : mapFind l i = none := by
        clear ih hr
        induction l with
        | nil => rfl
        | cons e l ih =>
          have := hr'.1 e List.mem_cons_self
          have hne : ¬ e.1 = i := by omega
          obtain ⟨j, w⟩ := e
          simp only [mapFind]
          rw [if_neg hne]
          apply ih
          refine ⟨fun x hx => hr'.1 x (List.mem_cons_of_mem _ hx), ?_⟩
          exact ((mapRising_some _ _).1 hr'.2).2
      simp [this, mapFind]
    · simp [mapFind, hk, mapGet_mapSet_ne]

/-- A filter keeps a map sorted. -/
theorem mapRising_filter (p : Nat × Nat → Bool) (m : AMap Nat) (h : mapRising none m = true) : mapRising none (m.filter p) = true := by
  induction m with
  | nil => rfl
  | cons e m ih =>
    obtain ⟨k, v⟩ := e
    have h' := (mapRising_some _ _).1 h
    rw [List.filter_cons]
    split
    · refine (mapRising_some _ _).2 ⟨fun x hx => h'.1 x ((List.mem_filter.1 hx).1), ih h'.2⟩
    · exact ih h'.2

/-- Inside the reset range every field reads its reset value. -/
theorem rfk_resetRange_in {lo hi k : Nat} (h : lo ≤ k / 64 ∧ k / 64 < hi) (c : Ctl) : mapGet 0 (resetRange lo hi c).rf k = mapGet 0 resetRegs k := by
  unfold resetRange
  dsimp only
  rw [mapGet_foldl_mapSet_rising _ _ _ (mapRising_filter _ _ (by decide))]
  unfold mapGet
  rw [mapFind_filter _ _ _ true (fun v => by simpa using h), mapFind_filter _ _ _ false (fun v => by simpa using h)]
  rfl

theorem getF_resetRange_out {lo hi : Nat} {f : Fld} (h : ¬ (lo ≤ f.key / 64 ∧ f.key / 64 < hi)) (c : Ctl) : getF f (resetRange lo hi c) = getF f c :=
  rfk_resetRange h c

theorem getF_resetRange_in {lo hi : Nat} {f : Fld} (h : lo ≤ f.key / 64 ∧ f.key / 64 < hi) (c : Ctl) :
    getF f (resetRange lo hi c) = mapGet 0 resetRegs f.key := rfk_resetRange_in h c

end Sys2Proof.Machine
end

