-- ==== Sys2Proof/Laws/Events.lean ====
section
/-! SUPPORT. Sys2Proof/Laws/Events.lean: what the shared operations of Ops.lean change at most: an interrupt, an alert, a wake event, a
recorded event, and a change of the operating state. -/
namespace Sys2Proof.Machine

/-- An operation that stays within a smaller bound may follow. -/
theorem Changes.andThen {fs gs : List Fld} {ps qs : List Part} {c d e : Ctl} (g : Changes gs qs d e) (hf : gs ⊆ fs) (hp : qs ⊆ ps)
    (h : Changes fs ps c d) : Changes fs ps c e := h.trans (g.mono hf hp)

/-- An update that leaves the registers alone changes the parts it names. -/
theorem changes_parts {fs : List Fld} {ps : List Part} {c d : Ctl} (hr : d.rf = c.rf) (h : ∀ p, p ∉ ps → p.Same c d) : Changes fs ps c d :=
  ⟨fun k _ => by rw [hr], h⟩

theorem setF_within {f : Fld} {fs : List Fld} {ps : List Part} {c d : Ctl} (hf : f ∈ fs) (v : Nat) (h : Changes fs ps c d) :
    Changes fs ps c (setF f v d) := (setF_changes f v d).andThen (by simpa using hf) (by simp) h

theorem addF_within {f : Fld} {fs : List Fld} {ps : List Part} {c d : Ctl} (hf : f ∈ fs) (h : Changes fs ps c d) :
    Changes fs ps c (addF f d) := setF_within hf _ h

theorem send_within {fs : List Fld} {ps : List Part} {c d : Ctl} (m : Msg) (hp : Part.sent ∈ ps) (h : Changes fs ps c d) :
    Changes fs ps c (send m d) := (send_changes m d).andThen (by simp) (by simpa using hp) h

/-- A head leaves L1: its L1 bit alone. -/
theorem leaveL1_changes (h : HeadId) (ps : List Part) (c : Ctl) : Changes l1Flds ps c (leaveL1 h c) := by
  unfold leaveL1
  exact setF_within (by split <;> simp [l1Flds]) 0 (Changes.refl _ _ _)

theorem msix_changes (h : HeadId) (v : Nat) (c : Ctl) : Changes l1Flds [.sent] c (msix h v c) := by
  unfold msix
  exact Changes.ite (send_within _ (by simp) (leaveL1_changes h _ c)) (Changes.refl _ _ _)

/-! Wake events. -/

/-- The fields of HEEL_CXL_WAKE that a wake event may touch. -/
def wakeFlds : List Fld := [Reg.HEEL_CXL_WAKE.PEND0, Reg.HEEL_CXL_WAKE.PEND1, Reg.HEEL_CXL_WAKE.DRIVEN0, Reg.HEEL_CXL_WAKE.DRIVEN1,
  Reg.HEEL_CXL_WAKE.COUNT0, Reg.HEEL_CXL_WAKE.COUNT1, Reg.HEEL_CXL_WAKE.NEW]

/-- Those and the L1 bits, which an interrupt may touch. -/
def alertFlds : List Fld := wakeFlds ++ l1Flds

theorem wakeFlds_sub : wakeFlds ⊆ eventFlds := by simp [wakeFlds, eventFlds]

theorem alertFlds_sub : alertFlds ⊆ eventFlds := by simp [alertFlds, wakeFlds, l1Flds, eventFlds]

theorem wakeEval_changes (h : HeadId) (c : Ctl) : Changes wakeFlds [.sent] c (wakeEval h c) := by
  have hd : wakeDrivenFld h ∈ wakeFlds := by unfold wakeDrivenFld; split <;> simp [wakeFlds]
  have hc : wakeCountFld h ∈ wakeFlds := by unfold wakeCountFld; split <;> simp [wakeFlds]
  have hn : Reg.HEEL_CXL_WAKE.NEW ∈ wakeFlds := by simp [wakeFlds]
  unfold wakeEval
  refine Changes.ite ?_ (Changes.ite ?_ (Changes.refl _ _ _))
  · exact send_within _ (by simp) (setF_within hn 1 (addF_within hc (setF_within hd 1 (Changes.refl _ _ _))))
  · exact send_within _ (by simp) (setF_within hd 0 (Changes.refl _ _ _))

theorem wakePend_changes (h : HeadId) (c : Ctl) : Changes wakeFlds [.sent] c (wakePend h c) := by
  have hp : wakePendFld h ∈ wakeFlds := by unfold wakePendFld; split <;> simp [wakeFlds]
  unfold wakePend
  exact Changes.ite ((setF_within hp 1 (Changes.refl _ _ _)).trans (wakeEval_changes h _)) (Changes.refl _ _ _)

/-- An interrupt where enabled, then a wake event where enabled. -/
theorem msixWake_changes (p q : Bool) (h : HeadId) (v : Nat) (c : Ctl) : Changes alertFlds [.sent] c
    (let d := if p then msix h v c else c
     if q then wakePend h d else d) := by
  have hm : Changes alertFlds [.sent] c (if p then msix h v c else c) :=
    Changes.ite ((msix_changes h v c).mono (List.subset_append_right _ _) (by simp)) (Changes.refl _ _ _)
  exact Changes.ite (hm.trans ((wakePend_changes h _).mono (List.subset_append_left _ _) (by simp))) hm

/-- A Jarica vendor alert touches its own pending bit, the wake bits, the L1 bits and the transcript. -/
theorem vendorAlert_changes (i : Nat) (c : Ctl) : Changes (Reg.MBX_ALERT_PEND.PEND :: alertFlds) [.sent] c (vendorAlert i c) := by
  unfold vendorAlert
  exact (setF_within List.mem_cons_self _ (Changes.refl _ _ _)).trans
    (Changes.foldl (fun d h => (msixWake_changes _ _ h 3 d).mono (List.subset_cons_self _ _) (by simp)) _ _)

/-! Sideband alerts. -/

theorem sbb_changes (fs : List Fld) (b : Sbb) (c : Ctl) : Changes fs [.sent, .sbb] c { c with sbb := b } :=
  changes_parts rfl (fun p hp => by cases p <;> first | rfl | simp at hp)

theorem sbAssert_changes (c : Ctl) : Changes [] [.sent, .sbb] c (sbAssert c) := send_within _ (by simp) (sbb_changes _ _ c)

theorem sbRelease_changes (c : Ctl) : Changes [] [.sent, .sbb] c (sbRelease c) := by
  unfold sbRelease
  exact Changes.ite (send_within _ (by simp) (sbb_changes _ _ c)) (Changes.refl _ _ _)

theorem sbRaise_changes (c : Ctl) : Changes [] [.sent, .sbb] c (sbRaise c) := by
  have h : Changes [] [.sent, .sbb] c (if alertPin c && !c.sbb.alertLow then
      (if sbCoalesced c then sbAssert c else { c with sbb := { c.sbb with alertWait := true } }) else c) :=
    Changes.ite (Changes.ite (sbAssert_changes c) (sbb_changes _ _ c)) (Changes.refl _ _ _)
  unfold sbRaise
  exact Changes.ite (h.trans (sbb_changes _ _ _)) h

/-- An alert source touches SBB_ALERT_PEND, the alert line and the transcript. -/
theorem sbAlertSource_changes (i : Nat) (c : Ctl) : Changes [Reg.SBB_ALERT_PEND.PEND] [.sent, .sbb] c (sbAlertSource i c) := by
  have h : ∀ v, Changes [Reg.SBB_ALERT_PEND.PEND] [.sent, .sbb] c (setF Reg.SBB_ALERT_PEND.PEND v c) := fun v =>
    setF_within (by simp) v (Changes.refl _ _ _)
  unfold sbAlertSource
  exact Changes.ite (Changes.ite (Changes.refl _ _ _) (Changes.ite ((sbRaise_changes _).andThen (by simp) (by simp) (h _)) (h _)))
    (Changes.refl _ _ _)

/-! The event recorder. -/

theorem cxl_changes (fs : List Fld) (x : Cxl) (c : Ctl) : Changes fs [.sent, .cxl] c { c with cxl := x } :=
  changes_parts rfl (fun p hp => by cases p <;> first | rfl | simp at hp)

theorem evr_changes (fs : List Fld) (x : Evr) (c : Ctl) : Changes fs [.evr] c { c with evr := x } :=
  changes_parts rfl (fun p hp => by cases p <;> first | rfl | simp at hp)

theorem ef_changes (fs : List Fld) (x : Eflash) (c : Ctl) : Changes fs [.ef] c { c with ef := x } :=
  changes_parts rfl (fun p hp => by cases p <;> first | rfl | simp at hp)

theorem setLog_changes (fs : List Fld) (n : Nat) (l : List EvRec) (c : Ctl) : Changes fs [.sent, .cxl] c (setLog n l c) := by
  unfold setLog
  split <;> exact cxl_changes _ _ c

theorem logInterrupt_changes (n : Nat) (c : Ctl) : Changes alertFlds [.sent] c (logInterrupt n c) := by
  unfold logInterrupt
  exact Changes.foldl (fun d h => msixWake_changes _ _ h _ d) _ _

theorem cxlLog_changes (r : EvRec) (c : Ctl) : Changes alertFlds [.sent, .cxl] c (cxlLog r c) := by
  unfold cxlLog
  exact Changes.ite (Changes.refl _ _ _) ((logInterrupt_changes _ _).andThen (fun _ h => h) (by simp)
    (Changes.ite (setLog_changes _ _ _ c) (cxl_changes _ _ c)))

theorem evrBuffer_changes (r : EvRec) (c : Ctl) : Changes [Reg.EVR_LOST.BUFFER] [.evr] c (evrBuffer r c) := by
  have h : Changes [Reg.EVR_LOST.BUFFER] [.evr] c (addF Reg.EVR_LOST.BUFFER c) := addF_within (by simp) (Changes.refl _ _ _)
  unfold evrBuffer
  refine Changes.ite (evr_changes _ _ c) ?_
  dsimp only
  generalize (if 3 ≤ r.severity then evrVictim r.severity c.evr.buffer else none) = v
  cases v with
  | none => exact h
  | some i => exact h.trans (evr_changes _ { (addF Reg.EVR_LOST.BUFFER c).evr with buffer := c.evr.buffer.eraseIdx i ++ [r] } _)

theorem evrTake_changes (code src sev flags repeats data : Nat) (c : Ctl) : Changes eventFlds eventParts c (evrTake code src sev flags repeats data c) := by
  have ha : ∀ i {d}, Changes eventFlds eventParts c d → Changes eventFlds eventParts c (sbAlertSource i d) := fun i _ h =>
    (sbAlertSource_changes i _).andThen (by simp [eventFlds]) (by simp [eventParts]) h
  have h0 : ∀ x r, Changes eventFlds eventParts c (cxlLog r { c with evr := x }) := fun x r =>
    (cxlLog_changes r _).andThen alertFlds_sub (by simp [eventParts]) ((evr_changes _ x c).mono (fun _ h => h) (by simp [eventParts]))
  unfold evrTake
  exact (evrBuffer_changes _ _).andThen (by simp [eventFlds]) (by simp [eventParts]) (Changes.ite (ha _ (h0 _ _)) (Changes.ite (ha _ (h0 _ _)) (h0 _ _)))

theorem evrProgram_changes (save : Bool) (rs : List EvRec) (c : Ctl) : Changes eventFlds eventParts c (evrProgram save rs c) := by
  have he : ∀ x d, Changes eventFlds eventParts d { d with evr := x } := fun x d => (evr_changes _ x d).mono (fun _ h => h) (by simp [eventParts])
  induction rs generalizing c with
  | nil => exact he _ c
  | cons r rs ih =>
    unfold evrProgram
    refine Changes.ite ((addF_within (by simp [eventFlds]) (Changes.refl _ _ _)).trans (ih _))
      (Changes.ite ((addF_within (by simp [eventFlds]) (Changes.refl _ _ _)).trans (ih _)) (Changes.ite (he _ c) ?_))
    exact ((ef_changes eventFlds { c.ef with records := _ } c).mono (fun _ h => h) (by simp [eventParts])).trans (ih _)

theorem evrFlush_changes (save : Bool) (c : Ctl) : Changes eventFlds eventParts c (evrFlush save c) := by
  have h := evrProgram_changes save c.evr.buffer c
  have h1 : ∀ {d}, Changes eventFlds eventParts c d → ∀ (p : Prop) [Decidable p] code sev,
      Changes eventFlds eventParts c (if p then evrTake code 17 sev 0 0 0 d else d) := fun h p _ _ _ => Changes.ite (h.trans (evrTake_changes ..)) h
  unfold evrFlush
  refine Changes.ite (Changes.refl _ _ _) ?_
  exact h1 (h1 h _ _ _) _ _ _

theorem evrRecord_changes (code src sev flags repeats data : Nat) (c : Ctl) :
    Changes eventFlds eventParts c (evrRecord code src sev flags repeats data c) := by
  have h := evrTake_changes code src sev flags repeats data c
  unfold evrRecord
  exact Changes.ite (h.trans (evrFlush_changes ..)) h

theorem setFold_changes (f : Fold) (c : Ctl) : Changes eventFlds eventParts c (setFold f c) :=
  (evr_changes _ _ c).mono (fun _ h => h) (by simp [eventParts])

/-- Recording an event touches the recorder, the CXL logs, the alerts, the wake bits and the transcript, and nothing else. -/
theorem logEvent_changes (code src sev data : Nat) (c : Ctl) : Changes eventFlds eventParts c (logEvent code src sev data c) := by
  unfold logEvent
  refine Changes.ite (Changes.refl _ _ _) (Changes.ite (evrRecord_changes ..) ?_)
  cases foldOf c code src with
  | none => exact (setFold_changes _ c).trans (evrRecord_changes ..)
  | some f => exact Changes.ite ((setFold_changes _ c).trans (evrRecord_changes ..)) (setFold_changes _ c)

/-! The operating state. -/

/-- The end of a learn cycle: LEARNING and BACKUP. -/
theorem learnEnd_changes (ps : List Part) (c : Ctl) : Changes [Reg.NRG_STATUS.LEARNING, Reg.NRG_STATUS.BACKUP] ps c (learnEnd c) := by
  have h : Changes [Reg.NRG_STATUS.LEARNING, Reg.NRG_STATUS.BACKUP] ps c (setF Reg.NRG_STATUS.LEARNING 0 c) :=
    setF_within (by simp) 0 (Changes.refl _ _ _)
  unfold learnEnd
  exact Changes.ite (Changes.ite h (setF_within (by simp) 0 h)) (Changes.refl _ _ _)

theorem learnDiscard_changes (c : Ctl) : Changes [Reg.NRG_STATUS.LEARNING, Reg.NRG_STATUS.BACKUP] [.nrg] c (learnDiscard c) := by
  have h : ∀ x, Changes [Reg.NRG_STATUS.LEARNING, Reg.NRG_STATUS.BACKUP] [.nrg] c { c with nrg := x } := fun _ =>
    changes_parts rfl (fun p hp => by cases p <;> first | rfl | simp at hp)
  unfold learnDiscard
  exact Changes.ite ((h _).trans (learnEnd_changes _ _)) (Changes.refl _ _ _)

/-- The fields and the parts that a change of the operating state may touch. -/
def stateFlds : List Fld := Reg.NRG_STATUS.LEARNING :: Reg.NRG_STATUS.BACKUP :: Reg.HEEL_DEGRADE.NEW :: eventFlds
def stateParts : List Part := .nrg :: .op :: .prev :: eventParts

/-- A change of the operating state: HEEL_STATE, a learn cycle that ends with Serving, and what the alert, WAKE_N and the event of R454 touch. -/
theorem setState_changes (o : OpState) (c : Ctl) : Changes stateFlds stateParts c (setState o c) := by
  have hl : Changes stateFlds stateParts c (if o = .serving then c else if o = .saving then learnDiscard c else learnEnd c) :=
    Changes.ite (Changes.refl _ _ _) (Changes.ite ((learnDiscard_changes c).mono (by simp [stateFlds]) (by simp [stateParts]))
      ((learnEnd_changes stateParts c).mono (by simp [stateFlds]) (fun _ h => h)))
  have h0 : ∀ {d}, Changes stateFlds stateParts c d → Changes stateFlds stateParts c { d with prev := c.op, op := o } := fun h =>
    h.trans (changes_parts rfl (fun p hp => by cases p <;> first | rfl | simp [stateParts] at hp))
  have h1 : ∀ {d}, Changes stateFlds stateParts c d → Changes stateFlds stateParts c (bothHeads.foldl (fun c h => wakeEval h c) (sbAlertSource 0 d)) := fun h =>
    (Changes.foldl (fun d h => wakeEval_changes h d) bothHeads _).andThen (fun _ hf => by simp [stateFlds, wakeFlds_sub hf]) (by simp [stateParts, eventParts])
      ((sbAlertSource_changes 0 _).andThen (by simp [stateFlds, eventFlds]) (by simp [stateParts, eventParts]) h)
  unfold setState
  exact Changes.ite ((logEvent_changes ..).andThen (fun _ h => by simp [stateFlds, h]) (fun _ h => by simp [stateParts, h]) (setF_within (by simp [stateFlds]) 1 (h1 (h0 hl)))) (h1 (h0 hl))

end Sys2Proof.Machine
end

