-- ==== Sys2Proof/Laws/Memory.lean ====
section
/-! SUPPORT. Sys2Proof/Laws/Memory.lean: what the operations over DRAM and its poison markers do, and that each keeps the canonical form. -/
namespace Sys2Proof.Machine

/-! Sets of numbers. -/

theorem rising_cons (a : Nat) (l : List Nat) : Rising (a :: l) ↔ (∀ x ∈ l, a < x) ∧ Rising l := by
  induction l generalizing a with
  | nil => simp [Rising]
  | cons b l ih =>
    rw [Rising, ih b]
    constructor
    · rintro ⟨h, g, r⟩
      exact ⟨fun x m => (List.mem_cons.1 m).elim (fun e => e ▸ h) (fun m => Nat.lt_trans h (g x m)), g, r⟩
    · rintro ⟨h, g, r⟩
      exact ⟨h b (List.mem_cons_self ..), g, r⟩

theorem rising_filter {l : List Nat} (p : Nat → Bool) (h : Rising l) : Rising (l.filter p) := by
  induction l with
  | nil => exact h
  | cons a l ih =>
    rw [rising_cons] at h
    rw [List.filter_cons]
    split
    · exact (rising_cons _ _).2 ⟨fun x m => h.1 x (List.mem_filter.1 m).1, ih h.2⟩
    · exact ih h.2

theorem rising_setAdd {l : List Nat} (i : Nat) (h : Rising l) : Rising (setAdd l i) := by
  induction l with
  | nil => trivial
  | cons a l ih =>
    have g := (rising_cons _ _).1 h
    unfold setAdd
    split
    · rename_i c
      exact (rising_cons _ _).2 ⟨fun x m => (List.mem_cons.1 m).elim (fun e => e ▸ c) (fun m => Nat.lt_trans c (g.1 x m)), h⟩
    · split
      · exact h
      · refine (rising_cons _ _).2 ⟨fun x m => ?_, ih g.2⟩
        rcases (mem_setAdd l i x).1 m with rfl | m
        · omega
        · exact g.1 x m

theorem mem_setDel {l : List Nat} (h : Rising l) (i j : Nat) : j ∈ setDel l i ↔ j ≠ i ∧ j ∈ l := by
  induction l with
  | nil => simp [setDel]
  | cons a l ih =>
    have g := (rising_cons _ _).1 h
    unfold setDel
    split
    · rename_i c
      subst c
      constructor
      · intro m
        exact ⟨fun e => absurd (g.1 j m) (by omega), List.mem_cons_of_mem _ m⟩
      · rintro ⟨n, m⟩
        exact (List.mem_cons.1 m).resolve_left n
    · rename_i c
      rw [List.mem_cons, ih g.2, List.mem_cons]
      constructor
      · rintro (rfl | ⟨n, m⟩)
        · exact ⟨fun e => c (by omega), .inl rfl⟩
        · exact ⟨n, .inr m⟩
      · rintro ⟨n, rfl | m⟩
        · exact .inl rfl
        · exact .inr ⟨n, m⟩

theorem rising_setDel {l : List Nat} (i : Nat) (h : Rising l) : Rising (setDel l i) := by
  induction l with
  | nil => trivial
  | cons a l ih =>
    have g := (rising_cons _ _).1 h
    unfold setDel
    split
    · exact g.2
    · exact (rising_cons _ _).2 ⟨fun x m => g.1 x ((mem_setDel g.2 i x).1 m).2, ih g.2⟩

theorem rising_addAll (f : Nat → Nat) (xs : List Nat) {l : List Nat} (h : Rising l) : Rising (xs.foldl (fun p x => setAdd p (f x)) l) := by
  induction xs generalizing l with
  | nil => exact h
  | cons x xs ih => exact ih (rising_setAdd (f x) h)

theorem mem_addAll (f : Nat → Nat) (xs l : List Nat) (j : Nat) : j ∈ xs.foldl (fun p x => setAdd p (f x)) l ↔ (∃ x ∈ xs, f x = j) ∨ j ∈ l := by
  induction xs generalizing l with
  | nil => simp
  | cons x xs ih => rw [List.foldl_cons, ih, mem_setAdd]; simp [or_assoc, or_left_comm, eq_comm]

/-! Clearing and reading DRAM. -/

theorem memRead_memClear (e : Byte) {m : List Host.Cell} (a n b : Nat) :
    memRead e (memClear m a n) b = if a ≤ b ∧ b < a + n then e else memRead e m b := by
  unfold memClear memRead mapGet
  induction m with
  | nil => simp [mapFind]
  | cons c m ih =>
    by_cases k : c.1 = b
    · by_cases r : a ≤ b ∧ b < a + n
      · rw [if_pos r] at ih ⊢
        rw [List.filter_cons, if_neg (by simp [k, r])]
        exact ih
      · rw [if_neg r, List.filter_cons, if_pos (by simp; omega)]
        simp [mapFind, k]
    · have e : mapFind (c :: m) b = mapFind m b := by simp [mapFind, k]
      rw [e, ← ih, List.filter_cons]
      split
      · simp [mapFind, k]
      · rfl

/-! The operations on a state. -/

/-- A line written to DRAM: its 64 bytes are the data, a byte that the data does not give is 0, and its marker is as asked; every other byte and
marker is as before. -/
theorem putLine_byte (line : Nat) (data : List Byte) (p : Bool) (s : State) (a : Nat) :
    (putLine line data p s).byte a = if a / 64 = line then data.getD (a % 64) 0 else s.byte a := by
  unfold putLine State.byte
  rw [memRead_memWriteList]
  simp only [List.length_map, List.length_range]
  by_cases h : a / 64 = line
  · have h1 : a - line * 64 = a % 64 := by omega
    have h2 : a % 64 < 64 := Nat.mod_lt _ (by omega)
    rw [if_pos h, if_pos (by omega), h1]
    simp [List.getD_eq_getElem?_getD, h2]
  · rw [if_neg h, if_neg (by omega)]

theorem putLine_poison (line : Nat) (data : List Byte) (p : Bool) (s : State) (h : Rising s.poison) (l : Nat) :
    l ∈ (putLine line data p s).poison ↔ if l = line then p = true else l ∈ s.poison := by
  unfold putLine
  cases p <;> by_cases c : l = line <;> simp [mem_setAdd, mem_setDel h, c]

theorem putLine_ctl (line : Nat) (data : List Byte) (p : Bool) (s : State) : (putLine line data p s).ctl = s.ctl := rfl
theorem putLine_pending (line : Nat) (data : List Byte) (p : Bool) (s : State) : (putLine line data p s).pending = s.pending := rfl

/-- Every operation on the control state keeps the form. -/
theorem wf_onCtl (f : Ctl → Ctl) {s : State} (h : s.Wf) : (onCtl f s).Wf := h

theorem wf_onCtlW (f : Ctl → Ctl) {s : State} (h : s.Wf) : (onCtlW f s).Wf := by
  unfold onCtlW
  dsimp only
  split
  · exact ⟨rfl, trivial⟩
  · exact h

theorem wf_putLine (line : Nat) (data : List Byte) (p : Bool) {s : State} (h : s.Wf) : (putLine line data p s).Wf := by
  refine ⟨memWf_memWriteList 0 _ _ h.1, ?_⟩
  unfold putLine
  cases p
  · exact rising_setDel line h.2
  · exact rising_setAdd line h.2

theorem wf_putContent (a n : Nat) (k : Content) {s : State} (h : s.Wf) : (putContent a n k s).Wf :=
  ⟨memWf_memPutSlice 0 _ a (memWf_memClear 0 a n h.1), rising_addAll _ _ (rising_filter _ h.2)⟩

theorem wf_writeIssue (ch sub : Nat) {s : State} (h : s.Wf) : (writeIssue ch sub s).Wf := by
  unfold writeIssue
  split
  · exact h
  · split
    · exact h
    · exact wf_putLine _ _ _ (wf_onCtl _ h)

/-- Entry into Waking is the one effect of `onCtlW` on DRAM: its content is lost (R13). -/
theorem onCtlW_ctl (f : Ctl → Ctl) (s : State) : (onCtlW f s).ctl = f s.ctl := by unfold onCtlW; dsimp only; split <;> rfl

theorem onCtlW_pending (f : Ctl → Ctl) (s : State) : (onCtlW f s).pending = s.pending := by unfold onCtlW; dsimp only; split <;> rfl

theorem onCtlW_keeps (f : Ctl → Ctl) (s : State) (h : (f s.ctl).op ≠ .waking ∨ s.ctl.op = .waking) : onCtlW f s = onCtl f s := by
  unfold onCtlW
  dsimp only
  rw [if_neg (by rintro ⟨a, b⟩; exact h.elim (fun g => g a) b)]
  rfl

end Sys2Proof.Machine
end

