-- ==== Sys2Proof/WellFormed.lean ====
section
/-! DEFINITION. Sys2Proof/WellFormed.lean: which commands have operands that their carrier can hold: tags, addresses, data lengths and indexes within
the widths that the spec gives them. The machine gives a meaning to the others too. -/
namespace Sys2Proof

/-- A CXL tag is 16 bits (R109), a TAG of the mailbox too (R383). -/
def tagOk (tag : Nat) : Bool := decide (tag < 65536)
/-- An address of a 64-byte line, below 2^52 (R109, R360). -/
def lineOk (a : Nat) : Bool := a % 64 == 0 && decide (a < 2 ^ 52)
/-- The data of a line (R109). -/
def lineData (data : List Byte) : Bool := data.length == 64
/-- 64 byte enables. -/
def maskOk (mask : Nat) : Bool := decide (mask < 2 ^ 64)
/-- A management address: 32-bit registers below 2^21 (R3). -/
def mpaOk (mpa : Nat) : Bool := mpa % 4 == 0 && decide (mpa < 2 ^ 21)
/-- A guest transaction identifier (R357). -/
def tidOk (tid : Nat) : Bool := decide (tid < 1024)
/-- An era of a session (R385). -/
def eraOk (era : Nat) : Bool := decide (era < 16)
/-- A way of a channel (R248). -/
def wayOk (way : Nat) : Bool := decide (way < 8)
/-- The 16-bit key of a key register (R5). -/
def keyOk (key : Nat) : Bool := decide (key < 65536)
/-- A register value. -/
def wordOk (v : Nat) : Bool := decide (v < 2 ^ 32)
/-- A rail slot (R332). -/
def railOk (slot : Nat) : Bool := decide (slot < 16)
/-- A 7-bit bus address (R409). -/
def busAddr (addr : Nat) : Bool := decide (addr < 128)
/-- A save frame, or a shadow frame numbered after it (R168, R198). -/
def frameOk (frame : Nat) : Bool := decide (frame < 2 ^ 21)
/-- A wake step with a timeout: W1 to W10 (R61). -/
def stepOk (n : Nat) : Bool := decide (1 ≤ n) && decide (n ≤ 10)
/-- Errors in the ten devices and four symbols of a burst (R150). -/
def flipsOk (l : List Flip) : Bool := l.all (fun f => decide (f.device < 10) && decide (f.symbol < 4))
/-- Lanes with delays of 9 bits and references of 7 (R163). -/
def lanesOk (l : List LaneMeas) : Bool :=
  l.all (fun m => decide (m.rank < 4) && decide (m.lane < 80) && decide (m.rdDly < 512) && decide (m.wrDly < 512)
    && decide (m.rdVref < 128) && decide (m.wrVref < 128))
/-- The lanes that a retrain found, where it succeeded. -/
def retrainOk (l : Option (List LaneMeas)) : Bool := match l with | some x => lanesOk x | none => true
/-- The 256 bytes of a flit (R353). -/
def flitOk (flit : List Byte) : Bool := flit.length == 256
/-- A descriptor's way, block and page (R255). -/
def descArgsOk (a : DescArgs) : Bool := wayOk a.way && decide (a.block < 2048) && decide (a.page < 4096) && decide (a.step < 16)
/-- What a wake step found. -/
def wakeOk (w : WakeInfo) : Bool :=
  match w with
  | .dram chans => chans.all (fun e => decide (e.ch < 8) && lanesOk e.verify && lanesOk e.full)
  | .dies d0 d1 => (d0.toList ++ d1.toList).all (fun d => d.trained.all (fun e => decide (e.1 < 64) && lanesOk e.2.2))
  | _ => true

/-- The command's operands fit. -/
def wellFormed (i : Instr) : Bool :=
  match i with
  | .heelPowerOn => true
  | .heelSupplyLoss => true
  | .inputWake => true
  | .heelWakeCmd v => keyOk v
  | .inputRise => true
  | .inputFall => true
  | .wakeStepComplete w => wakeOk w
  | .wakeStepTimeout n => stepOk n
  | .configurationLock => true
  | .restoreStepComplete _ => true
  | .restoreComplete => true
  | .derateClear => true
  | .serviceWaitExpiry => true
  | .stallWaitExpiry => true
  | .thermalKeep _ _ => true
  | .thermalKeepClear _ _ _ => true
  | .thermalWarning _ _ => true
  | .thermalTrip _ _ => true
  | .pfailAssert => true
  | .heelSaveCmd v => keyOk v
  | .hubRestart v => keyOk v
  | .hubFwReset v => keyOk v
  | .coreWatchdog => true
  | .jtagDebugRequest => true
  | .trstLow => true
  | .firmwareRestart _ => true
  | .saveDieWatchdog _ => true
  | .stickyHubFault _ _ => true
  | .fclkRelockTimeout => true
  | .saveStart _ => true
  | .fill _ => true
  | .sfetch _ => true
  | .sfetchData _ => true
  | .unitProgramDone _ _ _ _ _ _ => true
  | .dieDropTimeout _ _ _ => true
  | .confirm _ => true
  | .saveDieLossTimeout _ => true
  | .saveDieLost _ _ => true
  | .sealReq _ _ _ => true
  | .leaseRenew _ => true
  | .leaseClaim _ _ => true
  | .leaseExpiry => true
  | .leadHoldExpiry _ => true
  | .storeCutoff => true
  | .downOrderComplete => true
  | .memRd _ tag hpa => tagOk tag && lineOk hpa
  | .memRdData _ tag hpa => tagOk tag && lineOk hpa
  | .memWr _ tag hpa data _ => tagOk tag && lineOk hpa && lineData data
  | .memWrPtl _ tag hpa data mask _ => tagOk tag && lineOk hpa && lineData data && maskOk mask
  | .memInv _ tag hpa => tagOk tag && lineOk hpa
  | .memInvNt _ tag hpa => tagOk tag && lineOk hpa
  | .memSpecRd _ hpa => lineOk hpa
  | .m2sProtocolError _ _ => true
  | .arbitrateGrant => true
  | .throttleTrickle => true
  | .dramReadIssue _ _ => true
  | .dramWriteIssue _ _ => true
  | .writeAgeExpiry _ => true
  | .rowIdleClose _ _ => true
  | .readDataReturn _ back _ => flipsOk back.flips
  | .writeCrcAlert a => decide (a.line < 2 ^ 46) && lanesOk a.lanes && retrainOk a.retrain
  | .refreshDue _ _ _ => true
  | .mr4Poll _ _ => true
  | .patrolScrubRead _ => true
  | .phyPllLockLoss _ _ => true
  | .calibrationCheck _ _ _ _ => true
  | .incrementalRun _ _ lanes retrain => lanesOk lanes && retrainOk retrain
  | .flashInterfaceRun _ _ lanes => lanesOk lanes
  | .runDram => true
  | .runFlash => true
  | .reelSelection => true
  | .coldSweepVisit => true
  | .copyData frame => frameOk frame
  | .copyDone frame => frameOk frame
  | .journalPageFlush => true
  | .jpage _ => true
  | .journalPageDurable _ => true
  | .compactionStart => true
  | .baseMapWritten => true
  | .budgetRecompute _ => true
  | .budgetStale => true
  | .noCopyUnitTimeout => true
  | .readyMap _ => true
  | .rstrReq _ => true
  | .rstrData frame _ => frameOk frame
  | .touchReq _ => true
  | .touchData _ _ _ => true
  | .reset _ a => descArgsOk a
  | .identify _ a => descArgsOk a
  | .feature _ a => descArgsOk a
  | .train _ a => descArgsOk a
  | .programUnit _ a => descArgsOk a
  | .programWl _ a => descArgsOk a
  | .read _ a => descArgsOk a
  | .erase _ a => descArgsOk a
  | .eraseCheck _ a => descArgsOk a
  | .descriptorCompletion _ way _ _ _ _ _ => wayOk way
  | .operationTimeout _ way => wayOk way
  | .eraseAhead _ way => wayOk way
  | .solePeriodicCheck _ way _ _ => wayOk way
  | .copyRowPad _ _ => true
  | .reclamationStart _ => true
  | .wearLevelling _ way => wayOk way
  | .tableLogProgram _ => true
  | .checkpointWrite _ => true
  | .programTimeCheck _ way _ => wayOk way
  | .channelRetrain _ _ lanes => lanesOk lanes
  | .join _ tag era _ _ _ _ _ _ _ => tagOk tag && eraOk era
  | .close _ tag era _ _ _ _ _ _ => tagOk tag && eraOk era
  | .commit _ tag era _ _ _ _ _ _ => tagOk tag && eraOk era
  | .abort _ tag era _ _ _ _ _ _ => tagOk tag && eraOk era
  | .leave _ tag era _ _ _ _ _ _ => tagOk tag && eraOk era
  | .level _ tag era _ _ _ _ _ _ => tagOk tag && eraOk era
  | .status _ tag era _ _ _ _ _ _ => tagOk tag && eraOk era
  | .epochPulseEdge _ => true
  | .pulseFault _ => true
  | .pulseSourceDrive _ => true
  | .pulseContention => true
  | .ptmRequest => true
  | .ptmResponse _ => true
  | .holdoverEntry => true
  | .preciseSample _ _ _ => true
  | .offsetCalibration _ => true
  | .storeTempSample _ => true
  | .overVoltage => true
  | .restPoint _ => true
  | .learn => true
  | .learnStop => true
  | .learnCycleDue => true
  | .eUseRecompute => true
  | .chargerTargetUpdate _ => true
  | .headroomGuard => true
  | .chargerTargetTimeout => true
  | .cvTermination => true
  | .holdEntry => true
  | .holdExit => true
  | .chargerFaultClear => true
  | .prechargeTimeout _ => true
  | .upDelayElapsed => true
  | .inrushElapsed slot => railOk slot
  | .slotReady slot _ _ => railOk slot
  | .pgTimeout slot _ => railOk slot
  | .slotFault slot _ _ _ => railOk slot
  | .slotFallen slot => railOk slot
  | .fallTimeout slot => railOk slot
  | .retryOffElapsed slot => railOk slot
  | .retryCountReset slot => railOk slot
  | .wdiEdge _ => true
  | .wdiTimeout => true
  | .vheelLoss _ => true
  | .holdCharged => true
  | .heelRlogClear key => keyOk key
  | .linkTrained _ _ _ _ _ _ => true
  | .trainTimeout _ => true
  | .hello _ _ _ _ => true
  | .helloAck _ _ _ _ => true
  | .credit _ _ _ => true
  | .ready => true
  | .portReset _ => true
  | .portResetAck => true
  | .portResetAckTimeout => true
  | .gstCtrl key => keyOk key
  | .err _ _ => true
  | .gsAlert => true
  | .tempTimeout => true
  | .temp _ => true
  | .int _ => true
  | .evt => true
  | .mrd tid era ga hint => tidOk tid && decide (era < 4) && lineOk ga && decide (hint < 4)
  | .mwr tid era ga hint data _ => tidOk tid && decide (era < 4) && lineOk ga && decide (hint < 4) && lineData data
  | .mwrp tid era ga hint data mask _ => tidOk tid && decide (era < 4) && lineOk ga && decide (hint < 4) && lineData data && maskOk mask
  | .cmp tid => tidOk tid
  | .data tid => tidOk tid
  | .derr tid => tidOk tid
  | .mmrd => true
  | .mmwr => true
  | .mmcpl tid era _ _ => tidOk tid && decide (era < 4)
  | .bar4Read _ tag _ _ => tagOk tag
  | .bar4Write _ _ => true
  | .mmioTimeout tid => tidOk tid
  | .tidQuarantineEnd tid => tidOk tid
  | .flitCrcError flit => flitOk flit.bytes
  | .nak _ _ => true
  | .replayTimeout _ => true
  | .replayRetrain _ => true
  | .moduleLoss _ _ => true
  | .sleepProposal => true
  | .slpPrep _ _ => true
  | .slpAck _ _ => true
  | .slpNak _ _ => true
  | .sleepAckTimeout => true
  | .slpGo _ => true
  | .slpCancel _ => true
  | .slpWake _ _ => true
  | .sleepEntryComplete => true
  | .sleepExit => true
  | .fwLoad _ => true
  | .key _ => true
  | .service _ => true
  | .perstAssert _ => true
  | .perstDeassert _ => true
  | .hotReset _ => true
  | .linkDownReset _ => true
  | .cxlReset _ => true
  | .functionLevelReset _ => true
  | .linkUp _ _ _ _ _ => true
  | .hdmDecoderCommit _ _ _ _ _ _ _ _ => true
  | .viral _ => true
  | .gpfPhase1 _ => true
  | .gpfPhase2 _ => true
  | .gpfTimeout => true
  | .pmeTurnOff _ => true
  | .aspmL1Entry _ => true
  | .identifyMemoryDevice _ tag => tagOk tag
  | .getPartitionInfo _ tag => tagOk tag
  | .setPartitionInfo _ tag => tagOk tag
  | .getLsa _ tag _ _ => tagOk tag
  | .setLsa _ tag _ _ => tagOk tag
  | .getHealthInfo _ tag _ => tagOk tag
  | .getAlertConfiguration _ tag => tagOk tag
  | .setAlertConfiguration _ tag _ _ _ => tagOk tag
  | .getShutdownState _ tag => tagOk tag
  | .setShutdownState _ tag _ => tagOk tag
  | .getPoisonList _ tag dpa _ => tagOk tag && lineOk dpa
  | .injectPoison _ tag dpa => tagOk tag && lineOk dpa
  | .clearPoison _ tag dpa data => tagOk tag && lineOk dpa && lineData data
  | .getScanMediaCapabilities _ tag dpa _ => tagOk tag && lineOk dpa
  | .scanMedia _ tag dpa _ => tagOk tag && lineOk dpa
  | .getScanMediaResults _ tag => tagOk tag
  | .sanitize _ tag => tagOk tag
  | .secureErase _ tag => tagOk tag
  | .backgroundOperationDone opcode => decide (opcode < 65536)
  | .getSecurityState _ tag => tagOk tag
  | .setPassphrase _ tag _ _ _ => tagOk tag
  | .disablePassphrase _ tag _ _ => tagOk tag
  | .unlock _ tag _ => tagOk tag
  | .freezeSecurityState _ tag => tagOk tag
  | .passphraseSecureErase _ tag _ _ => tagOk tag
  | .getEventRecords _ tag _ => tagOk tag
  | .clearEventRecords _ tag _ _ _ => tagOk tag
  | .getEventInterruptPolicy _ tag => tagOk tag
  | .setEventInterruptPolicy _ tag _ => tagOk tag
  | .getFwInfo _ tag => tagOk tag
  | .transferFw _ tag _ _ _ _ _ _ => tagOk tag
  | .transferFwTimeout => true
  | .activateFw _ tag _ _ => tagOk tag
  | .provisionalPeriodEnd => true
  | .getTimestamp _ tag => tagOk tag
  | .setTimestamp _ tag _ => tagOk tag
  | .getSupportedLogs _ tag => tagOk tag
  | .getLog _ tag _ _ _ => tagOk tag
  | .unsupportedCommand _ tag cmd => tagOk tag && decide (cmd.opcode < 65536)
  | .getJaricaInfo _ tag era => tagOk tag && eraOk era
  | .openSession _ tag era => tagOk tag && eraOk era
  | .getJournal _ tag era _ _ _ => tagOk tag && eraOk era
  | .stageStart _ tag era hdr _ => tagOk tag && eraOk era && decide (hdr.length = 256)
  | .stageData _ tag era _ _ _ => tagOk tag && eraOk era
  | .stageFinish _ tag era _ => tagOk tag && eraOk era
  | .stageAbort _ tag era => tagOk tag && eraOk era
  | .stagingIdleTimeout => true
  | .raiseGenerationFloor _ tag era _ => tagOk tag && eraOk era
  | .programKeySlot _ tag era _ _ => tagOk tag && eraOk era
  | .revokeKeySlot _ tag era _ => tagOk tag && eraOk era
  | .readIntegratorData _ tag era _ _ _ => tagOk tag && eraOk era
  | .saveNow _ tag era => tagOk tag && eraOk era
  | .setRestoreTarget _ tag era _ _ => tagOk tag && eraOk era
  | .releaseKeepImage _ tag era => tagOk tag && eraOk era
  | .releaseDrainDone => true
  | .releaseDrainTimeout => true
  | .raiseFirmwareFloor _ tag era _ => tagOk tag && eraOk era
  | .advanceFormat _ tag era _ => tagOk tag && eraOk era
  | .getDiagnostics _ tag era mpa _ => tagOk tag && eraOk era && mpaOk mpa
  | .setAlertEnables _ tag era _ => tagOk tag && eraOk era
  | .heelRestoreTgt _ => true
  | .sbWriteTransfer addr _ => busAddr addr
  | .sbReadTransfer addr _ _ => busAddr addr
  | .sbQuickCommand addr => busAddr addr
  | .sbbIndRead _ => true
  | .sbbIndWrite _ => true
  | .sbHandoff _ => true
  | .sbClockLowTimeout _ => true
  | .alertResponseAddress _ => true
  | .sbAlertAssert => true
  | .sbbAlertPendClear _ => true
  | .hostNotify _ => true
  | .hostNotifyRetry _ => true
  | .arbitrationLost => true
  | .eflHkey _ => true
  | .eflUnlockTimeout => true
  | .eflHbuf _ => true
  | .eflRead _ => true
  | .eflProgram => true
  | .eflErase => true
  | .eflBlankCheck => true
  | .eflClearBuf => true
  | .eflFetch _ _ _ => true
  | .eflResume _ => true
  | .eflOperationDone _ _ => true
  | .eventRecord _ _ _ _ => true
  | .foldWindowClose _ _ => true
  | .evrFlush => true
  | .evrClear => true
  | .evrFlushCmd => true
  | .loReadLatch _ a => mpaOk a.mpa
  | .registerWrite _ mpa v _ => mpaOk mpa && wordOk v
  | .idleFlit _ _ _ _ _ => true
  | .guestRetrainExpiry => true
  | .eflWaitBand _ => true
  | .zeroFrameFill frame => frameOk frame
  | .guestL1Request => true

end Sys2Proof
end

