-- ==== Sys2Proof/Laws/PerInstr.lean ====
section
/-! SUPPORT. Sys2Proof/Laws/PerInstr.lean: a law for each command as syntax. Tags: the tag of a well-formed command fits the 16 bits that R109 and R383
give it, so that no tag of a command is the mark of a dropped one. -/
namespace Sys2Proof.Laws.Tags

/-- The tag of a CXL.mem request or of a mailbox command. -/
def tagOf (i : Sys2Proof.Instr) : Option Nat :=
  match i with
  | .memRd _ tag _ => some tag
  | .memRdData _ tag _ => some tag
  | .memWr _ tag _ _ _ => some tag
  | .memWrPtl _ tag _ _ _ _ => some tag
  | .memInv _ tag _ => some tag
  | .memInvNt _ tag _ => some tag
  | .join _ tag _ _ _ _ _ _ _ _ => some tag
  | .close _ tag _ _ _ _ _ _ _ => some tag
  | .commit _ tag _ _ _ _ _ _ _ => some tag
  | .abort _ tag _ _ _ _ _ _ _ => some tag
  | .leave _ tag _ _ _ _ _ _ _ => some tag
  | .level _ tag _ _ _ _ _ _ _ => some tag
  | .status _ tag _ _ _ _ _ _ _ => some tag
  | .bar4Read _ tag _ _ => some tag
  | .identifyMemoryDevice _ tag => some tag
  | .getPartitionInfo _ tag => some tag
  | .setPartitionInfo _ tag => some tag
  | .getLsa _ tag _ _ => some tag
  | .setLsa _ tag _ _ => some tag
  | .getHealthInfo _ tag _ => some tag
  | .getAlertConfiguration _ tag => some tag
  | .setAlertConfiguration _ tag _ _ _ => some tag
  | .getShutdownState _ tag => some tag
  | .setShutdownState _ tag _ => some tag
  | .getPoisonList _ tag _ _ => some tag
  | .injectPoison _ tag _ => some tag
  | .clearPoison _ tag _ _ => some tag
  | .getScanMediaCapabilities _ tag _ _ => some tag
  | .scanMedia _ tag _ _ => some tag
  | .getScanMediaResults _ tag => some tag
  | .sanitize _ tag => some tag
  | .secureErase _ tag => some tag
  | .getSecurityState _ tag => some tag
  | .setPassphrase _ tag _ _ _ => some tag
  | .disablePassphrase _ tag _ _ => some tag
  | .unlock _ tag _ => some tag
  | .freezeSecurityState _ tag => some tag
  | .passphraseSecureErase _ tag _ _ => some tag
  | .getEventRecords _ tag _ => some tag
  | .clearEventRecords _ tag _ _ _ => some tag
  | .getEventInterruptPolicy _ tag => some tag
  | .setEventInterruptPolicy _ tag _ => some tag
  | .getFwInfo _ tag => some tag
  | .transferFw _ tag _ _ _ _ _ _ => some tag
  | .activateFw _ tag _ _ => some tag
  | .getTimestamp _ tag => some tag
  | .setTimestamp _ tag _ => some tag
  | .getSupportedLogs _ tag => some tag
  | .getLog _ tag _ _ _ => some tag
  | .unsupportedCommand _ tag _ => some tag
  | .getJaricaInfo _ tag _ => some tag
  | .openSession _ tag _ => some tag
  | .getJournal _ tag _ _ _ _ => some tag
  | .stageStart _ tag _ _ _ => some tag
  | .stageData _ tag _ _ _ _ => some tag
  | .stageFinish _ tag _ _ => some tag
  | .stageAbort _ tag _ => some tag
  | .raiseGenerationFloor _ tag _ _ => some tag
  | .programKeySlot _ tag _ _ _ => some tag
  | .revokeKeySlot _ tag _ _ => some tag
  | .readIntegratorData _ tag _ _ _ _ => some tag
  | .saveNow _ tag _ => some tag
  | .setRestoreTarget _ tag _ _ _ => some tag
  | .releaseKeepImage _ tag _ => some tag
  | .raiseFirmwareFloor _ tag _ _ => some tag
  | .advanceFormat _ tag _ _ => some tag
  | .getDiagnostics _ tag _ _ _ => some tag
  | .setAlertEnables _ tag _ _ => some tag
  | _ => none

/-- The tag of the command, if it is well-formed and has one, is 16 bits. -/
def Statement (i : Sys2Proof.Instr) : Prop := wellFormed i = true → ∀ t, tagOf i = some t → t < 65536

theorem of_none {i : Sys2Proof.Instr} (h : tagOf i = none) : Statement i := fun _ t g => by rw [h] at g; cases g

theorem of_tag {i : Sys2Proof.Instr} {tag : Nat} {p : Bool} (h : tagOf i = some tag) (g : wellFormed i = (tagOk tag && p)) : Statement i := by
  intro w t k
  rw [h] at k; cases k
  rw [g, Bool.and_eq_true] at w
  exact of_decide_eq_true w.1

theorem of_tag_only {i : Sys2Proof.Instr} {tag : Nat} (h : tagOf i = some tag) (g : wellFormed i = tagOk tag) : Statement i :=
  of_tag (p := true) h (by rw [g, Bool.and_true])

theorem heelPowerOn : Statement (.heelPowerOn) := of_none rfl
theorem heelSupplyLoss : Statement (.heelSupplyLoss) := of_none rfl
theorem inputWake : Statement (.inputWake) := of_none rfl
theorem heelWakeCmd : ∀ v, Statement (.heelWakeCmd v) := fun _ => of_none rfl
theorem inputRise : Statement (.inputRise) := of_none rfl
theorem inputFall : Statement (.inputFall) := of_none rfl
theorem wakeStepComplete : ∀ w, Statement (.wakeStepComplete w) := fun _ => of_none rfl
theorem wakeStepTimeout : ∀ n, Statement (.wakeStepTimeout n) := fun _ => of_none rfl
theorem configurationLock : Statement (.configurationLock) := of_none rfl
theorem restoreStepComplete : ∀ info, Statement (.restoreStepComplete info) := fun _ => of_none rfl
theorem restoreComplete : Statement (.restoreComplete) := of_none rfl
theorem derateClear : Statement (.derateClear) := of_none rfl
theorem serviceWaitExpiry : Statement (.serviceWaitExpiry) := of_none rfl
theorem stallWaitExpiry : Statement (.stallWaitExpiry) := of_none rfl
theorem thermalKeep : ∀ die t, Statement (.thermalKeep die t) := fun _ _ => of_none rfl
theorem thermalKeepClear : ∀ hub s0 s1, Statement (.thermalKeepClear hub s0 s1) := fun _ _ _ => of_none rfl
theorem thermalWarning : ∀ die t, Statement (.thermalWarning die t) := fun _ _ => of_none rfl
theorem thermalTrip : ∀ die t, Statement (.thermalTrip die t) := fun _ _ => of_none rfl
theorem pfailAssert : Statement (.pfailAssert) := of_none rfl
theorem heelSaveCmd : ∀ v, Statement (.heelSaveCmd v) := fun _ => of_none rfl
theorem hubRestart : ∀ v, Statement (.hubRestart v) := fun _ => of_none rfl
theorem hubFwReset : ∀ v, Statement (.hubFwReset v) := fun _ => of_none rfl
theorem coreWatchdog : Statement (.coreWatchdog) := of_none rfl
theorem jtagDebugRequest : Statement (.jtagDebugRequest) := of_none rfl
theorem trstLow : Statement (.trstLow) := of_none rfl
theorem firmwareRestart : ∀ good, Statement (.firmwareRestart good) := fun _ => of_none rfl
theorem saveDieWatchdog : ∀ d, Statement (.saveDieWatchdog d) := fun _ => of_none rfl
theorem stickyHubFault : ∀ unit word, Statement (.stickyHubFault unit word) := fun _ _ => of_none rfl
theorem fclkRelockTimeout : Statement (.fclkRelockTimeout) := of_none rfl
theorem saveStart : ∀ d, Statement (.saveStart d) := fun _ => of_none rfl
theorem fill : ∀ d, Statement (.fill d) := fun _ => of_none rfl
theorem sfetch : ∀ d, Statement (.sfetch d) := fun _ => of_none rfl
theorem sfetchData : ∀ d, Statement (.sfetchData d) := fun _ => of_none rfl
theorem unitProgramDone : ∀ d k r pos ok busy, Statement (.unitProgramDone d k r pos ok busy) := fun _ _ _ _ _ _ => of_none rfl
theorem dieDropTimeout : ∀ d k pos, Statement (.dieDropTimeout d k pos) := fun _ _ _ => of_none rfl
theorem confirm : ∀ d, Statement (.confirm d) := fun _ => of_none rfl
theorem saveDieLossTimeout : ∀ d, Statement (.saveDieLossTimeout d) := fun _ => of_none rfl
theorem saveDieLost : ∀ d core, Statement (.saveDieLost d core) := fun _ _ => of_none rfl
theorem sealReq : ∀ d gen us, Statement (.sealReq d gen us) := fun _ _ _ => of_none rfl
theorem leaseRenew : ∀ d, Statement (.leaseRenew d) := fun _ => of_none rfl
theorem leaseClaim : ∀ s0 s1, Statement (.leaseClaim s0 s1) := fun _ _ => of_none rfl
theorem leaseExpiry : Statement (.leaseExpiry) := of_none rfl
theorem leadHoldExpiry : ∀ d, Statement (.leadHoldExpiry d) := fun _ => of_none rfl
theorem storeCutoff : Statement (.storeCutoff) := of_none rfl
theorem downOrderComplete : Statement (.downOrderComplete) := of_none rfl
theorem memRd : ∀ h tag hpa, Statement (.memRd h tag hpa) := fun _ _ _ => of_tag rfl rfl
theorem memRdData : ∀ h tag hpa, Statement (.memRdData h tag hpa) := fun _ _ _ => of_tag rfl rfl
theorem memWr : ∀ h tag hpa data poison, Statement (.memWr h tag hpa data poison) := fun _ _ _ _ _ => of_tag rfl (by simp only [wellFormed, Bool.and_assoc]; rfl)
theorem memWrPtl : ∀ h tag hpa data mask poison, Statement (.memWrPtl h tag hpa data mask poison) := fun _ _ _ _ _ _ => of_tag rfl (by simp only [wellFormed, Bool.and_assoc]; rfl)
theorem memInv : ∀ h tag hpa, Statement (.memInv h tag hpa) := fun _ _ _ => of_tag rfl rfl
theorem memInvNt : ∀ h tag hpa, Statement (.memInvNt h tag hpa) := fun _ _ _ => of_tag rfl rfl
theorem memSpecRd : ∀ h hpa, Statement (.memSpecRd h hpa) := fun _ _ => of_none rfl
theorem m2sProtocolError : ∀ h opcode, Statement (.m2sProtocolError h opcode) := fun _ _ => of_none rfl
theorem arbitrateGrant : Statement (.arbitrateGrant) := of_none rfl
theorem throttleTrickle : Statement (.throttleTrickle) := of_none rfl
theorem dramReadIssue : ∀ ch sub, Statement (.dramReadIssue ch sub) := fun _ _ => of_none rfl
theorem dramWriteIssue : ∀ ch sub, Statement (.dramWriteIssue ch sub) := fun _ _ => of_none rfl
theorem writeAgeExpiry : ∀ ch, Statement (.writeAgeExpiry ch) := fun _ => of_none rfl
theorem rowIdleClose : ∀ ch bank, Statement (.rowIdleClose ch bank) := fun _ _ => of_none rfl
theorem readDataReturn : ∀ ch back resource, Statement (.readDataReturn ch back resource) := fun _ _ _ => of_none rfl
theorem writeCrcAlert : ∀ a, Statement (.writeCrcAlert a) := fun _ => of_none rfl
theorem refreshDue : ∀ ch rank postpone, Statement (.refreshDue ch rank postpone) := fun _ _ _ => of_none rfl
theorem mr4Poll : ∀ ch hot, Statement (.mr4Poll ch hot) := fun _ _ => of_none rfl
theorem patrolScrubRead : ∀ ch, Statement (.patrolScrubRead ch) := fun _ => of_none rfl
theorem phyPllLockLoss : ∀ ch relocked, Statement (.phyPllLockLoss ch relocked) := fun _ _ => of_none rfl
theorem calibrationCheck : ∀ hub s0 s1 aged, Statement (.calibrationCheck hub s0 s1 aged) := fun _ _ _ _ => of_none rfl
theorem incrementalRun : ∀ ch temp lanes retrain, Statement (.incrementalRun ch temp lanes retrain) := fun _ _ _ _ => of_none rfl
theorem flashInterfaceRun : ∀ ch temp lanes, Statement (.flashInterfaceRun ch temp lanes) := fun _ _ _ => of_none rfl
theorem runDram : Statement (.runDram) := of_none rfl
theorem runFlash : Statement (.runFlash) := of_none rfl
theorem reelSelection : Statement (.reelSelection) := of_none rfl
theorem coldSweepVisit : Statement (.coldSweepVisit) := of_none rfl
theorem copyData : ∀ frame, Statement (.copyData frame) := fun _ => of_none rfl
theorem copyDone : ∀ frame, Statement (.copyDone frame) := fun _ => of_none rfl
theorem journalPageFlush : Statement (.journalPageFlush) := of_none rfl
theorem jpage : ∀ d, Statement (.jpage d) := fun _ => of_none rfl
theorem journalPageDurable : ∀ d, Statement (.journalPageDurable d) := fun _ => of_none rfl
theorem compactionStart : Statement (.compactionStart) := of_none rfl
theorem baseMapWritten : Statement (.baseMapWritten) := of_none rfl
theorem budgetRecompute : ∀ secondPassed, Statement (.budgetRecompute secondPassed) := fun _ => of_none rfl
theorem budgetStale : Statement (.budgetStale) := of_none rfl
theorem noCopyUnitTimeout : Statement (.noCopyUnitTimeout) := of_none rfl
theorem readyMap : ∀ d, Statement (.readyMap d) := fun _ => of_none rfl
theorem rstrReq : ∀ d, Statement (.rstrReq d) := fun _ => of_none rfl
theorem rstrData : ∀ frame lost, Statement (.rstrData frame lost) := fun _ _ => of_none rfl
theorem touchReq : ∀ d, Statement (.touchReq d) := fun _ => of_none rfl
theorem touchData : ∀ d lost us, Statement (.touchData d lost us) := fun _ _ _ => of_none rfl
theorem reset : ∀ ch a, Statement (.reset ch a) := fun _ _ => of_none rfl
theorem identify : ∀ ch a, Statement (.identify ch a) := fun _ _ => of_none rfl
theorem feature : ∀ ch a, Statement (.feature ch a) := fun _ _ => of_none rfl
theorem train : ∀ ch a, Statement (.train ch a) := fun _ _ => of_none rfl
theorem programUnit : ∀ ch a, Statement (.programUnit ch a) := fun _ _ => of_none rfl
theorem programWl : ∀ ch a, Statement (.programWl ch a) := fun _ _ => of_none rfl
theorem read : ∀ ch a, Statement (.read ch a) := fun _ _ => of_none rfl
theorem erase : ∀ ch a, Statement (.erase ch a) := fun _ _ => of_none rfl
theorem eraseCheck : ∀ ch a, Statement (.eraseCheck ch a) := fun _ _ => of_none rfl
theorem descriptorCompletion : ∀ ch way status wait retried soft rebuilt, Statement (.descriptorCompletion ch way status wait retried soft rebuilt) := fun _ _ _ _ _ _ _ => of_none rfl
theorem operationTimeout : ∀ ch way, Statement (.operationTimeout ch way) := fun _ _ => of_none rfl
theorem eraseAhead : ∀ ch way, Statement (.eraseAhead ch way) := fun _ _ => of_none rfl
theorem solePeriodicCheck : ∀ ch way setB entry, Statement (.solePeriodicCheck ch way setB entry) := fun _ _ _ _ => of_none rfl
theorem copyRowPad : ∀ group reloc, Statement (.copyRowPad group reloc) := fun _ _ => of_none rfl
theorem reclamationStart : ∀ group, Statement (.reclamationStart group) := fun _ => of_none rfl
theorem wearLevelling : ∀ ch way, Statement (.wearLevelling ch way) := fun _ _ => of_none rfl
theorem tableLogProgram : ∀ d, Statement (.tableLogProgram d) := fun _ => of_none rfl
theorem checkpointWrite : ∀ d, Statement (.checkpointWrite d) := fun _ => of_none rfl
theorem programTimeCheck : ∀ ch way median, Statement (.programTimeCheck ch way median) := fun _ _ _ => of_none rfl
theorem channelRetrain : ∀ ch pass lanes, Statement (.channelRetrain ch pass lanes) := fun _ _ _ => of_none rfl
theorem join : ∀ h tag era grp inc level module epoch sent resume, Statement (.join h tag era grp inc level module epoch sent resume) := fun _ _ _ _ _ _ _ _ _ _ => of_tag rfl rfl
theorem close : ∀ h tag era grp inc level module epoch sent, Statement (.close h tag era grp inc level module epoch sent) := fun _ _ _ _ _ _ _ _ _ => of_tag rfl rfl
theorem commit : ∀ h tag era grp inc level module epoch sent, Statement (.commit h tag era grp inc level module epoch sent) := fun _ _ _ _ _ _ _ _ _ => of_tag rfl rfl
theorem abort : ∀ h tag era grp inc level module epoch sent, Statement (.abort h tag era grp inc level module epoch sent) := fun _ _ _ _ _ _ _ _ _ => of_tag rfl rfl
theorem leave : ∀ h tag era grp inc level module epoch sent, Statement (.leave h tag era grp inc level module epoch sent) := fun _ _ _ _ _ _ _ _ _ => of_tag rfl rfl
theorem level : ∀ h tag era grp inc level module epoch sent, Statement (.level h tag era grp inc level module epoch sent) := fun _ _ _ _ _ _ _ _ _ => of_tag rfl rfl
theorem status : ∀ h tag era grp inc level module epoch sent, Statement (.status h tag era grp inc level module epoch sent) := fun _ _ _ _ _ _ _ _ _ => of_tag rfl rfl
theorem epochPulseEdge : ∀ t, Statement (.epochPulseEdge t) := fun _ => of_none rfl
theorem pulseFault : ∀ k, Statement (.pulseFault k) := fun _ => of_none rfl
theorem pulseSourceDrive : ∀ k, Statement (.pulseSourceDrive k) := fun _ => of_none rfl
theorem pulseContention : Statement (.pulseContention) := of_none rfl
theorem ptmRequest : Statement (.ptmRequest) := of_none rfl
theorem ptmResponse : ∀ off, Statement (.ptmResponse off) := fun _ => of_none rfl
theorem holdoverEntry : Statement (.holdoverEntry) := of_none rfl
theorem preciseSample : ∀ code storeMv inputMv, Statement (.preciseSample code storeMv inputMv) := fun _ _ _ => of_none rfl
theorem offsetCalibration : ∀ code, Statement (.offsetCalibration code) := fun _ => of_none rfl
theorem storeTempSample : ∀ t, Statement (.storeTempSample t) := fun _ => of_none rfl
theorem overVoltage : Statement (.overVoltage) := of_none rfl
theorem restPoint : ∀ storeMv, Statement (.restPoint storeMv) := fun _ => of_none rfl
theorem learn : Statement (.learn) := of_none rfl
theorem learnStop : Statement (.learnStop) := of_none rfl
theorem learnCycleDue : Statement (.learnCycleDue) := of_none rfl
theorem eUseRecompute : Statement (.eUseRecompute) := of_none rfl
theorem chargerTargetUpdate : ∀ cvOut, Statement (.chargerTargetUpdate cvOut) := fun _ => of_none rfl
theorem headroomGuard : Statement (.headroomGuard) := of_none rfl
theorem chargerTargetTimeout : Statement (.chargerTargetTimeout) := of_none rfl
theorem cvTermination : Statement (.cvTermination) := of_none rfl
theorem holdEntry : Statement (.holdEntry) := of_none rfl
theorem holdExit : Statement (.holdExit) := of_none rfl
theorem chargerFaultClear : Statement (.chargerFaultClear) := of_none rfl
theorem prechargeTimeout : ∀ storeMv, Statement (.prechargeTimeout storeMv) := fun _ => of_none rfl
theorem upDelayElapsed : Statement (.upDelayElapsed) := of_none rfl
theorem inrushElapsed : ∀ slot, Statement (.inrushElapsed slot) := fun _ => of_none rfl
theorem slotReady : ∀ slot vs ramp, Statement (.slotReady slot vs ramp) := fun _ _ _ => of_none rfl
theorem pgTimeout : ∀ slot vs, Statement (.pgTimeout slot vs) := fun _ _ => of_none rfl
theorem slotFault : ∀ slot cause vs delay, Statement (.slotFault slot cause vs delay) := fun _ _ _ _ => of_none rfl
theorem slotFallen : ∀ slot, Statement (.slotFallen slot) := fun _ => of_none rfl
theorem fallTimeout : ∀ slot, Statement (.fallTimeout slot) := fun _ => of_none rfl
theorem retryOffElapsed : ∀ slot, Statement (.retryOffElapsed slot) := fun _ => of_none rfl
theorem retryCountReset : ∀ slot, Statement (.retryCountReset slot) := fun _ => of_none rfl
theorem wdiEdge : ∀ gap, Statement (.wdiEdge gap) := fun _ => of_none rfl
theorem wdiTimeout : Statement (.wdiTimeout) := of_none rfl
theorem vheelLoss : ∀ inProgress, Statement (.vheelLoss inProgress) := fun _ => of_none rfl
theorem holdCharged : Statement (.holdCharged) := of_none rfl
theorem heelRlogClear : ∀ key, Statement (.heelRlogClear key) := fun _ => of_none rfl
theorem linkTrained : ∀ k m0 m1 x80 x81 rate, Statement (.linkTrained k m0 m1 x80 x81 rate) := fun _ _ _ _ _ _ => of_none rfl
theorem trainTimeout : ∀ k, Statement (.trainTimeout k) := fun _ => of_none rfl
theorem hello : ∀ k version role guestId, Statement (.hello k version role guestId) := fun _ _ _ _ => of_none rfl
theorem helloAck : ∀ k version role guestId, Statement (.helloAck k version role guestId) := fun _ _ _ _ => of_none rfl
theorem credit : ∀ k cls count, Statement (.credit k cls count) := fun _ _ _ => of_none rfl
theorem ready : Statement (.ready) := of_none rfl
theorem portReset : ∀ cause, Statement (.portReset cause) := fun _ => of_none rfl
theorem portResetAck : Statement (.portResetAck) := of_none rfl
theorem portResetAckTimeout : Statement (.portResetAckTimeout) := of_none rfl
theorem gstCtrl : ∀ key, Statement (.gstCtrl key) := fun _ => of_none rfl
theorem err : ∀ fatal code, Statement (.err fatal code) := fun _ _ => of_none rfl
theorem gsAlert : Statement (.gsAlert) := of_none rfl
theorem tempTimeout : Statement (.tempTimeout) := of_none rfl
theorem temp : ∀ t, Statement (.temp t) := fun _ => of_none rfl
theorem int : ∀ v, Statement (.int v) := fun _ => of_none rfl
theorem evt : Statement (.evt) := of_none rfl
theorem mrd : ∀ tid era ga hint, Statement (.mrd tid era ga hint) := fun _ _ _ _ => of_none rfl
theorem mwr : ∀ tid era ga hint data poison, Statement (.mwr tid era ga hint data poison) := fun _ _ _ _ _ _ => of_none rfl
theorem mwrp : ∀ tid era ga hint data mask poison, Statement (.mwrp tid era ga hint data mask poison) := fun _ _ _ _ _ _ _ => of_none rfl
theorem cmp : ∀ tid, Statement (.cmp tid) := fun _ => of_none rfl
theorem data : ∀ tid, Statement (.data tid) := fun _ => of_none rfl
theorem derr : ∀ tid, Statement (.derr tid) := fun _ => of_none rfl
theorem mmrd : Statement (.mmrd) := of_none rfl
theorem mmwr : Statement (.mmwr) := of_none rfl
theorem mmcpl : ∀ tid era status data, Statement (.mmcpl tid era status data) := fun _ _ _ _ => of_none rfl
theorem bar4Read : ∀ h tag off n, Statement (.bar4Read h tag off n) := fun _ _ _ _ => of_tag_only rfl rfl
theorem bar4Write : ∀ off data, Statement (.bar4Write off data) := fun _ _ => of_none rfl
theorem mmioTimeout : ∀ tid, Statement (.mmioTimeout tid) := fun _ => of_none rfl
theorem tidQuarantineEnd : ∀ tid, Statement (.tidQuarantineEnd tid) := fun _ => of_none rfl
theorem flitCrcError : ∀ flit, Statement (.flitCrcError flit) := fun _ => of_none rfl
theorem nak : ∀ k ackSeq, Statement (.nak k ackSeq) := fun _ _ => of_none rfl
theorem replayTimeout : ∀ k, Statement (.replayTimeout k) := fun _ => of_none rfl
theorem replayRetrain : ∀ k, Statement (.replayRetrain k) := fun _ => of_none rfl
theorem moduleLoss : ∀ k upper, Statement (.moduleLoss k upper) := fun _ _ => of_none rfl
theorem sleepProposal : Statement (.sleepProposal) := of_none rfl
theorem slpPrep : ∀ k busy, Statement (.slpPrep k busy) := fun _ _ => of_none rfl
theorem slpAck : ∀ k n, Statement (.slpAck k n) := fun _ _ => of_none rfl
theorem slpNak : ∀ k n, Statement (.slpNak k n) := fun _ _ => of_none rfl
theorem sleepAckTimeout : Statement (.sleepAckTimeout) := of_none rfl
theorem slpGo : ∀ k, Statement (.slpGo k) := fun _ => of_none rfl
theorem slpCancel : ∀ k, Statement (.slpCancel k) := fun _ => of_none rfl
theorem slpWake : ∀ k n, Statement (.slpWake k n) := fun _ _ => of_none rfl
theorem sleepEntryComplete : Statement (.sleepEntryComplete) := of_none rfl
theorem sleepExit : Statement (.sleepExit) := of_none rfl
theorem fwLoad : ∀ d, Statement (.fwLoad d) := fun _ => of_none rfl
theorem key : ∀ d, Statement (.key d) := fun _ => of_none rfl
theorem service : ∀ d, Statement (.service d) := fun _ => of_none rfl
theorem perstAssert : ∀ h, Statement (.perstAssert h) := fun _ => of_none rfl
theorem perstDeassert : ∀ h, Statement (.perstDeassert h) := fun _ => of_none rfl
theorem hotReset : ∀ h, Statement (.hotReset h) := fun _ => of_none rfl
theorem linkDownReset : ∀ h, Statement (.linkDownReset h) := fun _ => of_none rfl
theorem cxlReset : ∀ h, Statement (.cxlReset h) := fun _ => of_none rfl
theorem functionLevelReset : ∀ h, Statement (.functionLevelReset h) := fun _ => of_none rfl
theorem linkUp : ∀ h rate width flit256 link, Statement (.linkUp h rate width flit256 link) := fun _ _ _ _ _ => of_none rfl
theorem hdmDecoderCommit : ∀ h dec base size ways gran target skip, Statement (.hdmDecoderCommit h dec base size ways gran target skip) := fun _ _ _ _ _ _ _ _ => of_none rfl
theorem viral : ∀ h, Statement (.viral h) := fun _ => of_none rfl
theorem gpfPhase1 : ∀ h, Statement (.gpfPhase1 h) := fun _ => of_none rfl
theorem gpfPhase2 : ∀ h, Statement (.gpfPhase2 h) := fun _ => of_none rfl
theorem gpfTimeout : Statement (.gpfTimeout) := of_none rfl
theorem pmeTurnOff : ∀ h, Statement (.pmeTurnOff h) := fun _ => of_none rfl
theorem aspmL1Entry : ∀ h, Statement (.aspmL1Entry h) := fun _ => of_none rfl
theorem identifyMemoryDevice : ∀ h tag, Statement (.identifyMemoryDevice h tag) := fun _ _ => of_tag_only rfl rfl
theorem getPartitionInfo : ∀ h tag, Statement (.getPartitionInfo h tag) := fun _ _ => of_tag_only rfl rfl
theorem setPartitionInfo : ∀ h tag, Statement (.setPartitionInfo h tag) := fun _ _ => of_tag_only rfl rfl
theorem getLsa : ∀ h tag off len, Statement (.getLsa h tag off len) := fun _ _ _ _ => of_tag_only rfl rfl
theorem setLsa : ∀ h tag off data, Statement (.setLsa h tag off data) := fun _ _ _ _ => of_tag_only rfl rfl
theorem getHealthInfo : ∀ h tag temp, Statement (.getHealthInfo h tag temp) := fun _ _ _ => of_tag_only rfl rfl
theorem getAlertConfiguration : ∀ h tag, Statement (.getAlertConfiguration h tag) := fun _ _ => of_tag_only rfl rfl
theorem setAlertConfiguration : ∀ h tag valid enable vals, Statement (.setAlertConfiguration h tag valid enable vals) := fun _ _ _ _ _ => of_tag_only rfl rfl
theorem getShutdownState : ∀ h tag, Statement (.getShutdownState h tag) := fun _ _ => of_tag_only rfl rfl
theorem setShutdownState : ∀ h tag dirty, Statement (.setShutdownState h tag dirty) := fun _ _ _ => of_tag_only rfl rfl
theorem getPoisonList : ∀ h tag dpa lines, Statement (.getPoisonList h tag dpa lines) := fun _ _ _ _ => of_tag rfl rfl
theorem injectPoison : ∀ h tag dpa, Statement (.injectPoison h tag dpa) := fun _ _ _ => of_tag rfl rfl
theorem clearPoison : ∀ h tag dpa data, Statement (.clearPoison h tag dpa data) := fun _ _ _ _ => of_tag rfl (by simp only [wellFormed, Bool.and_assoc]; rfl)
theorem getScanMediaCapabilities : ∀ h tag dpa lines, Statement (.getScanMediaCapabilities h tag dpa lines) := fun _ _ _ _ => of_tag rfl rfl
theorem scanMedia : ∀ h tag dpa lines, Statement (.scanMedia h tag dpa lines) := fun _ _ _ _ => of_tag rfl rfl
theorem getScanMediaResults : ∀ h tag, Statement (.getScanMediaResults h tag) := fun _ _ => of_tag_only rfl rfl
theorem sanitize : ∀ h tag, Statement (.sanitize h tag) := fun _ _ => of_tag_only rfl rfl
theorem secureErase : ∀ h tag, Statement (.secureErase h tag) := fun _ _ => of_tag_only rfl rfl
theorem backgroundOperationDone : ∀ opcode, Statement (.backgroundOperationDone opcode) := fun _ => of_none rfl
theorem getSecurityState : ∀ h tag, Statement (.getSecurityState h tag) := fun _ _ => of_tag_only rfl rfl
theorem setPassphrase : ∀ h tag master old new, Statement (.setPassphrase h tag master old new) := fun _ _ _ _ _ => of_tag_only rfl rfl
theorem disablePassphrase : ∀ h tag master pass, Statement (.disablePassphrase h tag master pass) := fun _ _ _ _ => of_tag_only rfl rfl
theorem unlock : ∀ h tag pass, Statement (.unlock h tag pass) := fun _ _ _ => of_tag_only rfl rfl
theorem freezeSecurityState : ∀ h tag, Statement (.freezeSecurityState h tag) := fun _ _ => of_tag_only rfl rfl
theorem passphraseSecureErase : ∀ h tag master pass, Statement (.passphraseSecureErase h tag master pass) := fun _ _ _ _ => of_tag_only rfl rfl
theorem getEventRecords : ∀ h tag log, Statement (.getEventRecords h tag log) := fun _ _ _ => of_tag_only rfl rfl
theorem clearEventRecords : ∀ h tag log all handles, Statement (.clearEventRecords h tag log all handles) := fun _ _ _ _ _ => of_tag_only rfl rfl
theorem getEventInterruptPolicy : ∀ h tag, Statement (.getEventInterruptPolicy h tag) := fun _ _ => of_tag_only rfl rfl
theorem setEventInterruptPolicy : ∀ h tag policy, Statement (.setEventInterruptPolicy h tag policy) := fun _ _ _ => of_tag_only rfl rfl
theorem getFwInfo : ∀ h tag, Statement (.getFwInfo h tag) := fun _ _ => of_tag_only rfl rfl
theorem transferFw : ∀ h tag action slot off len inCrc pkg, Statement (.transferFw h tag action slot off len inCrc pkg) := fun _ _ _ _ _ _ _ _ => of_tag_only rfl rfl
theorem transferFwTimeout : Statement (.transferFwTimeout) := of_none rfl
theorem activateFw : ∀ h tag online slot, Statement (.activateFw h tag online slot) := fun _ _ _ _ => of_tag_only rfl rfl
theorem provisionalPeriodEnd : Statement (.provisionalPeriodEnd) := of_none rfl
theorem getTimestamp : ∀ h tag, Statement (.getTimestamp h tag) := fun _ _ => of_tag_only rfl rfl
theorem setTimestamp : ∀ h tag t, Statement (.setTimestamp h tag t) := fun _ _ _ => of_tag_only rfl rfl
theorem getSupportedLogs : ∀ h tag, Statement (.getSupportedLogs h tag) := fun _ _ => of_tag_only rfl rfl
theorem getLog : ∀ h tag vendor off len, Statement (.getLog h tag vendor off len) := fun _ _ _ _ _ => of_tag_only rfl rfl
theorem unsupportedCommand : ∀ h tag cmd, Statement (.unsupportedCommand h tag cmd) := fun _ _ _ => of_tag rfl rfl
theorem getJaricaInfo : ∀ h tag era, Statement (.getJaricaInfo h tag era) := fun _ _ _ => of_tag rfl rfl
theorem openSession : ∀ h tag era, Statement (.openSession h tag era) := fun _ _ _ => of_tag rfl rfl
theorem getJournal : ∀ h tag era start max filter, Statement (.getJournal h tag era start max filter) := fun _ _ _ _ _ _ => of_tag rfl rfl
theorem stageStart : ∀ h tag era hdr sizeCheck, Statement (.stageStart h tag era hdr sizeCheck) := fun _ _ _ _ _ => of_tag rfl (by simp only [wellFormed, Bool.and_assoc]; rfl)
theorem stageData : ∀ h tag era off data good, Statement (.stageData h tag era off data good) := fun _ _ _ _ _ _ => of_tag rfl rfl
theorem stageFinish : ∀ h tag era img, Statement (.stageFinish h tag era img) := fun _ _ _ _ => of_tag rfl rfl
theorem stageAbort : ∀ h tag era, Statement (.stageAbort h tag era) := fun _ _ _ => of_tag rfl rfl
theorem stagingIdleTimeout : Statement (.stagingIdleTimeout) := of_none rfl
theorem raiseGenerationFloor : ∀ h tag era v, Statement (.raiseGenerationFloor h tag era v) := fun _ _ _ _ => of_tag rfl rfl
theorem programKeySlot : ∀ h tag era slot hash, Statement (.programKeySlot h tag era slot hash) := fun _ _ _ _ _ => of_tag rfl rfl
theorem revokeKeySlot : ∀ h tag era slot, Statement (.revokeKeySlot h tag era slot) := fun _ _ _ _ => of_tag rfl rfl
theorem readIntegratorData : ∀ h tag era inst off len, Statement (.readIntegratorData h tag era inst off len) := fun _ _ _ _ _ _ => of_tag rfl rfl
theorem saveNow : ∀ h tag era, Statement (.saveNow h tag era) := fun _ _ _ => of_tag rfl rfl
theorem setRestoreTarget : ∀ h tag era target once, Statement (.setRestoreTarget h tag era target once) := fun _ _ _ _ _ => of_tag rfl rfl
theorem releaseKeepImage : ∀ h tag era, Statement (.releaseKeepImage h tag era) := fun _ _ _ => of_tag rfl rfl
theorem releaseDrainDone : Statement (.releaseDrainDone) := of_none rfl
theorem releaseDrainTimeout : Statement (.releaseDrainTimeout) := of_none rfl
theorem raiseFirmwareFloor : ∀ h tag era v, Statement (.raiseFirmwareFloor h tag era v) := fun _ _ _ _ => of_tag rfl rfl
theorem advanceFormat : ∀ h tag era f, Statement (.advanceFormat h tag era f) := fun _ _ _ _ => of_tag rfl rfl
theorem getDiagnostics : ∀ h tag era mpa count, Statement (.getDiagnostics h tag era mpa count) := fun _ _ _ _ _ => of_tag rfl (by simp only [wellFormed, Bool.and_assoc]; rfl)
theorem setAlertEnables : ∀ h tag era v, Statement (.setAlertEnables h tag era v) := fun _ _ _ _ => of_tag rfl rfl
theorem heelRestoreTgt : ∀ v, Statement (.heelRestoreTgt v) := fun _ => of_none rfl
theorem sbWriteTransfer : ∀ addr bytes, Statement (.sbWriteTransfer addr bytes) := fun _ _ => of_none rfl
theorem sbReadTransfer : ∀ addr ptr n, Statement (.sbReadTransfer addr ptr n) := fun _ _ _ => of_none rfl
theorem sbQuickCommand : ∀ addr, Statement (.sbQuickCommand addr) := fun _ => of_none rfl
theorem sbbIndRead : ∀ late, Statement (.sbbIndRead late) := fun _ => of_none rfl
theorem sbbIndWrite : ∀ v, Statement (.sbbIndWrite v) := fun _ => of_none rfl
theorem sbHandoff : ∀ cut, Statement (.sbHandoff cut) := fun _ => of_none rfl
theorem sbClockLowTimeout : ∀ bytes, Statement (.sbClockLowTimeout bytes) := fun _ => of_none rfl
theorem alertResponseAddress : ∀ won, Statement (.alertResponseAddress won) := fun _ => of_none rfl
theorem sbAlertAssert : Statement (.sbAlertAssert) := of_none rfl
theorem sbbAlertPendClear : ∀ v, Statement (.sbbAlertPendClear v) := fun _ => of_none rfl
theorem hostNotify : ∀ acked, Statement (.hostNotify acked) := fun _ => of_none rfl
theorem hostNotifyRetry : ∀ acked, Statement (.hostNotifyRetry acked) := fun _ => of_none rfl
theorem arbitrationLost : Statement (.arbitrationLost) := of_none rfl
theorem eflHkey : ∀ v, Statement (.eflHkey v) := fun _ => of_none rfl
theorem eflUnlockTimeout : Statement (.eflUnlockTimeout) := of_none rfl
theorem eflHbuf : ∀ v, Statement (.eflHbuf v) := fun _ => of_none rfl
theorem eflRead : ∀ got, Statement (.eflRead got) := fun _ => of_none rfl
theorem eflProgram : Statement (.eflProgram) := of_none rfl
theorem eflErase : Statement (.eflErase) := of_none rfl
theorem eflBlankCheck : Statement (.eflBlankCheck) := of_none rfl
theorem eflClearBuf : Statement (.eflClearBuf) := of_none rfl
theorem eflFetch : ∀ addr stall ecc, Statement (.eflFetch addr stall ecc) := fun _ _ _ => of_none rfl
theorem eflResume : ∀ bank, Statement (.eflResume bank) := fun _ => of_none rfl
theorem eflOperationDone : ∀ bank failAt, Statement (.eflOperationDone bank failAt) := fun _ _ => of_none rfl
theorem eventRecord : ∀ code source severity data, Statement (.eventRecord code source severity data) := fun _ _ _ _ => of_none rfl
theorem foldWindowClose : ∀ code source, Statement (.foldWindowClose code source) := fun _ _ => of_none rfl
theorem evrFlush : Statement (.evrFlush) := of_none rfl
theorem evrClear : Statement (.evrClear) := of_none rfl
theorem evrFlushCmd : Statement (.evrFlushCmd) := of_none rfl
theorem loReadLatch : ∀ p a, Statement (.loReadLatch p a) := fun _ _ => of_none rfl
theorem registerWrite : ∀ p mpa v aligned, Statement (.registerWrite p mpa v aligned) := fun _ _ _ _ => of_none rfl
theorem idleFlit : ∀ k fseq ackSeq cra crb, Statement (.idleFlit k fseq ackSeq cra crb) := fun _ _ _ _ _ => of_none rfl
theorem guestRetrainExpiry : Statement (.guestRetrainExpiry) := of_none rfl
theorem eflWaitBand : ∀ vs, Statement (.eflWaitBand vs) := fun _ => of_none rfl
theorem zeroFrameFill : ∀ frame, Statement (.zeroFrameFill frame) := fun _ => of_none rfl
theorem guestL1Request : Statement (.guestL1Request) := of_none rfl

end Sys2Proof.Laws.Tags
end

