-- ==== Sys2Proof/Tests/Slice0.lean ====
section
/-! SUPPORT. Sys2Proof/Tests/Slice0.lean: small checks of the model, a term that each check of WellFormed refuses, and for each statement states that
meet its hypotheses. -/
namespace Sys2Proof.Tests
open Sys2Proof Sys2Proof.Machine

set_option Elab.async false

/-! ### Helpers: small states -/

/-- The condition `p` holds of the state `s`. -/
abbrev meets (s : State) (p : State → Prop) : Prop := p s

/-- Reset, with an operating state, some register fields and one change of the control state. -/
def st (op : OpState) (l : List (Fld × Nat) := []) (f : Ctl → Ctl := id) : State :=
  { State.reset with ctl := f (l.foldl (fun c e => setF e.1 e.2 c) { Ctl.init with op := op }) }

/-- The firmware runs, both save dies are in service, and the hub serves the sideband. -/
def alive : List (Fld × Nat) := [(Reg.HUB_DOMAIN_STATUS.CORE_RUN, 15), (Reg.HUB_DOMAIN_STATUS.S0_IN_SERVICE, 1),
  (Reg.HUB_DOMAIN_STATUS.S1_IN_SERVICE, 1), (Reg.HEEL_SB_STATUS.HUB_SERVING, 1)]

/-- A running device in an operating state. -/
def run (op : OpState) (l : List (Fld × Nat) := []) (f : Ctl → Ctl := id) : State := st op (alive ++ l) f

/-- Waking, with the steps before step `n` complete. -/
def wk (n : Nat) (l : List (Fld × Nat) := []) (f : Ctl → Ctl := id) : State :=
  run .waking l (fun c => f { c with waking := { c.waking with done := 2 ^ n - 2 } })

/-- Head 0's link is up. -/
def up0 (c : Ctl) : Ctl := { c with cxl := { c.cxl with h0 := { c.cxl.h0 with linkUp := true } } }

/-- A command leads to a next state of which a condition holds. -/
def leads (i : Instr) (s : State) (p : State → Bool) : Bool :=
  match exec i s with
  | .next t => p t
  | _ => false

/-- The lowest value of every field of the required sections. -/
def lows : List (Nat × Nat) :=
  ([1, 2, 4, 6, 8, 9, 10, 11].flatMap imgFields ++ railSlots.flatMap railFields).filterMap (fun f => if f.lo = 0 then none else some (f.key, f.lo))

/-- An image copy that passes every check: the lowest values, with those that the relations ask to be higher. -/
def refImage : ImageCopy :=
  let vals := ([(Img.VIN_RISE, 950), (Img.VIN_FALL, 900), (Img.VIN_DIV, 10000), (Img.VIN_FALL_REF, 9000), (Img.UNITS, 1024), (Img.H0_SIZE, 1024), (Img.SLOTS, 4096), (Img.UNITS_CODE, 1),
    (Img.WM_HIGH, 24),
    (Img.V_FULL, 6900), (Img.V_CUT, 5000), (Img.CELLS, 2), (Img.CHEM, 1), (Img.C_NOM, 18000), (Img.SHUNT, 500), (Img.CHG_TMAX, 45), (Img.DIS_TMAX, 60)] : List (ImgFld × Nat)).map (fun e => (e.1.key, e.2))
    ++ (List.range 21).map (fun n => ((Img.OCV n).key, 2500 + n))
  ⟨0x49435058, 1, 0x100, 65536, 1, 0x8640, true, true, 0, 0, 0, 1, true, true, true, none,
    [1, 2, 4, 6, 8, 9, 10, 11].map (fun t => ⟨t, true⟩), (lows ++ vals).foldl (fun m e => mapSet 0 m e.1 e.2) [], [], [], []⟩

/-- A directory that names two copies, and a NOR that holds one good copy. -/
def refNor : Nor :=
  let d : Directory := ⟨0x44435058, 1, 0, 0x10000, 0x10000, 0x20000, 0x10000, 0, 40, 0, 0, 3098022467⟩
  ⟨8388608, d, d, refImage, ImageCopy.erased⟩

/-- A firmware package that passes every check. -/
def refFw : FwPackage := { (⟨0x57465058, 1, 1, 1, 0, 1, 1, 1, 1, 1, 1, 0x8640, true, true, 0, 0, true, true, true, true⟩ : FwPackage) with svn := 1 }

/-- A running device with a configuration and 192 GiB. -/
def fl (op : OpState) (l : List (Fld × Nat) := []) (f : Ctl → Ctl := id) : State :=
  run op ((Reg.MEM_CAPACITY.UNITS, 768) :: l) (fun c => f { c with cfg := some refImage })
/-! ### Witnesses: states that meet the hypotheses of the statements -/

theorem met_FrontCommandRuns : meets { State.reset with pending := [.inputRise] } (fun s => s.pending = [.inputRise]) ∧ State.reset.pending = [] := by decide
theorem met_EveryCommandCompletes : touchesDram .inputRise = false ∧ meets State.reset (fun s => s.ctl.op ≠ .waking) := by decide
theorem met_StepKeepsWellFormed : memWf 0 State.reset.dram = true ∧ Rising State.reset.poison := ⟨by decide, trivial⟩
theorem met_OperatingStateMoves : step State.reset = .next (onCtl tick State.reset) := rfl
theorem met_SaveTriggers :
  meets (run .restoring) (fun s => getF Reg.HEEL_SAVE_CAUSE.LATCHED s.ctl ≠ 1 ∧ bothHeld s.ctl = false ∧ eraseRuns s.ctl = false)
  ∧ meets (run .serving) (fun s => getF Reg.HEEL_SAVE_CAUSE.LATCHED s.ctl ≠ 1 ∧ s.ctl.op = .serving ∧ eraseRuns s.ctl = false)
  ∧ meets (run .derated [] (fun c => { c with ef := { c.ef with pendingErase := 1 } })) (fun s => s.ctl.op = .derated ∧ eraseRuns s.ctl = true)
  ∧ meets (run .saving [(Reg.HEEL_SAVE_CAUSE.LATCHED, 1)]) (fun s => getF Reg.HEEL_SAVE_CAUSE.LATCHED s.ctl = 1 ∧ getF Reg.HEEL_SAVE_CAUSE.LATER s.ctl = 0)
  ∧ meets (run .keep) (fun s => getF Reg.HEEL_SAVE_CAUSE.LATCHED s.ctl ≠ 1 ∧ s.ctl.op = .keep)
  ∧ meets (run .saved) (fun s => getF Reg.HEEL_SAVE_CAUSE.LATCHED s.ctl ≠ 1 ∧ s.ctl.op = .saved) := by decide
theorem met_InputFallEndsWaking : meets (wk 6 [] (fun c => { c with heel := { c.heel with inputUp := true } }))
  (fun s => s.ctl.op = .waking ∧ s.ctl.heel.inputUp = true ∧ s.ctl.waking.failed = false ∧ s.ctl.psq.vheelLow = false) := by decide

theorem met_SupplyAndInputEvents :
  meets (st .off) (fun s => s.ctl.op = .off ∧ getF Reg.HEEL_WAKE_STATUS.RESTART_PENDING s.ctl = 0)
  ∧ meets (st .off [(Reg.HEEL_WAKE_STATUS.RESTART_PENDING, 1)]) (fun s => s.ctl.op = .off ∧ getF Reg.HEEL_WAKE_STATUS.RESTART_PENDING s.ctl = 1)
  ∧ meets State.reset (fun s => s.ctl.op ≠ .off)
  ∧ meets (st .dormant [] (fun c => { c with heel := { c.heel with inputUp := true } }))
    (fun s => s.ctl.op = .dormant ∧ s.ctl.heel.armed = true ∧ s.ctl.heel.inputUp = true ∧ getF Reg.HEEL_WAKE_CFG.AUTO_WAKE s.ctl = 1)
  ∧ meets (run .saving [] (fun c => { c with save := { c.save with image := { c.save.image with cause := 8 } } }))
    (fun s => s.ctl.op = .saving ∧ s.ctl.save.image.cause = 8)
  ∧ meets (run .saving) (fun s => s.ctl.op = .saving ∧ s.ctl.save.image.cause ≠ 8)
  ∧ meets (wk 1) (fun s => s.ctl.op = .waking) := by decide

theorem met_WakeSteps :
  meets (wk 2) (fun s => wakeOpen 2 s.ctl = true) ∧ meets (wk 8) (fun s => wakeOpen 11 s.ctl = true)
  ∧ meets (wk 1 [] (fun c => { c with psq := { c.psq with rails := [(0, { Rail.init with st := .ready }), (1, { Rail.init with st := .ready })] } }))
    (fun s => wakeOpen 1 s.ctl = true ∧ (railOf s.ctl 0).st = .ready ∧ (railOf s.ctl 1).st = .ready)
  ∧ meets (wk 8 [] (fun c => { c with guest := { c.guest with ready := true } })) (fun s => wakeOpen 10 s.ctl = true ∧ s.ctl.guest.ready = true ∧ s.ctl.waking.guestFailed = false)
  ∧ meets (wk 5 [] (fun c => { c with nor := refNor })) (fun s => wakeOpen 5 s.ctl = true ∧ s.ctl.waking.cfgBad = false
      ∧ (selectCopy (variantS s.ctl) (getF Reg.HUB_STEPPING.HUB s.ctl) (dieStepping s.ctl) s.ctl.ef.genFloor s.ctl.fuses s.ctl.nor).active = some false)
  ∧ meets (run .restoring) (fun s => s.ctl.op = .restoring ∧ wakeOpen 11 s.ctl = false) ∧ meets (run .keep) (fun s => intakeState s.ctl = true)
  ∧ meets (wk 7) (fun s => wakeCurrent 7 s.ctl = true)
  ∧ meets (wk 10 [(Reg.HUB_ID.VARIANT, 2)] (fun c => { c with cfg := some { refImage with sections := refImage.sections ++ [⟨13, true⟩] } }))
    (fun s => wakeCurrent 10 s.ctl = true ∧ guestPresent s.ctl = true ∧ s.ctl.waking.guestFailed = false ∧ s.ctl.waking.thermalHold = false)
  ∧ meets (wk 10 [(Reg.HUB_ID.VARIANT, 2)] (fun c => { c with
      cfg := some { refImage with sections := refImage.sections ++ [⟨13, true⟩] }, waking := { c.waking with thermalHold := true } }))
    (fun s => wakeCurrent 10 s.ctl = true ∧ guestPresent s.ctl = true ∧ s.ctl.waking.thermalHold = true)
  ∧ meets (wk 10) (fun s => lockReady s.ctl = true)
  ∧ meets (wk 8) (fun s => lockReady s.ctl = false ∧ wakeCurrent 7 s.ctl = false) := by decide +kernel

theorem met_DegradeAndThermal :
  meets (run .derated [(Reg.DTK_BUDGET_CFG.VALUE, 0)]) (fun s => s.ctl.op = .derated ∧ bothDies s.ctl = true ∧ effB s.ctl = getF Reg.DTK_BUDGET_CFG.VALUE s.ctl)
  ∧ meets (run .serving) (fun s => fwRunning s.ctl = true ∧ effB s.ctl < getF Reg.DTK_BUDGET_MIN.VALUE s.ctl ∧ s.ctl.op ≠ .restoring)
  ∧ meets (run .serving [] (fun c => { c with pipe := { c.pipe with q0 := [⟨.wr, 0, 0, [], 0, false, 0, false⟩] } })) (fun s => heldByBudget s.ctl .h0 = true)
  ∧ meets (wk 3) (fun s => hubPowered s.ctl = true ∧ s.ctl.op = .waking)
  ∧ meets (run .serving) (fun s => hubPowered s.ctl = true ∧ s.ctl.op ≠ .waking ∧ s.ctl.op ≠ .saving)
  ∧ meets State.reset (fun s => hubPowered s.ctl = false) := by decide

theorem met_RestartsAndResets :
  (0x5AFE : Word).toNat % 65536 = 0x5AFE ∧ (0xA5A5 : Word).toNat % 65536 = 0xA5A5 ∧ (0x5A5A : Word).toNat % 65536 = 0x5A5A
  ∧ meets (run .serving) (fun s => s.ctl.op ≠ .dormant ∧ hubPowered s.ctl = true ∧ fwRunning s.ctl = true ∧ dieInService s.ctl 1 = true)
  ∧ meets State.reset (fun s => s.ctl.op = .dormant ∧ hubPowered s.ctl = false)
  ∧ meets (run .serving [(Reg.HUB_DOMAIN_STATUS.CORE_RUN, 0)] (fun c => { c with
      waking := { c.waking with done := 4094 }, ef := { c.ef with bootSlot := 2, fw2 := some refFw } }))
    (fun s => fwRunning s.ctl = false ∧ wakeDone s.ctl 4 = true ∧ fwSlotOf s.ctl s.ctl.ef.bootSlot = some refFw ∧ fwValid s.ctl refFw = true)
  ∧ meets (run .saving) (fun s => s.ctl.op = .saving ∧ wholeDown s.ctl = none) := by decide

/-! The memory pipeline. -/

/-- A decoder that maps 4 GiB at HPA 0 to DPA 0. -/
def dec0 (c : Ctl) : Ctl := { c with cxl := { c.cxl with h0 := { c.cxl.h0 with decs := [(0, ⟨0, 4294967296, 1, 256, 0, 0⟩)] } } }
def rd0 : Req := ⟨.rd, 7, 0, [], 0, false, 0, false⟩
/-- Serving with head 0 up and decoded. -/
def mem (l : List (Fld × Nat) := []) (f : Ctl → Ctl := id) : State := run .serving l (fun c => f (dec0 (up0 c)))

theorem met_MemoryRequestsEnterTheQueue :
  m2sRequest (.memRd 0 7 0) = some (0, 0, rd0)
  ∧ meets (mem) (fun s => intakeOpen s.ctl 0 = true ∧ headCredit s.ctl 0 true = true ∧ hpaToDpa s.ctl 0 4294967295 = some (4294967295, 0))
  ∧ meets (mem [] (fun c => { c with pipe := { c.pipe with q0 := List.replicate 255 rd0 } }))
    (fun s => intakeOpen s.ctl 0 = true ∧ headCredit s.ctl 0 false = true ∧ hpaToDpa s.ctl 0 4294967296 = none)
  ∧ meets (mem [] (fun c => { c with pipe := { c.pipe with q0 := List.replicate 256 rd0 } })) (fun s => headCredit s.ctl 0 false = false)
  ∧ meets State.reset (fun s => intakeOpen s.ctl 0 = false) := by decide +kernel

/-- One read waits at head 0; both counters are at a value. -/
def waiting (n : Nat) : State := mem [(Reg.MEM_CAPACITY.UNITS, 1024), (Reg.DTK_BUDGET_FW.VALUE, 65536), (Reg.DRC_STATUS.STATE 0, 2)]
  (fun c => { c with pipe := { c.pipe with q0 := [rd0], ctr0 := n }, dtk := { c.dtk with restored := 1 } })

theorem met_GrantsAndTokens :
  meets (waiting 1) (fun s => pickSource (engines (markHeld s.ctl)) = some .h0 ∧ queueOf (engines (markHeld s.ctl)) .h0 = [rd0])
  ∧ meets (waiting 0) (fun s => pickSource (engines (markHeld s.ctl)) = none ∧ pickSource (reloadCtrs (engines (markHeld s.ctl))) = some .h0
      ∧ queueOf (reloadCtrs (engines (markHeld s.ctl))) .h0 = [rd0])
  ∧ meets State.reset (fun s => pickSource (engines (markHeld s.ctl)) = none ∧ pickSource (reloadCtrs (engines (markHeld s.ctl))) = none)
  ∧ meets (mem) (fun s => (headOf s.ctl 0).linkUp = true ∧ throttled s.ctl = true) := by decide +kernel

theorem met_ArbiterAndCommit : meets (waiting 1) (fun s => pickSource s.ctl = some .h0)
  ∧ meets (waiting 0) (fun s => pickSource s.ctl = none ∧ queueOf s.ctl .h0 = [rd0] ∧ holdReason s.ctl .h0 rd0 = 0) := by decide +kernel

theorem met_InterleaveOneToOne :
  meets (st .serving [(Reg.MEM_ILV_CFG.CH4, 1), (Reg.MEM_ILV_CFG.GRAIN, 6), (Reg.MEM_ILV_CFG.HASH, 1)])
    (fun s => fourCh s.ctl = true ∧ getF Reg.MEM_ILV_CFG.GRAIN s.ctl ≤ 6 ∧ getF Reg.MEM_ILV_CFG.HASH s.ctl = 1 ∧ (6 : Nat) < 8)
  ∧ meets State.reset (fun s => fourCh s.ctl = false ∧ getF Reg.MEM_ILV_CFG.HASH s.ctl = 0) := by decide +kernel

def rdE : REntry := ⟨0, 0, 0, .source .h0 7, 0, 0, [], 0, false⟩
def wrE : WEntry := ⟨0, 0, [], fullMask, false, 0, none, true⟩
/-- Channel 0 is active with a given content. -/
def ch0 (k : Chan) (l : List (Fld × Nat) := []) : State := run .serving ((Reg.DRC_STATUS.STATE 0, 2) :: l) (fun c => { c with chans := [(0, k)] })

theorem met_ChannelCommands :
  meets (ch0 { Chan.init with rq := [rdE] }) (fun s => chActive s.ctl 0 = true ∧ pickRead s.ctl 0 0 = some rdE)
  ∧ meets (ch0 Chan.init) (fun s => chActive s.ctl 0 = true ∧ pickRead s.ctl 0 0 = none ∧ (chanSt s.ctl 0).wq = [])
  ∧ meets (ch0 { Chan.init with wq := [wrE] }) (fun s => (chanSt s.ctl 0).wq = [wrE] ∧ getF (Reg.DRC_STATUS.BATCH 0) s.ctl ≠ 1)
  ∧ meets (ch0 { Chan.init with wcrc := [(0, 2)] } [(Reg.DRC_TOPO.WCRC_EN 0, 1)])
    (fun s => chActive s.ctl 0 = true ∧ getF (Reg.DRC_TOPO.WCRC_EN 0) s.ctl = 1 ∧ mapGet 0 (chanSt s.ctl 0).wcrc 0 + 1 = 3)
  ∧ meets (ch0 { Chan.init with wcrc := [(0, 3), (1, 6)] } [(Reg.DRC_TOPO.WCRC_EN 0, 1)])
    (fun s => mapGet 0 (chanSt s.ctl 0).wcrc 0 + 1 = 4 ∧ 7 ≤ mapGet 0 (chanSt s.ctl 0).wcrc 1 + 1)
  ∧ meets State.reset (fun s => chActive s.ctl 7 = false ∧ getF (Reg.DRC_TOPO.WCRC_EN 7) s.ctl = 0) := by decide +kernel

theorem met_WriteIssueStoresTheLine :
  meets (ch0 { Chan.init with wq := [wrE] } [(Reg.DRC_STATUS.BATCH 0, 1)]) (fun s => chActive s.ctl 0 = true ∧ pickWrite s.ctl 0 0 = some wrE)
  ∧ meets (ch0 { Chan.init with wq := [{ wrE with poison := true }] } [(Reg.DRC_STATUS.BATCH 0, 1)])
    (fun s => pickWrite s.ctl 0 0 = some { wrE with poison := true } ∧ pickWrite s.ctl 0 1 = none)
  ∧ Rising State.reset.poison := ⟨by decide +kernel, by decide +kernel, trivial⟩

theorem met_ReadsAndCorrection :
  meets (ch0 { Chan.init with issued := [rdE] }) (fun s => (chanSt s.ctl 0).issued = [rdE] ∧ rdE.who = .source (srcOfHead 0) 7 ∧ 7 < dropTag
    ∧ rdE.line ∉ s.poison ∧ (headOf s.ctl 0).pmeWait = false ∧ (headOf s.ctl 1).pmeWait = false)
  ∧ meets State.reset (fun s => (chanSt s.ctl 0).issued = []) := by decide +kernel

theorem met_OneDeviceIsCorrected : ((9 : Nat) < 10 ∧ (1 : BitVec 16) ≠ 0 ∧ (0 : Nat) ≠ 9)
  ∧ ∀ e ∈ List.range 10, mulPow e 1 ≠ 0x8000 := by decide +kernel

/-- All 80 DQ lanes of one rank, with eyes of 8 taps. -/
def lanes80 : List LaneMeas := (List.range 80).map (fun l => ⟨0, l, 0, 0, 0, 0, 8, 8⟩)

theorem met_RefreshScrubAndCalibration :
  meets (ch0 Chan.init) (fun s => chActive s.ctl 0 = true)
  ∧ meets (ch0 Chan.init [(Reg.DRC_STATUS.BATCH 0, 1), (Reg.DRC_STATUS.POSTPONED 0, 3)])
    (fun s => chActive s.ctl 0 = true ∧ getF (Reg.DRC_STATUS.BATCH 0) s.ctl = 1 ∧ postponedAll s.ctl 0 < 4)
  ∧ meets (ch0 { Chan.init with postponed := [(0, 1), (1, 3)], rq := [rdE] }) (fun s => chActive s.ctl 0 = true ∧ 4 ≤ postponedAll s.ctl 0)
  ∧ meets (ch0 Chan.init [(Reg.DRC_SCRUB_CFG.ENABLE 0, 1), (Reg.MEM_CAPACITY.UNITS, 768)])
    (fun s => getF (Reg.DRC_SCRUB_CFG.ENABLE 0) s.ctl = 1 ∧ s.ctl.op ≠ .saving ∧ 0 < linesPerChan s.ctl ∧ readRoom s.ctl 0 = true ∧ flightRoom s.ctl 1 = true)
  ∧ meets (ch0 { Chan.init with calDue := true } [(Reg.DRC_TOPO.POPULATED 0, 1)]) (fun s => calState s.ctl = true ∧ fwRunning s.ctl = true
      ∧ chPopulated s.ctl 0 = true ∧ (chanSt s.ctl 0).calDue = true ∧ runMay s.ctl 0 = true ∧ lanesFull s.ctl 0 lanes80 = true ∧ eyeBelow 8 lanes80 = false)
  ∧ meets (run .serving [(Reg.FLC_CFG.WAYS 63, 8)] (fun c => { c with cal := { c.cal with flashDue := [63] } }))
    (fun s => calState s.ctl = true ∧ flashPopulated s.ctl 63 = true ∧ 63 ∈ s.ctl.cal.flashDue ∧ flashGapNow s.ctl 63 = true)
  ∧ meets (run .serving) (fun s => calState s.ctl = true ∧ dramBusy s.ctl = false ∧ flashBusy s.ctl = false) := by decide +kernel

/-! The save. -/

/-- A save runs: four sets of 64-unit slots, slot 0 filled, and die 0 has started with what it has fetched and programmed. -/
def saving (d : DieSave) (f : Ctl → Ctl := id) : State :=
  run .saving [(Reg.SAV_LAST_CFG.SETS, 4), (Reg.SAV_LAST_CFG.SLOTS, 4), (Reg.SAV_LAST_CFG.UNITS, 1)]
    (fun c => f { c with save := { c.save with snap := 1, die0 := { d with started := true } } })

/-- A save fetch of unit 1 of row 0 of set 0 that has read all its lines. -/
def sfetch0 : Fetch := ⟨0, .save, 0, unitKey 0 0 1, 0, 1024, 1024, 1024, ⟨[], []⟩⟩

theorem met_SaveDies :
  meets (run .saving) (fun s => s.ctl.op = .saving ∧ dieInService s.ctl 0 = true ∧ wholeDown s.ctl = none ∧ (dieSave s.ctl 0).started = false)
  ∧ meets (saving DieSave.init) (fun s => saveRuns s.ctl 0 = true ∧ (dieSave s.ctl 0).fill = none ∧ nextFetch s.ctl 0 = none)
  ∧ meets (saving { DieSave.init with fill := some 1 }) (fun s => saveRuns s.ctl 0 = true ∧ nextFetch s.ctl 0 = some (0, 0))
  ∧ meets (saving { DieSave.init with requested := [unitKey 0 0 1] } (fun c => { c with pipe := { c.pipe with fetches := [sfetch0] } })) (fun s => saveRuns s.ctl 0 = true
      ∧ (dieSave s.ctl 0).requested.find? (fun k => !(dieSave s.ctl 0).fetched.contains k) = some (unitKey 0 0 1)
      ∧ saveFetch s.ctl 0 (unitKey 0 0 1) = some sfetch0 ∧ sfetch0.complete = true)
  ∧ meets (saving { DieSave.init with fetched := [unitKey 0 0 1] }) (fun s => saveRuns s.ctl 0 = true ∧ unitKey 0 0 1 ∈ (dieSave s.ctl 0).fetched
      ∧ unitKey 0 0 1 ∉ (dieSave s.ctl 0).programmed ∧ unitBefore s.ctl 0 (unitKey 0 0 1) = false
      ∧ setMember s.ctl 0 0 1 ∉ (dieSave s.ctl 0).dropped ∧ unitWay s.ctl 0 (unitKey 0 0 1) = setMember s.ctl 0 0 1)
  ∧ meets (saving { DieSave.init with fetched := [unitKey 0 0 1], tries := [(unitKey 0 0 1, (2, 1))] }) (fun s => saveRuns s.ctl 0 = true
      ∧ unitKey 0 0 1 ∈ (dieSave s.ctl 0).fetched ∧ unitKey 0 0 1 ∉ (dieSave s.ctl 0).programmed ∧ unitBefore s.ctl 0 (unitKey 0 0 1) = false
      ∧ mapFind (dieSave s.ctl 0).tries (unitKey 0 0 1) = some (2, 1))
  ∧ meets (saving { DieSave.init with fill := some 1, fetched := [unitKey 0 1 1] }) (fun s => saveRuns s.ctl 0 = true
      ∧ unitKey 0 1 1 ∈ (dieSave s.ctl 0).fetched ∧ unitBefore s.ctl 0 (unitKey 0 1 1) = true)
  ∧ meets (saving { DieSave.init with dropped := [memberWay (saving DieSave.init).ctl 0 1] }) (fun s => saveRuns s.ctl 0 = true ∧ setMember s.ctl 0 0 1 ∈ (dieSave s.ctl 0).dropped)
  ∧ meets (saving { DieSave.init with fill := some 1, programmed := (List.range 5).flatMap (fun r => (List.range 16).map (unitKey 0 r)) })
    (fun s => saveRuns s.ctl 0 = true ∧ takesSlot s.ctl 0 0 = true ∧ slotDone s.ctl 0 0 = true)
  ∧ meets State.reset (fun s => saveRuns s.ctl 1 = false ∧ s.ctl.op ≠ .saving)
  ∧ meets (wk 8 [(Reg.PRD_LK_STATUS.STATE 1, 4)]) (fun s => s.ctl.op = .waking ∧ wakeGoes s.ctl = true ∧ wakeDone s.ctl 7 = true ∧ linkLive s.ctl 1 = true)
  ∧ meets (run .serving [(Reg.PRD_LK_STATUS.STATE 0, 5), (Reg.HUB_DOMAIN_STATUS.S1_IN_SERVICE, 0)])
    (fun s => hubPowered s.ctl = true ∧ dieInService s.ctl 0 = true ∧ dieInService s.ctl 1 = false ∧ linkLive s.ctl 0 = true) := by decide +kernel

theorem met_LeaseAndSeal :
  meets (run .saving [(Reg.HEEL_LEASE.OWNER, 2), (Reg.HEEL_LEASE_GEN.GEN, 1)] (fun c => { c with save := { c.save with image := { c.save.image with recorded := true } } }))
    (fun s => s.ctl.op = .saving ∧ dieInService s.ctl 0 = true ∧ s.ctl.save.image.recorded = true ∧ getF Reg.HEEL_LEASE.OWNER s.ctl ≠ 0 + 1)
  ∧ meets (run .saving [(Reg.HEEL_LEASE.OWNER, 1), (Reg.HEEL_LEASE_GEN.GEN, 65535)] (fun c => { c with save := { c.save with image := { c.save.image with recorded := true } } }))
    (fun s => s.ctl.op = .saving ∧ dieInService s.ctl 0 = true ∧ wholeDown s.ctl = none ∧ s.ctl.save.image.recorded = true
      ∧ getF Reg.HEEL_LEASE.OWNER s.ctl = 0 + 1 ∧ getF Reg.HEEL_LEASE_GEN.GEN s.ctl ≠ 0)
  ∧ meets (saving { DieSave.init with fill := some 1 }) (fun s => saveRuns s.ctl 0 = true ∧ unitsLeft s.ctl 0 = true)
  ∧ meets (run .serving [(Reg.HEEL_LEASE.OWNER, 2)]) (fun s => hubPowered s.ctl = true ∧ getF Reg.HEEL_LEASE.OWNER s.ctl = 1 + 1)
  ∧ meets (run .serving) (fun s => hubPowered s.ctl = true ∧ getF Reg.HEEL_LEASE.OWNER s.ctl = 0 ∧ dieInService s.ctl 0 = true ∧ s.ctl.op ≠ .saving)
  ∧ meets State.reset (fun s => hubPowered s.ctl = false ∧ s.ctl.op ≠ .saving) := by decide +kernel

/-- The down order of the module has one slot left, or none. -/
def downWith (op : OpState) (left : List Nat) (l : List (Fld × Nat) := []) : State :=
  run op l (fun c => { c with psq := { c.psq with downs := [⟨.saved, left, 0, none⟩] } })

theorem met_CutoffAndDormant :
  meets (run .saving [(Reg.NRG_STATUS.BACKUP, 1)]) (fun s => getF Reg.NRG_STATUS.BACKUP s.ctl = 1 ∧ s.ctl.op = .saving ∧ wholeDown s.ctl = none)
  ∧ meets (run .serving [(Reg.NRG_STATUS.BACKUP, 1)]) (fun s => getF Reg.NRG_STATUS.BACKUP s.ctl = 1 ∧ s.ctl.op ≠ .saving)
  ∧ meets (downWith .saved []) (fun s => wholeDown s.ctl = some ⟨.saved, [], 0, none⟩ ∧ getF Reg.HEEL_WAKE_STATUS.RESTART_PENDING s.ctl = 0)
  ∧ meets (downWith .saved [] [(Reg.HEEL_WAKE_STATUS.RESTART_PENDING, 1)])
    (fun s => wholeDown s.ctl = some ⟨.saved, [], 0, none⟩ ∧ getF Reg.HEEL_WAKE_STATUS.RESTART_PENDING s.ctl = 1 ∧ s.ctl.op ≠ .waking)
  ∧ meets (downWith .saved [15]) (fun s => wholeDown s.ctl = some ⟨.saved, [15], 0, none⟩)
  ∧ meets State.reset (fun s => wholeDown s.ctl = none ∧ getF Reg.NRG_STATUS.BACKUP s.ctl = 0) := by decide +kernel

/-! Dirty tracking, the Reel cleaner, the journal and the restore. -/

/-- One frame has a record. -/
def frame0 (r : FrameRec) (c : Ctl) : Ctl := { c with dtk := { c.dtk with frames := [(0, r)] } }
/-- The 32,768 lines of frame 0 have been read for its copy. -/
def rfetch0 : Fetch := ⟨0, .reel, 0, 0, 0, 32768, 32768, 32768, ⟨[], []⟩⟩
def copy0 : Copy := ⟨0, 7, 0, none, none, false, false, 0⟩
def unit0 : CopyUnit := ⟨0, 0, ⟨[], []⟩, 0, 0, true, true, 0, none⟩

theorem met_CleanerCommands :
  meets (fl .serving [(Reg.DTK_REEL_CFG.ENABLE, 1), (Reg.DTK_REEL_CFG.INFLIGHT, 1)]
      (fun c => frame0 { FrameRec.init with base := .dirty } { c with reel := { c.reel with cold := [0], nextGroup := 7 } }))
    (fun s => reelRuns s.ctl = true ∧ fwRunning s.ctl = true ∧ getF Reg.DTK_REEL_CFG.ENABLE s.ctl = 1
      ∧ (reelCopies s.ctl).length < getF Reg.DTK_REEL_CFG.INFLIGHT s.ctl ∧ candidate s.ctl = some (0, []) ∧ (nextGroup s.ctl).isSome)
  ∧ meets State.reset (fun s => reelRuns s.ctl = false ∧ copyOf s.ctl 0 = none ∧ carryOf s.ctl 0 = none)
  ∧ meets (fl .serving [] (frame0 { FrameRec.init with base := .dirty, touch := true })) (fun s => reelRuns s.ctl = true ∧ s.ctl.reel.cold.length < 1024
      ∧ 0 < frameCount s.ctl ∧ (frameRec s.ctl s.ctl.reel.sweepPos).base = .dirty ∧ (frameRec s.ctl s.ctl.reel.sweepPos).touch = true)
  ∧ meets (fl .serving [] (frame0 { FrameRec.init with base := .dirty }))
    (fun s => (frameRec s.ctl s.ctl.reel.sweepPos).base = .dirty ∧ (frameRec s.ctl s.ctl.reel.sweepPos).touch = false)
  ∧ meets (fl .serving [] (fun c => { c with reel := { c.reel with copies := [copy0] }, pipe := { c.pipe with fetches := [rfetch0] } }))
    (fun s => copyOf s.ctl 0 = some copy0 ∧ copy0.content = none ∧ reelRuns s.ctl = true ∧ reelFetch s.ctl 0 = some rfetch0 ∧ rfetch0.complete = true)
  ∧ meets (fl .serving [] (fun c => { c with reel := { c.reel with copies := [copy0] } })) (fun s => copyOf s.ctl 0 = some copy0 ∧ reelFetch s.ctl 0 = none)
  ∧ meets (fl .serving [] (fun c => { c with
      reel := { c.reel with copies := [{ copy0 with content := some ⟨[], []⟩ }] }, flash := { c.flash with units := [(locOf 7 0, unit0)] } }))
    (fun s => (copyOf s.ctl 0).or (carryOf s.ctl 0) = some { copy0 with content := some ⟨[], []⟩ } ∧ mapFind s.ctl.flash.units (locOf 7 0) = some unit0
      ∧ unit0.programmed = true ∧ unit0.logged = true ∧ unit0.frame = 0 ∧ canAppend s.ctl = true) := by decide +kernel

def jent : JEntry := ⟨1, 0, .copy, false, false, false, 0, 0, 0⟩
def jpage0 : JPage := ⟨[jent], 0, true, true, false, false⟩

theorem met_Journal :
  meets (fl .serving [] (fun c => { c with welt := { c.welt with openPage := [jent] } })) (fun s => s.ctl.welt.openPage ≠ [])
  ∧ meets (fl .serving [] (fun c => { c with welt := { c.welt with pages := [{ jpage0 with got1 := false }] } })) (fun s => dieInService s.ctl 1 = true
      ∧ s.ctl.welt.pages.find? (fun p => if (1 : Nat) = 0 then !p.got0 else !p.got1) = some { jpage0 with got1 := false })
  ∧ meets (fl .serving [] (fun c => { c with welt := { c.welt with pages := [jpage0] } })) (fun s => s.ctl.op ≠ .restoring ∧ restoreRuns s.ctl = false ∧ bothDies s.ctl = true
      ∧ s.ctl.welt.pages = [jpage0] ∧ jpage0.done0 = false ∧ jpage0.done1 = false ∧ jpage0.got0 = true ∧ jpage0.got1 = true)
  ∧ meets (fl .serving [(Reg.DTK_POLICY.COMPACT, 0)] (fun c => { c with weltNv := { c.weltNv with entries := [jent] } }))
    (fun s => fwRunning s.ctl = true ∧ reelRuns s.ctl = true ∧ s.ctl.welt.compact = none ∧ compactDue s.ctl = true)
  ∧ meets (fl .serving [] (fun c => { c with welt := { c.welt with compact := some c.weltNv.base } }))
    (fun s => fwRunning s.ctl = true ∧ s.ctl.welt.compact = some s.ctl.weltNv.base ∧ s.ctl.welt.compactJseq = none ∧ canAppend s.ctl = true ∧ dieInService s.ctl 1 = true)
  ∧ meets (fl .serving [] (fun c => { c with welt := { c.welt with compact := some c.weltNv.base, openPage := List.replicate 510 jent } }))
    (fun s => canAppend s.ctl = true ∧ s.ctl.welt.openPage.length < 511)
  ∧ meets (fl .restoring [] (fun c => { c with weltNv := { c.weltNv with ring := List.range 20000 } })) (fun s => canAppend s.ctl = false)
  ∧ meets State.reset (fun s => s.ctl.welt.openPage = [] ∧ dieInService s.ctl 0 = false ∧ s.ctl.welt.openPage.length < 511) := by decide +kernel

theorem met_BudgetCommands :
  meets (fl .serving [] (fun c => { c with dtk := { c.dtk with fwAt := some 0 } })) (fun s => fwRunning s.ctl = true ∧ s.ctl.dtk.fwAt ≠ none
      ∧ budgetNow s.ctl ≤ getF Reg.DTK_BUDGET_FW.VALUE s.ctl ∧ getF Reg.DTK_BUDGET_AGE.STALE s.ctl = 0)
  ∧ meets (fl .serving [(Reg.DTK_SOLE.READY, 65536), (Reg.NRG_E_USE.E_USE, 16777215), (Reg.DTK_SAVE_POWER.WATTS, 20), (Reg.SAV_TIMING.T_C, 1)]
      (fun c => { c with dtk := { c.dtk with fwAt := some 0, raiseMin := some 65536 } })) (fun s => fwRunning s.ctl = true ∧ s.ctl.dtk.fwAt ≠ none
      ∧ getF Reg.DTK_BUDGET_FW.VALUE s.ctl < budgetNow s.ctl ∧ s.ctl.dtk.raiseMin = some 65536)
  ∧ meets State.reset (fun s => fwRunning s.ctl = false ∧ s.ctl.dtk.fwAt = none)
  ∧ meets (fl .serving [(Reg.DTK_SOLE.READY, 65536), (Reg.NRG_E_USE.E_USE, 16777215), (Reg.DTK_SAVE_POWER.WATTS, 20), (Reg.SAV_TIMING.T_C, 1)]
      (fun c => { c with dtk := { c.dtk with fwAt := some 0 } })) (fun s => getF Reg.DTK_BUDGET_FW.VALUE s.ctl < budgetNow s.ctl)
  ∧ meets (fl .serving [(Reg.DTK_BUDGET_AGE.STALE, 1)] (fun c => { c with dtk := { c.dtk with fwAt := some 0 } }))
    (fun s => getF Reg.DTK_BUDGET_AGE.STALE s.ctl = 1 ∧ (reelRuns s.ctl || s.ctl.op == .restoring) = true)
  ∧ meets (fl .restoring) (fun s => reelRuns s.ctl = false ∧ (reelRuns s.ctl || s.ctl.op == .restoring) = true ∧ dieInService s.ctl 1 = true)
  ∧ meets (run .serving) (fun s => reelRuns s.ctl = true ∧ noUnit s.ctl = true ∧ dieInService s.ctl 1 = true) := by decide +kernel

/-- Restoring at a step. -/
def rst (n : Nat) (l : List (Fld × Nat) := []) (f : Ctl → Ctl := id) : State :=
  run .restoring l (fun c => f { c with restore := { c.restore with step := n } })

theorem met_RestoreSteps :
  meets (rst 0 [] (fun c => { c with restore := { c.restore with resume := 1 } })) (fun s => s.ctl.op = .restoring ∧ fwRunning s.ctl = true ∧ s.ctl.restore.resume ≠ 0)
  ∧ meets (rst 0) (fun s => s.ctl.op = .restoring ∧ fwRunning s.ctl = true ∧ s.ctl.restore.resume = 0 ∧ s.ctl.restore.step = 0)
  ∧ meets (rst 1) (fun s => s.ctl.restore.resume = 0 ∧ s.ctl.restore.step = 1)
  ∧ meets (rst 2) (fun s => s.ctl.op = .restoring ∧ fwRunning s.ctl = true ∧ s.ctl.restore.step = 2 ∧ formattedNow s.ctl = false)
  ∧ meets (rst 2 [(Reg.SAV_SD_TABLES.FORMATTED 0, 1), (Reg.SAV_SD_TABLES.FORMATTED 1, 1)]) (fun s => s.ctl.restore.resume = 0 ∧ s.ctl.restore.step = 2
      ∧ formattedNow s.ctl = true ∧ s.ctl.welt.compact = none)
  ∧ meets (rst 3) (fun s => s.ctl.restore.step = 3 ∧ s.ctl.restore.target = 0 ∧ s.ctl.restore.want = 0)
  ∧ meets (rst 3 [] (fun c => { c with restore := { c.restore with want := 2 } })) (fun s => s.ctl.restore.resume = 0 ∧ s.ctl.restore.step = 3
      ∧ s.ctl.restore.target = 0 ∧ s.ctl.restore.want ≠ 0 ∧ grpPresent s.ctl = false)
  ∧ meets (rst 3 [(Reg.HEEL_COMMITTED.VALUE, 4)] (fun c => { c with
      restore := { c.restore with want := 1 }, cfg := some { refImage with sections := [⟨12, true⟩] } })) (fun s => s.ctl.restore.resume = 0
      ∧ s.ctl.restore.step = 3 ∧ s.ctl.restore.target = 0 ∧ s.ctl.restore.want = 1 ∧ grpPresent s.ctl = true ∧ committedEpoch s.ctl ≠ 0)
  ∧ meets (rst 4) (fun s => s.ctl.restore.step = 4) ∧ meets (rst 5) (fun s => s.ctl.op = .restoring ∧ fwRunning s.ctl = true ∧ s.ctl.restore.resume = 0 ∧ s.ctl.restore.step = 5
    ∧ (∀ n, n < 8 → chFailed s.ctl n = false) ∧ ∀ x ∈ s.ctl.heel.temps, x ≤ 105)
  ∧ meets (rst 6) (fun s => s.ctl.restore.resume = 0 ∧ 6 ≤ s.ctl.restore.step) := by decide +kernel

theorem met_RestoreFetches :
  meets (rst 7 [] (fun c => { c with restore := { c.restore with map := [(0, ⟨1, 0, false⟩)] } })) (fun s => s.ctl.op = .restoring ∧ fwRunning s.ctl = true
      ∧ 7 ≤ s.ctl.restore.step ∧ dieInService s.ctl 0 = true ∧ (bgList s.ctl 0).length < 31 ∧ nextBg s.ctl 0 = some 0)
  ∧ meets (rst 7 [] (fun c => { c with restore := { c.restore with touch0 := some 0 } }))
    (fun s => touchSlot s.ctl 0 = some 0 ∧ touchGot s.ctl 0 = false ∧ fetchRuns s.ctl 0 = true ∧ dieInService s.ctl 0 = true)
  ∧ meets (rst 7 [(Reg.DTK_BUDGET_CFG.VALUE, 0)]) (fun s => s.ctl.op = .restoring ∧ s.ctl.restore.step = 7 ∧ allRestored s.ctl = true ∧ s.ctl.images.newest = none
      ∧ s.ctl.images.carried = none ∧ effB s.ctl = getF Reg.DTK_BUDGET_CFG.VALUE s.ctl ∧ bothDies s.ctl = true)
  ∧ meets (rst 7 [(Reg.DTK_BUDGET_CFG.VALUE, 9), (Reg.DTK_BUDGET_MIN.VALUE, 0)]) (fun s => s.ctl.restore.step = 7 ∧ allRestored s.ctl = true ∧ s.ctl.images.newest = none ∧ s.ctl.images.carried = none
      ∧ effB s.ctl ≠ getF Reg.DTK_BUDGET_CFG.VALUE s.ctl ∧ getF Reg.DTK_BUDGET_MIN.VALUE s.ctl ≤ effB s.ctl)
  ∧ meets (rst 7 [(Reg.MEM_CAPACITY.UNITS, 768)]) (fun s => s.ctl.op = .restoring ∧ allRestored s.ctl = false)
  ∧ meets (rst 7 [(Reg.MEM_CAPACITY.UNITS, 768)] (fun c => { c with restore := { c.restore with bg1 := [98303] } }))
    (fun s => fetchRuns s.ctl 98303 = true ∧ 98303 ∈ bgList s.ctl 1 ∧ 98303 < frameCount s.ctl)
  ∧ meets (rst 7 [(Reg.MEM_CAPACITY.UNITS, 768)] (fun c => { c with restore := { c.restore with bg1 := [98305], shadowLeft := [1] } }))
    (fun s => fetchRuns s.ctl 98305 = true ∧ 98305 ∈ bgList s.ctl 1 ∧ frameCount s.ctl ≤ 98305 ∧ 1 ∈ s.ctl.restore.shadowLeft)
  ∧ meets (run .saving [(Reg.MEM_CAPACITY.UNITS, 768)] (fun c => { c with restore := { c.restore with step := 7 }, save := { c.save with complete := [5] } }))
    (fun s => s.ctl.op = .saving ∧ 5 ∈ s.ctl.save.complete ∧ 7 ≤ s.ctl.restore.step ∧ 5 < frameCount s.ctl ∧ hubFrame s.ctl 5 = true ∧ s.ctl.dtk.restored.testBit 5 = false)
  ∧ meets (rst 7 [] (fun c => { c with restore := { c.restore with touch1 := some 0, touchGot1 := true } }))
    (fun s => touchSlot s.ctl 1 = some 0 ∧ touchGot s.ctl 1 = true ∧ fetchRuns s.ctl 0 = true)
  ∧ meets (rst 7 [(Reg.MEM_CAPACITY.UNITS, 768)]) (fun s => s.ctl.op = .restoring ∧ 7 ≤ s.ctl.restore.step ∧ 98303 < frameCount s.ctl
      ∧ hubFrame s.ctl 98303 = true ∧ s.ctl.dtk.restored.testBit 98303 = false ∧ fwRunning s.ctl = true ∧ flashLeft s.ctl = false)
  ∧ meets State.reset (fun s => s.ctl.op ≠ .restoring ∧ restoreRuns s.ctl = false ∧ touchSlot s.ctl 0 = none ∧ 0 ∉ s.ctl.restore.bg0 ∧ 0 ∉ s.ctl.restore.bg1) := by and_intros <;> decide +kernel

/-! The Awl engines. -/

/-- A flash state in which way 0 of channel 0 and way 0 of channel 63 are idle, their channels ready. -/
def awl (w : Way) (l : List (Fld × Nat) := []) (f : Ctl → Ctl := id) : State :=
  fl .serving ((Reg.FLC_STATUS.STATE 0, 2) :: (Reg.FLC_STATUS.STATE 63, 2) :: l) (fun c => f { c with
    flash := { c.flash with ways := [(0, { w with state := 1 }), (504, { w with state := 1 })] } })
def args0 : DescArgs := ⟨0, true, 6, 0, 255, 0, 0, 16, none⟩
def desc0 (o : AwlOp) : Desc := ⟨o, 1, 0, 0, 0, true, 0, 1, 0, false, none⟩
def busy0 (o : AwlOp) : Way := { Way.init with running := some (desc0 o) }

theorem met_DescriptorsEnterTheQueue :
  meets (awl Way.init) (fun s => awlRequest s.ctl (.read 63 args0) = some (63, args0, .read, true) ∧ descOk s.ctl 63 .read args0 = true
    ∧ canTake s.ctl (wayKey 63 0) (descOf .read args0 s.ctl) = true)
  ∧ meets (awl Way.init) (fun s => awlRequest s.ctl (.read 63 { args0 with count := 17 }) = some (63, { args0 with count := 17 }, .read, false)
    ∧ descOk s.ctl 63 .read { args0 with block := 256 } = false ∧ descOk s.ctl 63 .read { args0 with frame := some 1 } = false ∧ canTake s.ctl (wayKey 1 0) (descOf .read args0 s.ctl) = false) := by decide +kernel

theorem met_OperationsEnd :
  meets (awl Way.init) (fun s => descOk s.ctl 0 .erase { args0 with cls := 7 } = true ∧ mayErase s.ctl 0 0 = true ∧ canTake s.ctl 0 (desc0 .erase) = true ∧ (blockAt s.ctl 0 0).cause = 0
    ∧ (blockAt s.ctl 0 0).erases + 1 < 0xFFFFF)
  ∧ meets (awl Way.init [] (fun c => { c with flash := { c.flash with sole := [(soleKey 0 false, ⟨[5], []⟩)] } }))
    (fun s => flashRuns s.ctl = true ∧ nextErase s.ctl (wayKey 0 0) false = some 5 ∧ s.ctl.save.lastB = false)
  ∧ meets (awl Way.init [] (fun c => { c with flash := { c.flash with sole := [(soleKey 0 true, ⟨[5], []⟩)] } }))
    (fun s => nextErase s.ctl (wayKey 0 0) s.ctl.save.lastB = none ∧ flashRuns s.ctl = true ∧ nextErase s.ctl (wayKey 0 0) (!s.ctl.save.lastB) = some 5
      ∧ (soleList s.ctl (wayKey 0 0) true).entries[0]? = some 5 ∧ setHeld s.ctl true = false)
  ∧ meets (awl Way.init [] (fun c => updBlock 0 5 (fun b => { b with erased := true }) { c with flash := { c.flash with sole := [(soleKey 0 true, ⟨[5], []⟩)] } }))
    (fun s => flashRuns s.ctl = true ∧ (soleList s.ctl (wayKey 0 0) true).entries[0]? = some 5 ∧ setHeld s.ctl true = false
      ∧ (blockAt s.ctl (wayKey 0 0) 5).erased = true)
  ∧ meets State.reset (fun s => flashRuns s.ctl = false ∧ (wayAt s.ctl 511).running = none ∧ mayErase s.ctl 0 0 = true
      ∧ canTake s.ctl 0 (desc0 .erase) = false ∧ (soleList s.ctl (wayKey 0 0) true).entries[0]? = none)
  ∧ meets (awl (busy0 .read)) (fun s => (wayAt s.ctl (wayKey 63 0)).running = some (desc0 .read) ∧ (wayAt s.ctl (wayKey 63 0)).timedOut = false)
  ∧ meets (awl (busy0 .programUnit)) (fun s => (wayAt s.ctl (wayKey 0 0)).running = some (desc0 .programUnit))
  ∧ meets (awl (busy0 .erase)) (fun s => (wayAt s.ctl (wayKey 0 0)).running = some (desc0 .erase))
  ∧ meets (awl (busy0 .eraseCheck)) (fun s => (wayAt s.ctl (wayKey 0 0)).running = some (desc0 .eraseCheck) ∧ (blockAt s.ctl (wayKey 0 0) 0).pool = 0)
  ∧ meets (awl { busy0 .read with timedOut := true }) (fun s => (wayAt s.ctl (wayKey 0 0)).timedOut = true ∧ s.ctl.op ≠ .saving)
  ∧ meets (run .saving [] (fun c => { c with flash := { c.flash with ways := [(0, { busy0 .read with timedOut := true })] } }))
    (fun s => (wayAt s.ctl (wayKey 0 0)).running = some (desc0 .read) ∧ (wayAt s.ctl (wayKey 0 0)).timedOut = true ∧ s.ctl.op = .saving) := by decide +kernel

/-- A superblock of group 0. -/
def sb0 (pages : Nat) (closed : Bool) : Superblock := ⟨0, 0, List.replicate 16 0, pages, 0, closed, false⟩

theorem met_FlashHousekeeping :
  meets (awl Way.init [] (fun c => { c with flash := { c.flash with sbs := [(3, sb0 89 false)] } }))
    (fun s => flashRuns s.ctl = true ∧ openSb s.ctl 0 false = some (3, sb0 89 false) ∧ (89 : Nat) % rowPages s.ctl ≠ 0)
  ∧ meets (awl Way.init [] (fun c => { c with flash := { c.flash with sbs := [(3, sb0 90 true)], ways := [(0, { Way.init with state := 2 })] } }))
    (fun s => flashRuns s.ctl = true ∧ dieInService s.ctl 0 = true ∧ groupExists s.ctl 0 = true ∧ groupFailed s.ctl 0 = true ∧ emptiest s.ctl 0 = some 3)
  ∧ meets (awl Way.init [] (fun c => { c with
      cfg := some { refImage with vals := mapSet 0 refImage.vals Img.WEAR_SPREAD.key 1 }
      flash := { c.flash with sbs := [(3, sb0 90 true)], blocks := (List.range 255).map (fun b => (b + 1, { BlockRec.init with erases := 2 })) } }))
    (fun s => flashRuns s.ctl = true ∧ dieInService s.ctl (wayDie 0) = true ∧ cfgF s.ctl Img.WEAR_SPREAD < spread s.ctl 0 ∧ 0 ∈ copyBlocks s.ctl 0
      ∧ (∀ y ∈ copyBlocks s.ctl 0, y ≠ 0 → (blockAt s.ctl 0 0).erases < (blockAt s.ctl 0 y).erases) ∧ sbOfBlock s.ctl 0 0 = some (3, sb0 90 true)
      ∧ 3 ∉ s.ctl.flash.reclaiming)
  ∧ meets (awl Way.init) (fun s => flashRuns s.ctl = true ∧ dieInService s.ctl 1 = true ∧ openSb s.ctl 0 false = none ∧ (wayAt s.ctl 0).state = 1
      ∧ wayFailed s.ctl 0 = false ∧ (youngest s.ctl 0).isSome ∧ spread s.ctl 0 ≤ cfgF s.ctl Img.WEAR_SPREAD)
  ∧ meets (awl Way.init [(Reg.SAV_SD_TABLES.LOG_PCT 1, 51)]) (fun s => flashRuns s.ctl = true ∧ 50 < getF (Reg.SAV_SD_TABLES.LOG_PCT 1) s.ctl)
  ∧ meets (awl Way.init [(Reg.SAV_SD_TABLES.LOG_PCT 1, 50)]) (fun s => getF (Reg.SAV_SD_TABLES.LOG_PCT 1) s.ctl ≤ 50)
  ∧ meets (awl Way.init [(Reg.FLC_STATUS.STATE 63, 4)] (fun c => { c with flash := { c.flash with trainFails := [(63, 1)] } }))
    (fun s => flashRuns s.ctl = true ∧ flcState s.ctl 63 = 4 ∧ urgentPending s.ctl 63 = false ∧ mapGet 0 s.ctl.flash.trainFails 63 < 2)
  ∧ meets (awl Way.init [(Reg.FLC_STATUS.STATE 63, 4)] (fun c => { c with flash := { c.flash with trainFails := [(63, 2)] } }))
    (fun s => flcState s.ctl 63 = 4 ∧ 2 ≤ mapGet 0 s.ctl.flash.trainFails 63)
  ∧ meets State.reset (fun s => flashRuns s.ctl = false) := by decide +kernel

/-! Groups, pulses and module time. -/

/-- A member of a group, with a session open on head 0 and firmware that runs. -/
def grp (m : Nat) (l : List (Fld × Nat) := []) (f : Ctl → Ctl := id) : State :=
  run .serving ([(Reg.EPG_GROUP_ID.GROUP_ID, 9), (Reg.EPG_IDS.MODULE_ID, 5), (Reg.HEEL_GRP.LEVEL, 1), (Reg.EPG_STATE.MEMBER, m), (Reg.HEEL_GRP.INC_VALID, 1),
    (Reg.HEEL_GRP.INCARNATION, 65535)] ++ l) (fun c => f (up0 { c with
      cfg := some { refImage with sections := ⟨12, true⟩ :: refImage.sections }
      ef := { c.ef with fw1 := some refFw }
      mbx := { c.mbx with open0 := true, fwSlot := 1 } }))

theorem met_GroupMessages :
  meets (grp 1) (fun s => vendorRuns s.ctl 0 7 0 anyState false = true ∧ joinChecks ⟨9, 0, 1, 5, 0, 0, false⟩ s.ctl = none
    ∧ joinRepeated ⟨9, 0, 1, 5, 0, 0, false⟩ s.ctl = false ∧ incNewer 0 s.ctl = true ∧ framesPending s.ctl = false ∧ epochHigh s.ctl ≤ 0)
  ∧ meets (grp 2) (fun s => grpChecks false true ⟨9, 65535, 1, 5, 1, 0, false⟩ s.ctl = none ∧ closeReason 1 s.ctl = none ∧ closeReason 0 s.ctl = some 6
    ∧ grpTarget false ⟨9, 65535, 1, 5, 1, 0, false⟩ s.ctl = none ∧ grpChecks false false ⟨9, 0, 1, 5, 1, 0, false⟩ s.ctl = some 3)
  ∧ meets (grp 2 [(Reg.EPG_STATE.UNRESOLVED, 1), (Reg.EPG_SEALED.VALUE, 1)]) (fun s => grpChecks false false ⟨9, 65535, 1, 5, 1, 0, false⟩ s.ctl = none
    ∧ committedEpoch s.ctl < 1 ∧ 1 = sealedEpoch s.ctl ∧ unresolved s.ctl = true ∧ getF Reg.EPG_STATE.ABORTED s.ctl = 0)
  ∧ meets (grp 2 [(Reg.HEEL_GRP.LEVEL, 0)]) (fun s => grpChecks true true ⟨9, 65535, 1, 5, 1, 0, false⟩ s.ctl = none ∧ 1 ≠ getF Reg.HEEL_GRP.LEVEL s.ctl
    ∧ getF Reg.HEEL_GRP.FORMAT s.ctl ≤ 1 ∧ s.ctl.mbx.provEnd = none ∧ framesPending s.ctl = false ∧ unresolved s.ctl = false) := by decide +kernel

/-- The host has enabled PTM on head 0. -/
def ptmOn (c : Ctl) : Ctl := { c with cxl := { c.cxl with h0 := { c.cxl.h0 with host := { c.cxl.h0.host with ptm := true } } } }

/-- A pulse receiver or source with a period of 1 ms. -/
def pulse (state : Nat) (l : List (Fld × Nat) := []) (f : Ctl → Ctl := id) : State :=
  grp 2 ([(Reg.EPG_CFG.PERIOD_MS, 1), (Reg.EPG_PULSE.STATE, state)] ++ l) f

theorem met_PulseAndModuleTime :
  meets (pulse 2) (fun s => pulseLive s.ctl = true ∧ pulseState s.ctl = 2 ∧ pulsePeriod s.ctl ≠ 0 ∧ pulseDist 1001000 s.ctl ≤ 1000
    ∧ closeReason (pulseNearest 1001000 s.ctl).1 s.ctl = none ∧ s.ctl.epg.faults < 2)
  ∧ meets (pulse 2) (fun s => 1000 < pulseDist 1250001 s.ctl ∧ pulsePeriod s.ctl / 4 < pulseDist 1250001 s.ctl)
  ∧ meets (pulse 2) (fun s => 1000 < pulseDist 1250000 s.ctl ∧ pulseDist 1250000 s.ctl ≤ pulsePeriod s.ctl / 4
    ∧ s.ctl.epg.judged ≠ some (pulseNearest 1250000 s.ctl).1 ∧ s.ctl.epg.faults < 2)
  ∧ meets (pulse 2 [] (fun c => { c with epg := { c.epg with closed := some 1, faults := 2 } }))
    (fun s => closeReason (pulseNearest 1001000 s.ctl).1 s.ctl = some 3 ∧ pulseState s.ctl = 2 ∧ 2 ≤ s.ctl.epg.faults)
  ∧ meets (pulse 1 [(Reg.EPG_PULSE.GOOD, 7)] (fun c => { c with epg := { c.epg with lastGood := some 0 } })) (fun s => pulseLive s.ctl = true
    ∧ pulseState s.ctl = 1 ∧ pulsePeriod s.ctl ≠ 0 ∧ pulseDist 1000000 s.ctl ≤ 1000 ∧ getF Reg.EPG_PULSE.GOOD s.ctl = 7
    ∧ s.ctl.epg.lastGood = some ((pulseNearest 1000000 s.ctl).2 - pulsePeriod s.ctl) ∧ pulsePeriod s.ctl ≤ (pulseNearest 1000000 s.ctl).2)
  ∧ meets (pulse 3 [(Reg.CLK_STATUS.VALID, 1)]) (fun s => pulseLive s.ctl = true ∧ pulseState s.ctl = 3 ∧ clkValid s.ctl = true)
  ∧ meets State.reset (fun s => pulseLive s.ctl = false ∧ pulseState s.ctl ≠ 3 ∧ clkSource s.ctl = 0 ∧ ptmRuns s.ctl = false)
  ∧ meets (grp 2 [(Reg.CLK_STATUS.SOURCE, 1)] (fun c => ptmOn { c with clk := { c.clk with good := 7 } })) (fun s => ptmRuns s.ctl = true
    ∧ (-1000 : Int).natAbs ≤ 1000 ∧ 7 ≤ s.ctl.clk.good ∧ 1000 < (1001 : Int).natAbs ∧ (1000000000 : Int) < 1000000001)
  ∧ meets (pulse 2 [(Reg.CLK_STATUS.SOURCE, 1)]) (fun s => clkSource s.ctl = 1 ∧ hubPowered s.ctl = true ∧ pulseState s.ctl = 2 ∧ fwRunning s.ctl = true)
  ∧ meets (pulse 1 [(Reg.CLK_STATUS.SOURCE, 3)]) (fun s => clkSource s.ctl = 3 ∧ hubPowered s.ctl = true ∧ pulseState s.ctl ≠ 2)
  ∧ meets (pulse 2 [(Reg.CLK_STATUS.SOURCE, 3)]) (fun s => clkSource s.ctl = 3 ∧ pulseState s.ctl = 2 ∧ fwRunning s.ctl = true) := by decide +kernel

/-! The energy store. -/

/-- A store with a configuration. -/
def nrg (l : List (Fld × Nat) := []) (f : Ctl → Ctl := id) : State :=
  run .serving ([(Reg.NRG_CFG.SHUNT, 500), (Reg.NRG_CFG.CHEM, 1), (Reg.NRG_CHG_CFG.I_CHG, 16), (Reg.NRG_STATUS.TEMP, 25)] ++ l) (fun c => f { c with cfg := some refImage })

theorem met_StoreMeasurement :
  meets (nrg) (fun s => hubPowered s.ctl = true ∧ s.ctl.nrg.qLo ≤ s.ctl.nrg.qHi ∧ getF Reg.NRG_CFG.SHUNT s.ctl ≠ 0 ∧ chgState s.ctl ≠ 7
    ∧ (-549755813888 : Int) ≤ s.ctl.nrg.count + (((32767 : Int) - s.ctl.nrg.offset) * 12000000 + s.ctl.nrg.rem) / (16777216 * getF Reg.NRG_CFG.SHUNT s.ctl))
  ∧ meets (nrg [] (fun c => { c with nrg := { c.nrg with gap := false } })) (fun s => s.ctl.nrg.gap = false)
  ∧ meets (nrg [(Reg.NRG_STATUS.CHG_STATE, 7)]) (fun s => hubPowered s.ctl = true ∧ chgState s.ctl = 7)
  ∧ meets (nrg [(Reg.NRG_STATUS.TEMP, 46)]) (fun s => chgTempOk 0 s.ctl = false ∧ chgOffCond s.ctl = false)
  ∧ meets (nrg [(Reg.NRG_STATUS.CHG_STATE, 6), (Reg.NRG_STATUS.TEMP, 42)]) (fun s => chgState s.ctl = 6 ∧ chgTempOk 3 s.ctl = true ∧ chgTempOk 0 s.ctl = true)
  ∧ meets (nrg [(Reg.NRG_STATUS.BACKUP, 1)]) (fun s => hubPowered s.ctl = true ∧ chgOffCond s.ctl = true)
  ∧ meets (nrg [(Reg.NRG_STATUS.RESTING, 1)]) (fun s => hubPowered s.ctl = true ∧ getF Reg.NRG_STATUS.RESTING s.ctl = 1 ∧ getF Reg.NRG_STATUS.LEARNING s.ctl ≠ 1)
  ∧ meets State.reset (fun s => hubPowered s.ctl = false ∧ getF Reg.NRG_STATUS.RESTING s.ctl ≠ 1) := by decide +kernel

theorem met_LearnCyclesAndCharger :
  meets (nrg [(Reg.NRG_STATUS.CHG_STATE, 4)] (fun c => { c with nrg := { c.nrg with rested := some ⟨0, 0, 0, 0, 0⟩ } })) (fun s => learnReady s.ctl = true)
  ∧ meets State.reset (fun s => learnReady s.ctl = false ∧ hubPowered s.ctl = false ∧ chgState s.ctl = 0 ∧ getF Reg.NRG_STATUS.ABSENT s.ctl ≠ 1)
  ∧ meets (nrg [(Reg.NRG_STATUS.LEARNING, 1)]) (fun s => getF Reg.NRG_STATUS.LEARNING s.ctl = 1 ∧ s.ctl.op ≠ .saving ∧ hubPowered s.ctl = true ∧ fwRunning s.ctl = true
    ∧ eUse s.ctl ≤ 2 * eNeed s.ctl (getF Reg.DTK_BUDGET_CFG.VALUE s.ctl))
  ∧ meets (run .saving [(Reg.NRG_STATUS.LEARNING, 1)]) (fun s => getF Reg.NRG_STATUS.LEARNING s.ctl = 1 ∧ s.ctl.op = .saving)
  ∧ meets (nrg [(Reg.NRG_STATUS.BACKUP, 1)]) (fun s => chgState s.ctl ≠ 7 ∧ chgTempOk 0 s.ctl = true ∧ chgOffCond s.ctl = true)
  ∧ meets (nrg [(Reg.NRG_STATUS.CHG_STATE, 2), (Reg.NRG_CTRL.CHG_LIMIT, 1)]) (fun s => chgState s.ctl = 2 ∧ chgTempOk 0 s.ctl = true ∧ chgOffCond s.ctl = false
    ∧ getF Reg.NRG_CTRL.CHG_LIMIT s.ctl ≠ 0)
  ∧ meets (nrg [(Reg.NRG_STATUS.CHG_STATE, 3)]) (fun s => chgState s.ctl = 3 ∧ chgTempOk 0 s.ctl = true ∧ chgOffCond s.ctl = false)
  ∧ meets (nrg [(Reg.NRG_STATUS.CHG_STATE, 5)]) (fun s => chgState s.ctl = 5 ∧ chgOffCond s.ctl = false)
  ∧ meets (nrg [(Reg.NRG_STATUS.CHG_STATE, 7), (Reg.NRG_EVENTS.OV_TRIPS, 3)]) (fun s => chgState s.ctl = 7 ∧ getF Reg.NRG_EVENTS.OV_TRIPS s.ctl ≤ 3 ∧ getF Reg.NRG_STATUS.ABSENT s.ctl = 0)
  ∧ meets (nrg [(Reg.NRG_STATUS.ABSENT, 1)]) (fun s => getF Reg.NRG_STATUS.ABSENT s.ctl = 1 ∧ chgState s.ctl ≠ 7) := by decide +kernel

/-! The power sequencer. -/

/-- Waking after W5 with one rail slot in a state. -/
def rail (n : Nat) (r : Rail) (l : List (Fld × Nat) := []) (f : Ctl → Ctl := id) : State :=
  wk 6 l (fun c => f { c with psq := { c.psq with rails := [(n, r)] } })

theorem met_RailsUpAndDown :
  meets (rail 2 { Rail.init with aborted := true, fallen := true } [] (fun c => { c with psq := { c.psq with up := [2] } })) (fun s => s.ctl.psq.up = [2]
    ∧ (railOf s.ctl 2).aborted = true ∧ (railOf s.ctl 2).fallen = true)
  ∧ meets (rail 2 Rail.init [] (fun c => { c with psq := { c.psq with up := [2, 3] } })) (fun s => s.ctl.op = .waking ∧ wakeDone s.ctl 5 = true
    ∧ getF Reg.PSQ_STATUS.ORDER_HELD s.ctl = 0 ∧ allSlots.any (slotRising s.ctl) = false ∧ s.ctl.psq.up = [2, 3] ∧ (railOf s.ctl 2).aborted = false)
  ∧ meets (rail 15 { Rail.init with st := .inrush }) (fun s => (railOf s.ctl 15).st = .inrush)
  ∧ meets (rail 0 { Rail.init with st := .ramp }) (fun s => (railOf s.ctl 0).st = .ramp ∧ s.ctl.op = .waking ∧ vsBelow (railCfg s.ctl 0) 950 = false
    ∧ vsAbove (railCfg s.ctl 0) 1050 = false ∧ vsBelow (railCfg s.ctl 0) 949 = true ∧ vsAbove (railCfg s.ctl 0) 1051 = true)
  ∧ meets (rail 15 { Rail.init with st := .falling }) (fun s => (railOf s.ctl 15).st = .falling ∧ s.ctl.psq.deferred = [])
  ∧ meets (rail 15 { Rail.init with st := .fault, retrying := true, offElapsed := true, fallen := false }) (fun s => (railOf s.ctl 15).st = .fault ∧ (railOf s.ctl 15).retrying = true
    ∧ (railOf s.ctl 15).offElapsed = true ∧ s.ctl.psq.deferred = [] ∧ (railOf s.ctl 15).fallen = false)
  ∧ meets (rail 15 { Rail.init with st := .fault }) (fun s => (railOf s.ctl 15).st = .fault ∧ (railOf s.ctl 15).retrying = false)
  ∧ meets (rail 15 { Rail.init with st := .fault, retrying := true, fallen := true }) (fun s => (railOf s.ctl 15).retrying = true ∧ (railOf s.ctl 15).fallen = true)
  ∧ meets (rail 15 { Rail.init with st := .ready }) (fun s => (railOf s.ctl 15).st = .ready ∧ (railOf s.ctl 15).st ≠ .falling ∧ (railOf s.ctl 15).aborted = false)
  ∧ meets State.reset (fun s => s.ctl.op ≠ .waking ∧ (railOf s.ctl 15).st = .off ∧ (railOf s.ctl 15).retrying = false) := by decide +kernel

theorem met_RailFaultsAndWatchdog :
  meets (rail 15 { Rail.init with st := .ready }) (fun s => vsShows (railCfg s.ctl 0) 5 1051 = true ∧ vsShows (railCfg s.ctl 0) 5 1050 = false ∧ vsShows (railCfg s.ctl 0) 2 950 = false
    ∧ vsShows (railCfg s.ctl 15) 3 499 = true ∧ vsShows (railCfg s.ctl 15) 4 1000 = true ∧ (15 : Nat) < 16 ∧ (railOf s.ctl 15).st = .ready ∧ wholeDown s.ctl = none ∧ respRuns s.ctl = false ∧ s.ctl.psq.vheelLow = false)
  ∧ meets (rail 2 { Rail.init with st := .ramp }) (fun s => (railOf s.ctl 2).st = .ramp ∧ wholeDown s.ctl = none ∧ vsShows (railCfg s.ctl 2) 1 0 = true)
  ∧ meets (run .saved [] (fun c => { c with psq := { c.psq with rails := [(2, { Rail.init with st := .ready })], downs := [⟨.saved, [2], 0, none⟩] } }))
    (fun s => (railOf s.ctl 2).st = .ready ∧ wholeDown s.ctl ≠ none)
  ∧ meets (run .serving [] (fun c => { c with psq := { c.psq with rails := [(2, { Rail.init with st := .ready })], downs := [⟨.group 1, [5], 0, none⟩] } }))
    (fun s => (railOf s.ctl 2).st = .ready ∧ wholeDown s.ctl = none ∧ (some 4 : Option Nat) ≠ none ∧ respRuns s.ctl = true)
  ∧ meets (rail 15 Rail.init [] (fun c => { c with psq := { c.psq with cfgs := [(15, { RailCfg.init with response := 1, retries := 1 })] } }))
    (fun s => (railCfg s.ctl 15).response = 1 ∧ s.ctl.op = .waking ∧ (railOf s.ctl 15).retriesUsed < (railCfg s.ctl 15).retries)
  ∧ meets (run .serving [(Reg.PSQ_WDI_STATUS.STATE, 1), (Reg.PSQ_WDI_CFG.RESPONSE, 2), (Reg.PSQ_WDI_STATUS.RESTARTS, 2)])
    (fun s => getF Reg.PSQ_WDI_STATUS.STATE s.ctl ≠ 0 ∧ s.ctl.psq.wdiMissed = false ∧ getF Reg.PSQ_WDI_CFG.RESPONSE s.ctl = 2 ∧ getF Reg.PSQ_WDI_STATUS.RESTARTS s.ctl < 3)
  ∧ meets (run .serving [(Reg.PSQ_WDI_STATUS.STATE, 2), (Reg.PSQ_WDI_CFG.RESPONSE, 2), (Reg.PSQ_WDI_STATUS.RESTARTS, 3)])
    (fun s => getF Reg.PSQ_WDI_STATUS.STATE s.ctl ≠ 0 ∧ s.ctl.psq.wdiMissed = false ∧ 3 ≤ getF Reg.PSQ_WDI_STATUS.RESTARTS s.ctl)
  ∧ meets (run .serving [(Reg.HEEL_RLOG_STATUS.HOLD_READY, 1)] (fun c => { c with psq := { c.psq with ring := [railRec 1 3 (some 2) c] } }))
    (fun s => getF Reg.HEEL_RLOG_STATUS.HOLD_READY s.ctl = 1 ∧ s.ctl.psq.ring ≠ [] ∧ s.ctl.psq.vheelLow = false)
  ∧ meets State.reset (fun s => getF Reg.PSQ_WDI_STATUS.STATE s.ctl = 0) := by decide +kernel

/-! Perud and the guest port. -/

/-- A configuration with a guest section. -/
def guestCfg : ImageCopy := { refImage with sections := ⟨13, true⟩ :: refImage.sections }

/-- A link in a state, with a guest port that is open. -/
def prd (k : Nat) (n : Nat) (l : List (Fld × Nat) := []) (f : Ctl → Ctl := id) (op : OpState := .serving) : State :=
  run op ((Reg.HUB_ID.VARIANT, 2) :: (Reg.GST_STATUS.PORT, 3) :: (Reg.GST_WIN.SIZE, 1) :: (Reg.GST_BAR.LOG2, 24) :: (Reg.PRD_LK_STATUS.STATE k, n) :: l)
    (fun c => f { c with cfg := some guestCfg, guest := { c.guest with ready := true, mreq := 4, mwr := 4, mmioCr := 4, evtCr := 4 } })
def bar0 : BarRead := ⟨7, 1, 9, 2, 0, []⟩
def bar1 : BarRead := ⟨8, 0, 9, 1, 0, []⟩

theorem met_LinkBringUp :
  meets (prd 2 1) (fun s => linkSt s.ctl 2 = 1)
  ∧ meets (prd 2 1 [] id .waking) (fun s => linkSt s.ctl 2 = 1 ∧ s.ctl.op = .waking)
  ∧ meets (prd 0 1 [] id .waking) (fun s => linkSt s.ctl 0 = 1 ∧ s.ctl.op = .waking)
  ∧ meets (prd 2 2) (fun s => linkSt s.ctl 2 = 2 ∧ helloGood 2 1 3 0 s.ctl = true ∧ helloGood 2 2 3 0 s.ctl = false)
  ∧ meets (prd 0 3) (fun s => linkSt s.ctl 0 = 3 ∧ helloGood 0 1 1 0 s.ctl = true ∧ helloGood 0 1 2 0 s.ctl = false)
  ∧ meets (prd 2 3) (fun s => 3 ≤ linkSt s.ctl 2 ∧ linkSt s.ctl 1 < 3 ∧ linkSt s.ctl 1 ≠ 1)
  ∧ meets (prd 2 4 [(Reg.GST_CREDITS.MMIO, 1), (Reg.GST_CREDITS.EVT, 4)] id .waking) (fun s => linkSt s.ctl 2 = 4 ∧ s.ctl.op = .waking ∧ s.ctl.waking.guestFailed = false
    ∧ cfgF s.ctl Img.MMIO_CREDITS_MIN ≤ getF Reg.GST_CREDITS.MMIO s.ctl ∧ 4 ≤ getF Reg.GST_CREDITS.EVT s.ctl)
  ∧ meets (prd 2 4 [(Reg.GST_CREDITS.EVT, 3)] id .waking) (fun s => linkSt s.ctl 2 = 4 ∧ s.ctl.op = .waking ∧ s.ctl.waking.guestFailed = false ∧ getF Reg.GST_CREDITS.EVT s.ctl < 4)
  ∧ meets (prd 2 4) (fun s => s.ctl.op ≠ .waking) := by decide +kernel

theorem met_GuestPortResetsAndFaults :
  meets (prd 2 4) (fun s => gstPort s.ctl ≠ 0 ∧ gstPort s.ctl ≠ 4 ∧ gstPort s.ctl ≠ 5 ∧ 4 ≤ linkSt s.ctl 2 ∧ linkLive s.ctl 2 = true ∧ s.ctl.guest.resetting = none
    ∧ s.ctl.guest.ready = true ∧ s.ctl.guest.tempAt = none ∧ eraHeld ((gstEra s.ctl + 1) % 4) s.ctl = false ∧ s.ctl.guest.ints.length < 16 ∧ (∀ r ∈ s.ctl.pipe.qg, r.op = .rd) ∧ (105 : Int) ≤ 105 ∧ (105 : Int) < 115 ∧ (104 : Int) < 105 ∧ (115 : Int) ≤ 115
    ∧ (7 : Nat) < 8 ∧ 4 ≤ (7 : Nat))
  ∧ meets (prd 2 4 [(Reg.GST_STATUS.PORT, 4)]) (fun s => gstPort s.ctl = 4 ∧ contain 3 s.ctl = s.ctl ∧ 4 ≤ linkSt s.ctl 2 ∧ (4 : Nat) ≤ 7 ∧ s.ctl.guest.resetting = none)
  ∧ meets (prd 2 4 [(Reg.GST_STATUS.PORT, 0)]) (fun s => gstPort s.ctl = 0)
  ∧ meets (prd 2 3 [(Reg.GST_STATUS.PORT, 5)]) (fun s => gstPort s.ctl = 5 ∧ linkSt s.ctl 2 < 4 ∧ linkLive s.ctl 2 = false)
  ∧ meets (prd 2 1) (fun s => linkSt s.ctl 2 ≤ 1)
  ∧ meets (prd 2 4 [] (fun c => updGuest (fun g => { g with resetting := some 2 }) c)) (fun s => s.ctl.guest.resetting ≠ none ∧ s.ctl.guest.owes = none)
  ∧ meets (prd 2 4 [] (fun c => updGuest (fun g => { g with resetting := some 2, owes := some (false, 2) }) c)) (fun s => s.ctl.guest.owes ≠ none)
  ∧ meets (prd 2 4 [] (fun c => { c with pipe := { c.pipe with parked := [⟨0, 0, .guest, ⟨.wr, 1024, 0, [], 0, false, 0, false⟩⟩] } }))
    (fun s => gstPort s.ctl ≠ 0 ∧ gstPort s.ctl ≠ 5 ∧ 4 ≤ linkSt s.ctl 2 ∧ s.ctl.guest.resetting = none ∧ eraHeld ((gstEra s.ctl + 1) % 4) s.ctl = true)
  ∧ meets (prd 2 4 [] (fun c => updGuest (fun g => { g with ints := List.replicate 16 (3, 1) }) c)) (fun s => linkLive s.ctl 2 = true ∧ gstPort s.ctl ≠ 4
    ∧ s.ctl.guest.ready = true ∧ 16 ≤ s.ctl.guest.ints.length)
  ∧ meets (prd 2 4 [(Reg.PRD_LK_STATUS.M0_UP 2, 1), (Reg.PRD_LK_STATUS.M1_UP 2, 1)]) (fun s => getF (Reg.PRD_LK_STATUS.M0_UP 2) s.ctl ≠ 0 ∧ getF (Reg.PRD_LK_STATUS.M1_UP 2) s.ctl ≠ 0)
  ∧ meets (prd 2 4 [(Reg.PRD_LK_STATUS.M1_UP 2, 1)]) (fun s => getF (Reg.PRD_LK_STATUS.M1_UP 2) s.ctl ≠ 0 ∧ getF (Reg.PRD_LK_STATUS.M0_UP 2) s.ctl = 0)
  ∧ meets (prd 0 4 [(Reg.PRD_LK_STATUS.M0_UP 0, 1)]) (fun s => getF (Reg.PRD_LK_STATUS.M0_UP 0) s.ctl ≠ 0 ∧ getF (Reg.PRD_LK_STATUS.M1_UP 0) s.ctl = 0)
  ∧ meets (prd 2 4 [] (fun c => { c with pipe := { c.pipe with qg := [⟨.wr, 1, 0, [], 0, false, 0, false⟩] } })) (fun s => linkLive s.ctl 2 = true ∧ gstPort s.ctl ≠ 4
    ∧ s.ctl.guest.ready = true ∧ ∃ r ∈ s.ctl.pipe.qg, r.op ≠ .rd) := by decide +kernel

theorem met_GuestRequests_forms :
  (guestRequestOf (.mrd 1023 0 64 3) = some (false, 1023, 0, 64, 3, .rd, [], 0, false) ∧ guestRequestOf (.mwr 0 0 268435456 0 [] true) = some (true, 0, 0, 268435456, 0, .wr, [], 0, true)
    ∧ responseOf (.data 5) = some (.dataGuest, 5)) := ⟨rfl, rfl, rfl⟩

theorem met_GuestRequests :
  meets (prd 2 4 [(Reg.HUB_DOMAIN_STATUS.GUEST_OPEN, 1)] (updGuest (fun g => { g with opened := true }))) (fun s => linkLive s.ctl 2 = true ∧ gstPort s.ctl ≠ 4
    ∧ s.ctl.guest.opened = true ∧ getF Reg.HUB_DOMAIN_STATUS.GUEST_OPEN s.ctl = 1 ∧ (1023 : Nat) < 1024 ∧ getF Reg.GST_WIN.SIZE s.ctl * 268435456 ≤ 268435456)
  ∧ meets (prd 2 4 [] (updGuest (fun g => { g with opened := true }))) (fun s => linkLive s.ctl 2 = true ∧ gstPort s.ctl ≠ 4 ∧ 0 = gstEra s.ctl
    ∧ s.ctl.guest.opened = true ∧ getF Reg.HUB_DOMAIN_STATUS.GUEST_OPEN s.ctl = 0)
  ∧ meets (prd 2 4) (fun s => ¬ (s.ctl.guest.opened = true ∧ getF Reg.HUB_DOMAIN_STATUS.GUEST_OPEN s.ctl = 0) ∧ linkLive s.ctl 2 = true ∧ gstPort s.ctl ≠ 4 ∧ 0 = gstEra s.ctl ∧ 0 < s.ctl.guest.mreq ∧ 0 < s.ctl.guest.mwr ∧ (1023 + 1024 * 0) ∉ s.ctl.guest.tids
    ∧ 268435455 < getF Reg.GST_WIN.SIZE s.ctl * 268435456 ∧ getF Reg.GST_WIN.SIZE s.ctl * 268435456 ≤ 268435456 ∧ 1 ≠ gstEra s.ctl
    ∧ s.ctl.guest.toGuest.find? (fun m => m.kind == .evt) = none ∧ s.ctl.guest.toGuest.find? (fun m => m.kind == .dataGuest && m.args.head? == some 5) = none
    ∧ barActive s.ctl = true ∧ s.ctl.guest.mmioQ = [] ∧ s.ctl.guest.toGuest = [] ∧ s.ctl.guest.mmrds.find? (fun m => m.tid == 3) = none)
  ∧ meets (prd 2 4 [] (updGuest (fun g => { g with mreq := 0, tids := [7] }))) (fun s => s.ctl.guest.mreq = 0 ∧ (7 + 1024 * 0) ∈ s.ctl.guest.tids)
  ∧ meets (prd 2 3) (fun s => linkLive s.ctl 2 = false ∧ barActive s.ctl = false)
  ∧ meets (prd 2 4 [] (updGuest (fun g => { g with tids := [5], toGuest := [⟨.link 2, .dataGuest, [5, 0], []⟩, ⟨.link 2, .cmpGuest, [6, 0], []⟩, ⟨.link 2, .evt, [0, 0, 2, 0], []⟩] })))
    (fun s => s.ctl.guest.toGuest.find? (fun m => m.kind == .dataGuest && m.args.head? == some 5) = some ⟨.link 2, .dataGuest, [5, 0], []⟩
      ∧ (5 + 1024 * 0) ∈ s.ctl.guest.tids ∧ s.ctl.guest.toGuest.find? (fun m => m.kind == .cmpGuest && m.args.head? == some 6) = some ⟨.link 2, .cmpGuest, [6, 0], []⟩
      ∧ (6 + 1024 * 0) ∉ s.ctl.guest.tids ∧ s.ctl.guest.toGuest.find? (fun m => m.kind == .evt) = some ⟨.link 2, .evt, [0, 0, 2, 0], []⟩)
  ∧ meets (prd 2 4 [] (updGuest (fun g => { g with mmioQ := [⟨some 7, 8, 255, []⟩] }))) (fun s => s.ctl.guest.mmioQ = [⟨some 7, 8, 255, []⟩] ∧ 0 < s.ctl.guest.mmioCr
      ∧ linkLive s.ctl 2 = true ∧ freeTid s.ctl = some 0)
  ∧ meets (prd 2 4 [] (updGuest (fun g => { g with mmioQ := [⟨none, 8, 255, []⟩] }))) (fun s => s.ctl.guest.mmioQ = [⟨none, 8, 255, []⟩] ∧ 0 < s.ctl.guest.mmioCr ∧ linkLive s.ctl 2 = true)
  ∧ meets (prd 2 4 [] (updGuest (fun g => { g with mmrds := [⟨63, 7, 0⟩, ⟨2, 8, 0⟩], reads := [bar0, bar1] })))
    (fun s => linkLive s.ctl 2 = true ∧ s.ctl.guest.mmrds.find? (fun m => m.tid == 63) = some ⟨63, 7, 0⟩ ∧ s.ctl.guest.reads.find? (fun r => r.id == 7) = some bar0 ∧ 1 < bar0.left
      ∧ s.ctl.guest.mmrds.find? (fun m => m.tid == 2) = some ⟨2, 8, 0⟩ ∧ s.ctl.guest.reads.find? (fun r => r.id == 8) = some bar1 ∧ bar1.left ≤ 1) := by and_intros <;> decide +kernel

theorem met_FlitsAndReplay :
  meets (prd 2 4) (fun s => linkSt s.ctl 2 ≠ 0 ∧ (linkOf s.ctl 2).dropping = false ∧ (linkOf s.ctl 2).replays < 4 ∧ 3 ≤ linkSt s.ctl 2 ∧ 0 = (linkOf s.ctl 2).rxSeq ∧ 1 ≠ (linkOf s.ctl 2).rxSeq
      ∧ flitGood [] = false)
  ∧ meets (prd 0 1 [] (updLink 0 (fun l => { l with dropping := true, replays := 4, unacked := [⟨0, true, ⟨.link 0, .hello, [], []⟩, []⟩] })))
    (fun s => linkSt s.ctl 0 ≠ 0 ∧ (linkOf s.ctl 0).dropping = true ∧ 4 ≤ (linkOf s.ctl 0).replays ∧ (linkOf s.ctl 0).unacked ≠ [] ∧ linkSt s.ctl 0 < 3)
  ∧ meets State.reset (fun s => linkSt s.ctl 1 = 0) := by decide +kernel

/-- Sleep is enabled and the conditions of R374 hold. -/
def slp (l : List (Fld × Nat)) (f : Ctl → Ctl := id) : State := prd 2 4 ((Reg.PRD_CFG.SLEEP_EN, 1) :: l) f

theorem met_SleepProtocol :
  meets (slp []) (fun s => sleepReady s.ctl = true ∧ partners s.ctl = [2])
  ∧ meets State.reset (fun s => sleepReady s.ctl = false ∧ getF Reg.PRD_SLEEP.STATE s.ctl ≠ 1 ∧ getF Reg.PRD_SLEEP.STATE s.ctl ≠ 2)
  ∧ meets (slp [(Reg.PRD_SLEEP.STATE, 1), (Reg.PRD_LK_STATUS.STATE 0, 4)]) (fun s => getF Reg.PRD_SLEEP.STATE s.ctl = 1 ∧ ∃ p ∈ partners s.ctl, p ≠ 0 ∧ p ∉ s.ctl.prd.acks)
  ∧ meets (slp [(Reg.PRD_SLEEP.STATE, 1), (Reg.PRD_LK_STATUS.STATE 0, 4)] (fun c => { c with prd := { c.prd with acks := [2] } }))
    (fun s => getF Reg.PRD_SLEEP.STATE s.ctl = 1 ∧ (∀ p ∈ partners s.ctl, p = 0 ∨ p ∈ s.ctl.prd.acks) ∧ sleepReady (setF Reg.PRD_SLEEP.STATE 0 s.ctl) = true)
  ∧ meets (slp [(Reg.PRD_SLEEP.STATE, 2)]) (fun s => getF Reg.PRD_SLEEP.STATE s.ctl = 2 ∧ s.ctl.prd.entered = false)
  ∧ meets (slp [(Reg.PRD_SLEEP.STATE, 2)] (fun c => { c with prd := { c.prd with entered := true } })) (fun s => getF Reg.PRD_SLEEP.STATE s.ctl = 2 ∧ s.ctl.prd.entered = true) := by decide +kernel

/-! The CXL heads and their mailbox. -/

/-- Serving, head 0's link up and its window of 256 MiB, with no access lock. -/
def cxl (l : List (Fld × Nat) := []) (f : Ctl → Ctl := id) (op : OpState := .serving) : State :=
  run op ((Reg.MEM_H0_WIN_SIZE.VALUE, 1) :: (Reg.MEM_CAPACITY.UNITS, 1) :: l) (fun c => f (up0 c))
def dec (d : Fin 8) (base : Nat) : Hdm := ⟨base, 268435456, 1, 256, 0, decoderStart (cxl).ctl 0 d.val 0⟩
def heads (f : Head → Head) (c : Ctl) : Ctl := updHead 0 f c
def q0one (c : Ctl) : Ctl := { c with pipe := { c.pipe with q0 := [⟨.rd, 1, 0, [], 0, false, 0, false⟩] } }

theorem met_CxlResets :
  meets (cxl) (fun s => (headOf s.ctl 0).perstLow = false ∧ portLive s.ctl = true ∧ headPresent s.ctl 0 = true ∧ (headOf s.ctl 0).linkUp = true ∧ getF (wakeDrivenFld 0) s.ctl ≤ 1)
  ∧ meets State.reset (fun s => (headOf s.ctl 0).perstLow = false ∧ portLive s.ctl = false)
  ∧ meets (cxl) (fun s => headPresent s.ctl 1 = false ∧ (headOf s.ctl 1).linkUp = false)
  ∧ meets (cxl [] (heads (fun d => { d with perstLow := true }))) (fun s => (headOf s.ctl 0).perstLow = true) := by decide +kernel

theorem met_CxlLinkEvents :
  meets (cxl) (fun s => portLive s.ctl = true ∧ (headOf s.ctl 0).linkUp = true ∧ headPresent s.ctl 0 = true ∧ s.ctl.op ≠ .waking ∧ (headOf s.ctl 0).perstLow = false
    ∧ decoderOk s.ctl 0 7 (dec 7 0) = true ∧ decoderOk s.ctl 0 7 (dec 7 1) = false ∧ getF (viralFld 0) s.ctl ≠ 1 ∧ queueOf s.ctl (srcOfHead 0) = []
    ∧ getF Reg.MEM_PORT_CFG.GPF_POLICY s.ctl ≠ 1 ∧ (headOf s.ctl 0).l23 = false ∧ headQuiet s.ctl 0 = true)
  ∧ meets (cxl [] (heads (fun d => { d with host := { d.host with aspmL1 := true } }))) (fun s => portLive s.ctl = true ∧ (headOf s.ctl 0).linkUp = true
    ∧ (headOf s.ctl 0).l23 = false ∧ headQuiet s.ctl 0 = true ∧ ioQuiet s.ctl 0 = true ∧ (headOf s.ctl 0).host.aspmL1 = true)
  ∧ meets (wk 11) (fun s => s.ctl.op = .waking ∧ wakeDone s.ctl 11 = false)
  ∧ meets (wk 12) (fun s => portLive s.ctl = true ∧ wakeDone s.ctl 11 = true ∧ headPresent s.ctl 0 = true ∧ (headOf s.ctl 0).perstLow = false
    ∧ wakeDone s.ctl 11 = true ∧ linkModeOk (twoHead s.ctl) 6 16 true true = true ∧ linkModeOk (twoHead s.ctl) 7 16 true true = false)
  ∧ meets (cxl [(viralFld 0, 1)]) (fun s => getF (viralFld 0) s.ctl = 1)
  ∧ meets (cxl [(Reg.MEM_PORT_CFG.GPF_POLICY, 1)]) (fun s => queueOf s.ctl (srcOfHead 0) = [] ∧ getF Reg.MEM_PORT_CFG.GPF_POLICY s.ctl = 1)
  ∧ meets (cxl [] q0one) (fun s => portLive s.ctl = true ∧ (headOf s.ctl 0).linkUp = true ∧ queueOf s.ctl (srcOfHead 0) ≠ [] ∧ headQuiet s.ctl 0 = false)
  ∧ meets (cxl [] (fun c => { c with cxl := { c.cxl with gpf := some 0 } })) (fun s => s.ctl.cxl.gpf ≠ none)
  ∧ meets (cxl [] (heads (fun d => { d with l23 := true }))) (fun s => (headOf s.ctl 0).l23 = true) := by decide +kernel

theorem met_CxlReadCommands :
  meets (cxl) (fun s => cxlRuns s.ctl 0 65535 = true ∧ (cxlReads s.ctl (.getShutdownState 0 65535)) = some (0, 65535, 0, leBytes (b2n s.ctl.ef.shutdownDirty) 1)
    ∧ (cxlOpenReads s.ctl (.getAlertConfiguration 0 65535)).isSome = true ∧ capBytes s.ctl < 0 + 4194305 * 64 ∧ 0 + 4194304 * 64 ≤ capBytes s.ctl ∧ s.ctl.cxl.poisonSent = none)
  ∧ meets (cxl [] (fun c => { c with cxl := { c.cxl with poisonSent := some (0, 4194304, 4094) } })) (fun s => s.ctl.cxl.poisonSent = some (0 / 64, 4194304, 4094))
  ∧ meets (cxl) (fun s => (cxlReads s.ctl (.getFwInfo 1 0)).isSome = true ∧ reachable s.ctl 1 = false)
  ∧ meets (cxl [(Reg.HUB_DOMAIN_STATUS.CORE_RUN, 0)]) (fun s => (cxlReads s.ctl (.getFwInfo 0 0)).isSome = true ∧ reachable s.ctl 0 = true ∧ fwRunning s.ctl = false) := by decide +kernel

theorem met_CxlSetCommands :
  meets (cxl [(Reg.CLK_STATUS.SOURCE, 3)]) (fun s => cxlRuns s.ctl 0 0 = true ∧ 131071 + [(1 : Byte)].length ≤ 131072 ∧ 131072 < 131072 + [(1 : Byte)].length ∧ [(1 : Byte)].length ≤ 65528
    ∧ ((logOf s.ctl 3).take 1).map evHandle ≠ [5] ∧ clkSource s.ctl ≠ 1 ∧ clkSource s.ctl ≠ 2 ∧ clkValid s.ctl = false ∧ nowNs s.ctl + 1000000000 < 1000000001 ∧ 1000000000 ≤ nowNs s.ctl + 1000000000)
  ∧ meets (cxl [(Reg.CLK_STATUS.SOURCE, 2)] (fun c => { c with cxl := { c.cxl with fail := [⟨4, 0, 0, 0, 0, 0, 0, 0, 0⟩, ⟨65539, 0, 0, 0, 0, 0, 0, 0, 0⟩] } }))
    (fun s => ((logOf s.ctl 2).take 1).map evHandle = [5] ∧ (31 : Nat).testBit 4 = true ∧ (0 : Nat).testBit 0 = false ∧ clkSource s.ctl = 2) := by decide +kernel

/-- A scan of four lines of which some have come back. -/
def scan0 (n : Nat) : Fetch := ⟨0, .scan, 0, 0, 0, 4, n, n, ⟨[], []⟩⟩

theorem met_PoisonAndErase :
  meets (cxl) (fun s => cxlRuns s.ctl 0 0 = true ∧ injectCode 268435392 s.ctl = rcSuccess ∧ injectCode 268435456 s.ctl ≠ rcSuccess ∧ injectCode 1 s.ctl ≠ rcSuccess ∧ 268435392 % 64 = 0
    ∧ 268435392 < capBytes s.ctl ∧ capBytes s.ctl ≤ 268435456 ∧ calState s.ctl = true ∧ 0 + 4194304 * 64 ≤ capBytes s.ctl ∧ s.ctl.cxl.bg = none
    ∧ memLocked s.ctl = false ∧ eraseAllowed s.ctl = true ∧ frozenSec s.ctl = false ∧ passOf s.ctl true = none)
  ∧ meets (cxl [] (fun c => { c with cxl := { c.cxl with bg := some ⟨0x4304, 0, 4, some 0⟩ }, pipe := { c.pipe with fetches := [scan0 4] } }))
    (fun s => s.ctl.cxl.bg = some ⟨0x4304, 0, 4, some 0⟩ ∧ scanFetch s.ctl = some (scan0 4) ∧ (scan0 4).complete = true)
  ∧ meets (cxl [] (fun c => { c with cxl := { c.cxl with bg := some ⟨0x4304, 0, 4, some 0⟩ }, pipe := { c.pipe with fetches := [scan0 3] } }))
    (fun s => s.ctl.cxl.bg = some ⟨0x4304, 0, 4, some 0⟩ ∧ scanFetch s.ctl = some (scan0 3) ∧ (scan0 3).complete = false ∧ s.ctl.cxl.bg ≠ none)
  ∧ meets (cxl [] (fun c => { c with cxl := { c.cxl with bg := some ⟨0x4400, 0, 0, none⟩ } }) .derated) (fun s => s.ctl.cxl.bg = some ⟨0x4400, 0, 0, none⟩
      ∧ s.ctl.op = .derated ∧ memLocked s.ctl = false)
  ∧ meets (cxl [] id .waking) (fun s => cxlRuns s.ctl 0 0 = true ∧ calState s.ctl = false)
  ∧ meets (cxl [(Reg.MEM_ACCESS_STATUS.LOCKED, 1)]) (fun s => memLocked s.ctl = true)
  ∧ meets (cxl [] id .keep) (fun s => memLocked s.ctl = false ∧ eraseAllowed s.ctl = false)
  ∧ meets (cxl [] (fun c => { c with cxl := { c.cxl with masterTries := 4 }, ef := { c.ef with master := some 11 } })) (fun s => frozenSec s.ctl = false ∧ s.ctl.cxl.masterTries < 5
      ∧ passOf s.ctl true = some 11 ∧ (11 : Nat) ≠ 12 ∧ eraseAllowed s.ctl = true ∧ s.ctl.cxl.bg = none) := by decide +kernel

theorem met_SecurityCommands :
  meets (cxl [(Reg.MEM_ACCESS_STATUS.LOCKED, 1)] (fun c => { c with cxl := { c.cxl with tries := 4 }, ef := { c.ef with passphrase := some 3, master := some 4 } }))
    (fun s => cxlRuns s.ctl 0 0 = true ∧ frozenSec s.ctl = false ∧ passOf s.ctl false = some 3 ∧ passOf s.ctl true = some 4 ∧ memLocked s.ctl = true ∧ s.ctl.cxl.tries < 5
      ∧ s.ctl.ef.passphrase = some 3 ∧ s.ctl.ef.passphrase ≠ some 4)
  ∧ meets (cxl) (fun s => frozenSec s.ctl = false ∧ passOf s.ctl false = none ∧ memLocked s.ctl = false)
  ∧ meets (cxl [(Reg.MEM_ACCESS_STATUS.FROZEN, 1)]) (fun s => frozenSec s.ctl = true)
  ∧ meets (cxl [] (fun c => { c with cxl := { c.cxl with tries := 5 } })) (fun s => 5 ≤ s.ctl.cxl.tries) := by decide +kernel

/-- The firmware runs from slot 1. -/
def fw (f : Ctl → Ctl := id) (l : List (Fld × Nat) := []) : State :=
  cxl ((Reg.HUB_STEPPING.HUB, 1) :: l) (fun c => f { c with mbx := { c.mbx with fwSlot := 1, sdSlot := 1 }, ef := { c.ef with bootSlot := 1, fw1 := some refFw } })

theorem met_FirmwareCommands :
  meets (fw) (fun s => cxlRuns s.ctl 0 0 = true ∧ s.ctl.mbx.xfer = none ∧ ¬ ((2 ≠ 1 ∧ 2 ≠ 2) ∨ 2 = s.ctl.mbx.fwSlot ∨ (s.ctl.ef.provisional = true ∧ 2 = s.ctl.ef.bootSlot))
    ∧ 1 = s.ctl.mbx.fwSlot ∧ fwValid s.ctl refFw = true ∧ fwValid s.ctl { refFw with part := 0 } = false ∧ hubPowered s.ctl = true ∧ fwRunning s.ctl = true
    ∧ activateCheck false 1 s.ctl = none ∧ activateCheck true 1 s.ctl = none ∧ activateCheck true 2 s.ctl = some (rcInvalidSlot, stRefused, 1) ∧ s.ctl.mbx.provEnd = none)
  ∧ meets (fw (fun c => { c with mbx := { c.mbx with xfer := some ⟨2, 0, 128⟩ } })) (fun s => s.ctl.mbx.xfer = some ⟨2, 0, 128⟩ ∧ fwValid s.ctl refFw = true ∧ (0 : Nat) ≠ 128)
  ∧ meets (fw (fun c => { c with mbx := { c.mbx with provEnd := some 5 } })) (fun s => fwRunning s.ctl = true ∧ s.ctl.mbx.provEnd ≠ none) := by decide +kernel

/-! Vendor commands. -/

/-- Head 0 has a session of era 3; both steppings are 1; directory and image copies as `refNor`. -/
def ses (op : OpState) (l : List (Fld × Nat) := []) (f : Ctl → Ctl := id) : State :=
  cxl ((Reg.HUB_STEPPING.HUB, 1) :: (Reg.HUB_STEPPING.S0, 1) :: (Reg.HUB_STEPPING.S1, 1) :: (Reg.HUB_ID.VARIANT, 2) :: l) (fun c =>
    let c := { c with mbx := { c.mbx with era0 := 3, open0 := true, fwSlot := 1, sdSlot := 1 }, ef := { c.ef with bootSlot := 1, fw1 := some refFw } }
    f { c with nor := refNor, cfg := some guestCfg }) op
def stg (n b : Nat) : State := ses .serving [] (fun c => { c with mbx := { c.mbx with stage := ⟨n, 0, 0, b, headerOnly { refImage with generation := 9 }, 0⟩ } })

theorem met_VendorFrame_forms :
  vendorFrame (.status 0 5 3 1 2 3 4 5 6) = some (0, 5, 3, true, anyState, false) ∧ vendorFrame (.programKeySlot 0 5 3 1 7) = some (0, 5, 3, true, servingStates, true)
  ∧ vendorFrame (.getDiagnostics 0 5 3 65536 1) = some (0, 5, 3, false, anyState, false) := ⟨rfl, rfl, rfl⟩

theorem met_VendorFrame :
  meets State.reset (fun s => reachable s.ctl 0 = false ∧ (65535 : Nat) < dropTag)
  ∧ meets (ses .serving [(Reg.HUB_DOMAIN_STATUS.CORE_RUN, 0)]) (fun s => reachable s.ctl 0 = true ∧ fwRunning s.ctl = false)
  ∧ meets (cxl) (fun s => reachable s.ctl 0 = true ∧ fwRunning s.ctl = true ∧ sessionOpen s.ctl 0 = false)
  ∧ meets (ses .serving) (fun s => reachable s.ctl 0 = true ∧ fwRunning s.ctl = true ∧ sessionOpen s.ctl 0 = true ∧ 3 = sessionEra s.ctl 0 ∧ 2 ≠ sessionEra s.ctl 0
    ∧ s.ctl.mbx.jrnl.find? (fun e => e.head == 0 && e.era == 3 && e.tag == 5 && decide (0xC000 ≤ e.opcode)) = none ∧ anyState s.ctl.op = true)
  ∧ meets (ses .serving [] (fun c => { c with mbx := { c.mbx with jrnl := [⟨1, 0xC015, 5, 3, 0, false, 1, 0, 0, 0, 0, 0⟩] } })) (fun s => sessionOpen s.ctl 0 = true ∧ 3 = sessionEra s.ctl 0
    ∧ s.ctl.mbx.jrnl.find? (fun e => e.head == 0 && e.era == 3 && e.tag == 5 && decide (0xC000 ≤ e.opcode)) = some ⟨1, 0xC015, 5, 3, 0, false, 1, 0, 0, 0, 0, 0⟩)
  ∧ meets (ses .keep) (fun s => sessionOpen s.ctl 0 = true ∧ 3 = sessionEra s.ctl 0 ∧ s.ctl.mbx.jrnl = [] ∧ servingStates s.ctl.op = false)
  ∧ meets (ses .serving [(Reg.MEM_ACCESS_STATUS.LOCKED, 1)]) (fun s => sessionOpen s.ctl 0 = true ∧ 3 = sessionEra s.ctl 0 ∧ s.ctl.mbx.jrnl = [] ∧ servingStates s.ctl.op = true
    ∧ getF Reg.MEM_ACCESS_STATUS.LOCKED s.ctl = 1) := by decide +kernel

theorem met_SessionsAndInformation :
  meets (ses .serving [] (fun c => { c with cfg := some { guestCfg with integrator := [[1, 2]] } })) (fun s => reachable s.ctl 0 = true ∧ fwRunning s.ctl = true ∧ sessionOpen s.ctl 0 = true
    ∧ 3 = sessionEra s.ctl 0 ∧ earlierEntry 0 5 3 s.ctl = none ∧ earlierEntry 0 5 11 s.ctl = none ∧ s.ctl.cfg = some { guestCfg with integrator := [[1, 2]] } ∧ ([[1, 2]] : List (List Byte)).getD 0 [] ≠ [] ∧ mpaInBlock 0x12FFFC = true ∧ 0x12FFFC % 4 = 0
    ∧ mpaInBlock 0x130000 = false ∧ 1 ≤ (11 % 16 + 16 - sessionEra s.ctl 0) % 16 ∧ (11 % 16 + 16 - sessionEra s.ctl 0) % 16 ≤ 8 ∧ 8 < (12 % 16 + 16 - sessionEra s.ctl 0) % 16
    ∧ (0 : Nat) < 2040 ∧ (2040 : Nat) ≤ 2040 ∧ (65504 : Nat) ≤ 65504 ∧ (4096 : Nat) ≤ 4096)
  ∧ meets (cxl) (fun s => sessionOpen s.ctl 0 = false) := by decide +kernel

/-- The 256-byte header of `refImage` under generation 9, by the table of R52; what follows the fields is left out, and reads as 0. -/
def hdr0 : List Byte := leBytes 0x49435058 4 ++ leBytes 1 2 ++ leBytes 0x100 2 ++ leBytes 65536 4 ++ leBytes 9 4 ++ leBytes 0x38640 4 ++ leBytes 0 2 ++ [0, 1]

theorem met_Staging :
  meets (ses .serving) (fun s => vendorRuns s.ctl 0 5 3 stageStates true = true ∧ stageBusy 0 s.ctl = false ∧ stageReject (headerOf hdr0) s.ctl = 0
    ∧ headerOf hdr0 = headerOnly { refImage with generation := 9 } ∧ staging s.ctl = false
    ∧ (if 65537 ≠ (headerOf hdr0).imageSize then 3 else stageReject (headerOf hdr0) s.ctl) ≠ 0 ∧ vendorRuns s.ctl 0 5 3 anyState true = true ∧ fwRunning s.ctl = true)
  ∧ meets (stg 2 65535) (fun s => vendorRuns s.ctl 0 5 3 stageStates true = true ∧ stageBusy 0 s.ctl = false ∧ s.ctl.mbx.stage.st = 2 ∧ 65535 = s.ctl.mbx.stage.bytes
    ∧ 65535 + [(1 : Byte)].length ≤ s.ctl.mbx.stage.hdr.imageSize ∧ 65535 + [(1 : Byte)].length = s.ctl.mbx.stage.hdr.imageSize ∧ 0 ≠ s.ctl.mbx.stage.bytes ∧ staging s.ctl = true)
  ∧ meets (stg 2 65536) (fun s => vendorRuns s.ctl 0 5 3 stageStates true = true ∧ stageBusy 0 s.ctl = false ∧ s.ctl.mbx.stage.st = 2
    ∧ s.ctl.mbx.stage.bytes = s.ctl.mbx.stage.hdr.imageSize
    ∧ headerOnly { refImage with generation := 9 } = { s.ctl.mbx.stage.hdr with readFails := ({ refImage with generation := 9 } : ImageCopy).readFails }) := by decide +kernel

theorem met_FloorsKeysAndSaves :
  meets (ses .serving [(Reg.HUB_CFG_GEN.VALUE, 1)]) (fun s => vendorRuns s.ctl 0 5 3 servingStates true = true ∧ s.ctl.ef.genFloor < 1 ∧ 1 ≤ getF Reg.HUB_CFG_GEN.VALUE s.ctl
    ∧ 0 ≤ s.ctl.ef.genFloor ∧ getF Reg.HUB_CFG_GEN.VALUE s.ctl < 2 ∧ (3 : Nat) < s.ctl.fuses.length ∧ (keySlotOf s.ctl 3).hash = none ∧ (keySlotOf s.ctl 0).hash ≠ none
    ∧ s.ctl.cfg = some guestCfg ∧ 3 ≠ guestCfg.keySlot ∧ 0 = guestCfg.keySlot
    ∧ (List.range 4).filter (fun n => (keySlotOf s.ctl n).hash.isSome && !(keySlotOf s.ctl n).revoked) ≠ [3] ∧ runningFw s.ctl = some refFw ∧ s.ctl.ef.fwFloor < 1 ∧ 1 ≤ refFw.svn
    ∧ 0 ≤ s.ctl.ef.fwFloor ∧ refFw.svn < 2 ∧ s.ctl.mbx.provEnd = none ∧ imgHas guestCfg 12 = false ∧ 1 = getF Reg.HEEL_GRP.FORMAT s.ctl + 1 ∧ 1 ≤ refFw.formatMax
    ∧ fwSlotOf s.ctl (3 - s.ctl.mbx.fwSlot) = none ∧ vendorRuns s.ctl 0 5 3 anyState false = true ∧ vendorRuns s.ctl 0 5 3 saveStates false = true
    ∧ getF Reg.HEEL_DEGRADE.RELEASE_PENDING s.ctl ≠ 1 ∧ 2 % 4 ≠ 3 ∧ 19 % 4 = 3)
  ∧ meets (ses .serving [] (fun c => { c with mbx := { c.mbx with provEnd := some 9 } })) (fun s => vendorRuns s.ctl 0 5 3 servingStates true = true ∧ s.ctl.mbx.provEnd ≠ none)
  ∧ meets (ses .keep) (fun s => vendorRuns s.ctl 0 5 3 keepState false = true ∧ getF Reg.HEEL_DEGRADE.KEEP (keepCausesNow s.ctl) = 0
    ∧ getF Reg.HEEL_DEGRADE.RELEASE_PENDING (keepCausesNow s.ctl) ≠ 1)
  ∧ meets (ses .keep [(Reg.HEEL_DEGRADE.KEEP, 1)]) (fun s => vendorRuns s.ctl 0 5 3 keepState false = true ∧ getF Reg.HEEL_DEGRADE.KEEP (keepCausesNow s.ctl) ≠ 0)
  ∧ meets (ses .keep [(Reg.HEEL_DEGRADE.RELEASE_PENDING, 1)] (fun c => { c with mbx := { c.mbx with running := [⟨0, 0xC022, 5, 3, 1⟩] } })) (fun s => s.ctl.op = .keep
    ∧ getF Reg.HEEL_DEGRADE.RELEASE_PENDING s.ctl = 1 ∧ slotless s.ctl = 0 ∧ dirtyCount s.ctl ≤ effB s.ctl
    ∧ s.ctl.mbx.running.find? (fun o => o.opcode == 0xC022) = some ⟨0, 0xC022, 5, 3, 1⟩ ∧ (5 : Nat) < dropTag
    ∧ getF Reg.HEEL_DEGRADE.KEEP (keepCausesNow s.ctl) = 0)
  ∧ meets (ses .keep [(Reg.HEEL_DEGRADE.RELEASE_PENDING, 1), (Reg.HEEL_DEGRADE.KEEP, 4)]) (fun s => s.ctl.op = .keep
    ∧ getF Reg.HEEL_DEGRADE.RELEASE_PENDING s.ctl = 1 ∧ slotless s.ctl = 0 ∧ dirtyCount s.ctl ≤ effB s.ctl ∧ getF Reg.HEEL_DEGRADE.KEEP (keepCausesNow s.ctl) ≠ 0) := by decide +kernel

/-! The sideband bus. -/

/-- A register file with one field set, and the sideband bus answered by the hub. -/
def sbs (l : List (Fld × Nat) := []) (f : Sbb → Sbb := id) (op : OpState := .serving) : State := run op l (fun c => { c with sbb := f c.sbb })

theorem met_SidebandTransfersAndAlerts :
  meets { State.reset with ctl := { Ctl.init with op := .off } } (fun s => sbAnswers s.ctl = false)
  ∧ meets (sbs [(Reg.HEEL_SB_STATUS.PAGE, 1), (Reg.SBB_ALERT_CFG.MASK, 255)]) (fun s => sbAnswers s.ctl = true ∧ 0x5B ≠ s.ctl.sbb.addr ∧ 0x5A = s.ctl.sbb.addr ∧ sbPec s.ctl = false
    ∧ sbMpa s.ctl (sbPage s.ctl * 256 + 0xF8) = some 0xB00F8 ∧ 0xF8 % 4 = 0 ∧ s.ctl.sbb.staged = none ∧ mapWf 0 s.ctl.rf = true ∧ s.ctl.sbb.alertLow = false
    ∧ hubPowered s.ctl = true ∧ getF Reg.SBB_ALERT_PEND.PEND (sbPendClear 255 s.ctl) &&& getF Reg.SBB_ALERT_CFG.MASK s.ctl = 0)
  ∧ meets (sbs [(Reg.HEEL_SB_CFG.PEC_EN, 1)]) (fun s => sbPec s.ctl = true ∧ crc8 [addrW s.ctl, 1, 2] = (BitVec.ofNat 8 (crc8 [addrW s.ctl, 1, 2])).toNat ∧ sbI2c s.ctl = false)
  ∧ meets (sbs [] (fun b => { b with alertLow := true })) (fun s => s.ctl.sbb.alertLow = true ∧ sbI2c s.ctl = false)
  ∧ meets (sbs [] (fun b => { b with alertWait := true, notify := 1 })) (fun s => s.ctl.sbb.alertWait = true ∧ s.ctl.sbb.alertLow = false ∧ s.ctl.op ≠ .dormant ∧ hubServing s.ctl = true
    ∧ s.ctl.sbb.notify = 1 ∧ notifyStarts s.ctl = true)
  ∧ meets (sbs [(Reg.SBB_ALERT_CFG.COALESCE, 1)] (fun b => { b with notify := 1, notified := some 0 })) (fun s => s.ctl.sbb.notified = some 0
    ∧ s.ctl.uptime < 0 + getF Reg.SBB_ALERT_CFG.COALESCE s.ctl * 1000000)
  ∧ meets (sbs [] (fun b => { b with notify := 2, tries := 3 })) (fun s => s.ctl.sbb.notify = 2 ∧ ¬ s.ctl.sbb.tries < 3) := by decide +kernel

theorem met_SidebandAccess :
  meets (sbs [(Reg.SBB_IND_ADDR.WORD, 0x4000), (Reg.SBB_IND_ADDR.AUTO_INC, 1)]) (fun s => sbAnswers s.ctl = true ∧ hubServing s.ctl = true ∧ indBefore (indMpa s.ctl) s.ctl = 0
    ∧ indMpa s.ctl = 0x10000 ∧ regRestricted .sideband (indMpa s.ctl) = false ∧ indMpa s.ctl ≠ 0xF0008 ∧ indMpa s.ctl ≠ 0xF000C ∧ s.ctl.op ≠ .dormant ∧ wholeDown s.ctl = none ∧ sbI2c s.ctl = false)
  ∧ meets (sbs [(Reg.SBB_IND_ADDR.WORD, 0x4C000)]) (fun s => hubServing s.ctl = true ∧ indMpa s.ctl = 0x130000 ∧ indBefore (indMpa s.ctl) s.ctl ≠ 0)
  ∧ meets (sbs [(Reg.SBB_IND_ADDR.WORD, 0x4007)]) (fun s => regRestricted .sideband (indMpa s.ctl) = true)
  ∧ meets { State.reset with ctl := { Ctl.init with op := .off } } (fun s => sbAnswers s.ctl = false ∧ hubServing s.ctl = false)
  ∧ meets (sbs [] id .dormant) (fun s => hubServing s.ctl = true ∧ s.ctl.op = .dormant)
  ∧ meets (sbs [(Reg.HEEL_SB_STATUS.HUB_SERVING, 0)]) (fun s => hubServing s.ctl = false ∧ s.ctl.op ≠ .off ∧ s.ctl.op ≠ .dormant ∧ s.ctl.op ≠ .waking ∧ wholeDown s.ctl = none)
  ∧ meets (sbs [(Reg.HEEL_SB_CFG.PEC_EN, 1)]) (fun s => sbAnswers s.ctl = true ∧ sbI2c s.ctl = false ∧ sbPec s.ctl = true)
  ∧ meets (sbs [(Reg.HEEL_SB_CFG.I2C, 1)]) (fun s => sbI2c s.ctl = true) := by decide +kernel

/-! Embedded flash, event recorder and registers. -/

/-- The host port at an offset, with words in its buffer and bank 1 in a state. -/
def efl (a : Nat) (buf : List Byte) (k : EflBank := EflBank.init) (l : List (Fld × Nat) := []) (op : OpState := .serving) : State :=
  run op ((Reg.EFL_HADDR.OFFSET, a) :: (Reg.EFL_HSTATUS.UNLOCKED, 1) :: l) (fun c => { c with efl := { c.efl with hbuf := buf, bank1 := k } })
def bytes16 : List Byte := List.replicate 16 7
def prog : EflOp := ⟨false, true, hostBase + 496, bytes16, 0⟩
def eras : EflOp := ⟨true, true, hostBase + 4096, [], 0⟩

theorem met_EmbeddedFlashHostPort :
  meets (efl 496 bytes16) (fun s => fwRunning s.ctl = true ∧ hostBusy s.ctl = false ∧ s.ctl.efl.keyStep = false ∧ hostOffset s.ctl % 16 = 0 ∧ hostOffset s.ctl % 4096 ≠ 0
    ∧ erasing s.ctl (hostBase + hostOffset s.ctl) = false ∧ unlocked s.ctl = true ∧ s.ctl.efl.hbuf.length % 16 = 0 ∧ 0 < s.ctl.efl.hbuf.length
    ∧ hostOffset s.ctl % 512 + s.ctl.efl.hbuf.length ≤ 512 ∧ mayProgram s.ctl = true ∧ (∀ b ∈ hostBytes s.ctl 496 16, b = 0xFF) ∧ (bankOf s.ctl 0).running = none)
  ∧ meets (run .serving [] (fun c => { c with efl := { c.efl with keyStep := true } })) (fun s => fwRunning s.ctl = true ∧ s.ctl.efl.keyStep = true ∧ unlocked s.ctl = false
    ∧ hostBusy s.ctl = false ∧ hostOffset s.ctl % 4096 = 0 ∧ (0xA000C5E1#32).toNat % 65536 = 0xC5E1 ∧ (0x3A7C#32).toNat % 65536 = 0x3A7C)
  ∧ meets (efl 8 bytes16) (fun s => hostOffset s.ctl % 16 ≠ 0)
  ∧ meets (efl 4096 [] EflBank.init [(Reg.EFL_STATUS.BAND_L, 1)]) (fun s => fwRunning s.ctl = true ∧ hostBusy s.ctl = false ∧ unlocked s.ctl = true ∧ hostOffset s.ctl % 4096 = 0
    ∧ mayProgram s.ctl = false)
  ∧ meets (efl 4096 []) (fun s => unlocked s.ctl = true ∧ hostOffset s.ctl % 4096 = 0 ∧ mayProgram s.ctl = true)
  ∧ meets (run .serving [(Reg.EFL_HADDR.OFFSET, 0), (Reg.EFL_HSTATUS.UNLOCKED, 1)] (fun c => { c with efl := { c.efl with hbuf := bytes16 }, ef := { c.ef with cells := [(3, 0)] } }))
    (fun s => unlocked s.ctl = true ∧ mayProgram s.ctl = true ∧ ∃ b ∈ hostBytes s.ctl 0 16, b ≠ 0xFF)
  ∧ meets (efl 4096 [] ⟨none, [{ eras with host := false }]⟩) (fun s => hostBusy s.ctl = false ∧ erasing s.ctl (hostBase + hostOffset s.ctl) = true ∧ bankIdle s.ctl 1 = false)
  ∧ meets (efl 0 [] ⟨some prog, []⟩) (fun s => hostBusy s.ctl = true ∧ s.ctl.efl.bank1.running = some prog ∧ prog.host = true ∧ prog.erase = false ∧ 0 * 16 < prog.data.length
    ∧ s.ctl.efl.waiting = none)
  ∧ meets (efl 0 [] ⟨some eras, []⟩) (fun s => s.ctl.efl.bank1.running = some eras ∧ eras.host = true ∧ eras.erase = true) := by decide +kernel

theorem met_FlashFetches :
  meets (efl 0 [] ⟨some eras, []⟩) (fun s => hubPowered s.ctl = true ∧ (0x7FFFFF : Nat) < 0x800000 ∧ (bankOf s.ctl (0x7FFFFF / 4194304)).running = some eras ∧ erasing s.ctl (hostBase + 4096) = true
    ∧ erasing s.ctl 0x7FFFFF = false)
  ∧ meets State.reset (fun s => hubPowered s.ctl = false ∧ (bankOf s.ctl 1).susp = [])
  ∧ meets (efl 0 [] ⟨none, [eras]⟩) (fun s => (bankOf s.ctl 1).running = none ∧ (bankOf s.ctl 1).susp = [eras] ∧ s.ctl.op ≠ .saving ∧ s.ctl.op ≠ .saved)
  ∧ meets (efl 0 [] ⟨none, [eras]⟩ [] .saving) (fun s => (bankOf s.ctl 1).susp = [eras] ∧ eras.erase = true ∧ s.ctl.op = .saving)
  ∧ meets (efl 0 [] ⟨none, [prog]⟩ [] .saved) (fun s => (bankOf s.ctl 1).running = none ∧ (bankOf s.ctl 1).susp = [prog] ∧ prog.erase = false) := by decide +kernel

theorem met_EventRecorder :
  meets (run .serving [(Reg.EVR_CFG.MIN_SEV, 3)]) (fun s => fwRunning s.ctl = true ∧ getF Reg.EVR_CFG.MIN_SEV s.ctl ≤ 3 ∧ 2 < getF Reg.EVR_CFG.MIN_SEV s.ctl ∧ s.ctl.ef.clearing = none
    ∧ s.ctl.evr.buffer.length < 64 ∧ mayProgram s.ctl = true ∧ s.ctl.ef.records.length + s.ctl.evr.buffer.length + 1 < 15360 ∧ foldOf s.ctl 5 1 = none ∧ s.ctl.op ≠ .saving ∧ s.ctl.op ≠ .saved)
  ∧ meets (run .serving [] (fun c => { c with evr := { c.evr with folds := [⟨5, 1, 1, 17, 1, 0⟩, ⟨6, 1, 1, 3, 0, 0⟩] } })) (fun s => foldOf s.ctl 5 1 = some ⟨5, 1, 1, 17, 1, 0⟩
    ∧ foldOf s.ctl 6 1 = some ⟨6, 1, 1, 3, 0, 0⟩)
  ∧ meets (run .serving [] (fun c => { c with ef := { c.ef with clearing := some 0 } })) (fun s => s.ctl.ef.clearing ≠ none)
  ∧ meets State.reset (fun s => fwRunning s.ctl = false) := by decide +kernel

theorem met_RegisterAccess_pair :
  indOnly .bar2 0x20110 = false ∧ (regRow 0x20110).map (fun r => decide (r.kind = .lo)) = some true ∧ (regRow 0x20114).map (fun r => decide (r.kind = .hi)) = some true := by decide +kernel

theorem met_RegisterAccess :
  meets (cxl) (fun s => mpaReachable .bar2 0x10000 s.ctl = true ∧ 0x10000 % 4 = 0 ∧ regRestricted .bar2 0x1001C = true ∧ indOnly .bar2 0xF0008 = true ∧ cfgLocked s.ctl = false)
  ∧ meets State.reset (fun s => mpaReachable .bar2 0x10000 s.ctl = false ∧ regDead 0xE0000 s.ctl = true)
  ∧ meets (run .serving [(Reg.HUB_CFG_LOCK.LOCK, 1)]) (fun s => cfgLocked s.ctl = true) := by decide +kernel

/-! ### WellFormed: each check refuses a term -/

theorem wf_tag : wellFormed (.memRd 0 65536 0) = false ∧ wellFormed (.memRd 0 65535 0) = true := by decide
theorem wf_line : wellFormed (.memRd 0 0 32) = false ∧ wellFormed (.memRd 0 0 4503599627370496) = false := by decide
theorem wf_lineData : wellFormed (.memWr 0 0 0 [] false) = false ∧ wellFormed (.memWr 0 0 0 (List.replicate 64 0) false) = true := by decide +kernel
theorem wf_mask : wellFormed (.memWrPtl 0 0 0 (List.replicate 64 0) 18446744073709551616 false) = false := by decide +kernel
theorem wf_mpa : wellFormed (.loReadLatch .bar2 ⟨2, true⟩) = false ∧ wellFormed (.loReadLatch .bar2 ⟨0x200000, true⟩) = false := by decide
theorem wf_tid : wellFormed (.mrd 1024 0 0 0) = false ∧ wellFormed (.mrd 1023 4 0 0) = false ∧ wellFormed (.mrd 1023 3 0 4) = false ∧ wellFormed (.mrd 1023 3 0 3) = true := by decide
theorem wf_era : wellFormed (.status 0 0 16 0 0 0 0 0 0) = false := by decide
theorem wf_way : wellFormed (.operationTimeout 0 8) = false := by decide
theorem wf_key : wellFormed (.heelWakeCmd 65536) = false := by decide
theorem wf_word : wellFormed (.registerWrite .bar2 0x10000 4294967296 true) = false := by decide
theorem wf_rail : wellFormed (.inrushElapsed 16) = false := by decide
theorem wf_bus : wellFormed (.sbWriteTransfer 128 []) = false := by decide
theorem wf_frame : wellFormed (.copyDone 2097152) = false := by decide
theorem wf_step : wellFormed (.wakeStepTimeout 0) = false ∧ wellFormed (.wakeStepTimeout 11) = false ∧ wellFormed (.wakeStepTimeout 10) = true := by decide
theorem wf_flips : wellFormed (.readDataReturn 0 ⟨[⟨10, 0, 1⟩], none⟩ false) = false ∧ wellFormed (.readDataReturn 0 ⟨[⟨9, 4, 1⟩], none⟩ false) = false := by decide
theorem wf_lanes : wellFormed (.incrementalRun 0 0 [⟨0, 80, 0, 0, 0, 0, 0, 0⟩] none) = false ∧ wellFormed (.incrementalRun 0 0 [⟨4, 0, 0, 0, 0, 0, 0, 0⟩] none) = false
  ∧ wellFormed (.incrementalRun 0 0 [⟨0, 0, 512, 0, 0, 0, 0, 0⟩] none) = false ∧ wellFormed (.incrementalRun 0 0 [⟨0, 0, 0, 512, 0, 0, 0, 0⟩] none) = false
  ∧ wellFormed (.incrementalRun 0 0 [⟨0, 0, 0, 0, 128, 0, 0, 0⟩] none) = false ∧ wellFormed (.incrementalRun 0 0 [⟨0, 0, 0, 0, 0, 128, 0, 0⟩] none) = false := by decide
theorem wf_args : wellFormed (.identify 0 { args0 with way := 8 }) = false ∧ wellFormed (.identify 0 { args0 with block := 2048 }) = false
  ∧ wellFormed (.identify 0 { args0 with page := 4096 }) = false ∧ wellFormed (.identify 0 { args0 with step := 16 }) = false ∧ wellFormed (.identify 0 args0) = true := by decide
theorem wf_wake : wellFormed (.wakeStepComplete (.dram [⟨8, 0, [], []⟩])) = false ∧ wellFormed (.wakeStepComplete (.dram [⟨7, 0, [], []⟩])) = true
  ∧ wellFormed (.wakeStepComplete (.dram [⟨7, 0, [⟨4, 0, 0, 0, 0, 0, 0, 0⟩], []⟩])) = false := by decide
theorem wf_retrain : wellFormed (.incrementalRun 0 0 [] (some [⟨0, 80, 0, 0, 0, 0, 0, 0⟩])) = false ∧ wellFormed (.incrementalRun 0 0 [] (some [])) = true := by decide
theorem wf_flit : wellFormed (.flitCrcError ⟨0, []⟩) = false := by decide
theorem wf_header : wellFormed (.stageStart 0 0 0 [] 0) = false := by decide

/-! ### Effects, with results from the spec -/

/-- The worked example of 04_cxl_port.md: HPA 0x40_0000_3000 is DPA 0x1000, and the granule before it belongs to the other module. -/
theorem test_hpa : hdmMap ⟨0x4000000000, 0x8000000000, 2, 4096, 1, 0⟩ 0x4000003000 = some 0x1000 ∧ hdmMap ⟨0x4000000000, 0x8000000000, 2, 4096, 1, 0⟩ 0x4000002000 = none
  ∧ hdmLen ⟨0x4000000000, 0x8000000000, 2, 4096, 1, 0⟩ = 0x4000000000 := by decide +kernel

/-- The worked example of 06_dram_and_calibration.md: decoding DPA 0x12_3456_7A40. -/
theorem test_decode : let s := st .serving [(Reg.MEM_ILV_CFG.GRAIN, 4), (Reg.MEM_ILV_CFG.HASH, 1), (Reg.MEM_ILV_CFG.BANK_XOR, 1), (Reg.DRC_TOPO.STACK 6, 1)]
  chanOf s.ctl 0x1234567A40 = 6 ∧ chanAddr s.ctl 0x1234567A40 = 0x2468ACA40 ∧ lineAddr s.ctl (0x1234567A40 / 64) = ⟨1, 20, 3, 0, 1, 0, 0x2468⟩
  ∧ dpaOf s.ctl 6 0x2468ACA40 = 0x1234567A40 := by decide +kernel

/-- The example of R197: unit 0 of slot 812 lies in set 12, row 53, on channel 6 at way 6, die position 56. -/
theorem test_slot812 : let s := st .serving [(Reg.SAV_LAST_CFG.SETS, 32)]
  placeUnit s.ctl 812 0 = unitKey 12 53 6 ∧ setChannel s.ctl 12 6 = 6 ∧ setWay s.ctl 12 = 6 ∧ diePos 53 = 56 ∧ slotRows s.ctl 812 = [53, 54, 55] := by decide +kernel

/-- The two-module example of 16_sideband_bus.md: data 0x0002 with the operating state Serving in bits 11 to 8, and the first SEQ. -/
theorem test_notify : notifyWord (st .serving [(Reg.SBB_ALERT_PEND.PEND, 2), (Reg.SBB_ALERT_CFG.MASK, 255)]).ctl = 0x1402 := by decide +kernel

/-- The check values of the CRC-8 of SMBus and of CRC-32 over "123456789". -/
theorem test_crc : crc8 [49, 50, 51, 52, 53, 54, 55, 56, 57] = 0xF4 ∧ crc32 [49, 50, 51, 52, 53, 54, 55, 56, 57] = 0xCBF43926 := by decide +kernel

/-- R151: the poison marker is recognised. R150: one failed device is corrected; two are not. -/
theorem test_ecc : eccCheck none poisonFlips = .poisoned ∧ eccCheck none [⟨3, 2, 0x8001⟩] = .corrected 3 [0, 0, 0x8001, 0] ∧ eccCheck none [⟨3, 2, 1⟩, ⟨5, 1, 7⟩] = .uncorrectable
  ∧ eccCheck none [] = .clean := by decide +kernel

/-- R176: 150 J is no budget for a module without a die; R130: the onset of 65,536 frames is 58,982, that of 57,976 is 52,178. -/
theorem test_onset : onset (st .serving [(Reg.DTK_BUDGET_FW.VALUE, 65536), (Reg.DTK_SOLE.READY, 65536)]).ctl = 58982
  ∧ onset (st .serving [(Reg.DTK_BUDGET_FW.VALUE, 57976), (Reg.DTK_SOLE.READY, 65536)]).ctl = 52178 := by decide +kernel

/-- R13: the input wakes a dormant module once it is up; PFAIL_N saves a serving one. -/
theorem test_inputWake : leads .inputWake (st .dormant [] (fun c => { c with heel := { c.heel with inputUp := true } })) (fun t => t.ctl.op == .waking) = true := by decide +kernel
theorem test_pfail : leads .pfailAssert (run .serving) (fun t => t.ctl.op == .saving) = true := by decide +kernel

/-- R104: a command written to the LSA is read back. -/
theorem test_lsa : leads (.setLsa 0 1 100 [1, 2]) (cxl) (fun t => memReadList 0 t.ctl.ef.lsa 99 4 == [0, 1, 2, 0]) = true := by decide +kernel

/-- R5 and R416: an address outside every block fails with IND_ERR 3. -/
theorem test_indirect : leads (.sbbIndRead false) (sbs [(Reg.SBB_IND_ADDR.WORD, 0x4C000)]) (fun t => getF Reg.SBB_STATUS.IND_ERR t.ctl == 3) = true := by decide +kernel

/-- The flood of 17_embedded_flash_and_event_recorder.md: a ninth event of a key in its window is folded. -/
theorem test_fold : leads (.eventRecord 0x310 3 1 0) (run .serving [(Reg.EVR_CFG.PER_CODE, 8)] (fun c => { c with evr := { c.evr with folds := [⟨0x310, 3, 1, 8, 0, 0⟩] } }))
  (fun t => t.ctl.evr.buffer == [] && (foldOf t.ctl 0x310 3).map (·.folded) == some 1) = true := by decide +kernel

/-- R385: OPEN_SESSION sets the era; R390: a key slot is programmed once. -/
theorem test_session : leads (.openSession 0 7 5) (cxl) (fun t => sessionOpen t.ctl 0 && sessionEra t.ctl 0 == 5) = true := by decide +kernel
theorem test_keySlot : leads (.programKeySlot 0 7 3 2 99) (ses .serving) (fun t => (keySlotOf t.ctl 2).hash == some 99 && (keySlotOf t.ctl 0).hash == some 0) = true := by decide +kernel

/-- R429: a program of the host port ends in the flash. -/
theorem test_program : leads (.eflOperationDone 1 none) (efl 0 [] ⟨some prog, []⟩) (fun t => memRead 0xFF t.ctl.ef.cells 511 == 7 && memRead 0xFF t.ctl.ef.cells 512 == 0xFF) = true := by
  decide +kernel

/-- R109: a read enters its head's queue with the DPA of its line; a step takes the front command. -/
theorem test_read : leads (.memRd 0 7 4096) (mem) (fun t => t.ctl.pipe.q0 == [⟨.rd, 7, 4096, [], 0, false, 0, false⟩]) = true := by decide +kernel
theorem test_step : (match step { State.reset with pending := [.inputRise, .heelSupplyLoss] } with | .next t => t.pending == [.heelSupplyLoss] && t.ctl.heel.inputUp | _ => false) = true := by
  decide +kernel

end Sys2Proof.Tests
end

section
/-! Proofs about register reads and writes (R4-R7, R456): what a read answers and latches over each kind of register, when a write
is discarded, and what a write leaves in a field of each access code. -/
namespace Sys2Proof.Machine

/-! Bit arithmetic of the access codes. -/

/-- Taking the set bits of a mask away from a number commutes with halving: the lowest bit never borrows. -/
theorem sub_and_div_two (a x : Nat) : (a - (a &&& x)) / 2 = a / 2 - (a / 2 &&& x / 2) := by
  have hhigh : (a &&& x) / 2 = a / 2 &&& x / 2 := Nat.and_div_two
  have hlow : (a &&& x) % 2 = 1 ↔ a % 2 = 1 ∧ x % 2 = 1 := Nat.and_mod_two_eq_one
  have hle : a &&& x ≤ a := Nat.and_le_left
  omega

theorem sub_and_mod_two (a x : Nat) : (a - (a &&& x)) % 2 = 1 ↔ a % 2 = 1 ∧ ¬ x % 2 = 1 := by
  have hlow : (a &&& x) % 2 = 1 ↔ a % 2 = 1 ∧ x % 2 = 1 := Nat.and_mod_two_eq_one
  have hle : a &&& x ≤ a := Nat.and_le_left
  omega

/-- Taking the set bits of a mask away clears those bits and keeps the others. -/
theorem testBit_sub_and (a x i : Nat) : (a - (a &&& x)).testBit i = (a.testBit i && !x.testBit i) := by
  induction i generalizing a x with
  | zero => simp only [Nat.testBit_zero, sub_and_mod_two, Bool.decide_and, decide_not]
  | succ i ih => simp only [Nat.testBit_succ, sub_and_div_two, ih]

@[simp] theorem bitsOf_mod_two_pow (v lo w : Nat) : bitsOf v lo w % 2 ^ w = bitsOf v lo w := Nat.mod_mod _ _

/-! Fields by access code (R4). -/

@[simp] theorem fieldWrite_ro (mpa v lo w : Nat) (c : Ctl) : fieldWrite mpa v (lo, w, .ro) c = c := rfl

@[simp] theorem fieldWrite_rw (mpa v lo w : Nat) (c : Ctl) :
    fieldWrite mpa v (lo, w, .rw) c = setF ⟨mpa, lo, w⟩ (bitsOf v lo w) c := rfl

theorem fieldWrite_rwl (mpa v lo w : Nat) (c : Ctl) :
    fieldWrite mpa v (lo, w, .rwl) c = if cfgLocked c then c else fieldWrite mpa v (lo, w, .rw) c := rfl

@[simp] theorem fieldWrite_w1c (mpa v lo w : Nat) (c : Ctl) :
    fieldWrite mpa v (lo, w, .w1c) c =
      setF ⟨mpa, lo, w⟩ (getF ⟨mpa, lo, w⟩ c - (getF ⟨mpa, lo, w⟩ c &&& bitsOf v lo w)) c := rfl

theorem getF_fieldWrite_rw (mpa v lo w : Nat) (c : Ctl) :
    getF ⟨mpa, lo, w⟩ (fieldWrite mpa v (lo, w, .rw) c) = bitsOf v lo w := by
  simp

theorem fieldWrite_rwl_locked (mpa v lo w : Nat) {c : Ctl} (h : cfgLocked c = true) : fieldWrite mpa v (lo, w, .rwl) c = c := by
  rw [fieldWrite_rwl, if_pos h]

theorem getF_fieldWrite_rwl_open (mpa v lo w : Nat) {c : Ctl} (h : cfgLocked c = false) :
    getF ⟨mpa, lo, w⟩ (fieldWrite mpa v (lo, w, .rwl) c) = bitsOf v lo w := by
  rw [fieldWrite_rwl, if_neg (by simp [h]), getF_fieldWrite_rw]

/-- A 1 written to a write-1-to-clear bit clears it, a 0 keeps it. -/
theorem testBit_fieldWrite_w1c (mpa v lo : Nat) {w i : Nat} (c : Ctl) (hi : i < w) :
    (getF ⟨mpa, lo, w⟩ (fieldWrite mpa v (lo, w, .w1c) c)).testBit i
      = ((getF ⟨mpa, lo, w⟩ c).testBit i && !(bitsOf v lo w).testBit i) := by
  rw [fieldWrite_w1c, getF_setF_same, Nat.testBit_mod_two_pow, testBit_sub_and, decide_eq_true hi, Bool.true_and]

/-! A 32-bit read (R456). -/

theorem regRead_lo {p : Path} {mpa : Nat} {r : RegRow} (hi : indOnly p mpa = false) (hr : regRow mpa = some r) (hk : r.kind = .lo)
    (c : Ctl) : regRead p mpa c = (regWhole mpa c % 2 ^ 32,
      { c with latches := mapSet 0 c.latches (latchKey p (mpa + 4)) (regWhole mpa c / 2 ^ 32) }) := by
  simp [regRead, hi, hr, hk]

theorem regRead_hi {p : Path} {mpa : Nat} {r : RegRow} (hi : indOnly p mpa = false) (hr : regRow mpa = some r) (hk : r.kind = .hi)
    (c : Ctl) : regRead p mpa c = (mapGet 0 c.latches (latchKey p mpa), c) := by
  simp [regRead, hi, hr, hk]

/-- A read stores nothing in a register: it touches at most a latch and the count of values drawn. -/
theorem regRead_rf (p : Path) (mpa : Nat) (c : Ctl) : (regRead p mpa c).2.rf = c.rf := by
  unfold regRead
  split
  · rfl
  · split
    · rfl
    · split
      · rfl
      · rfl
      · split <;> rfl

/-- The LO read latches the high part that the HI read over the same path then answers: both halves are of one value. -/
theorem regRead_pair {p : Path} {mpa : Nat} {r r' : RegRow} (hi : indOnly p mpa = false) (hi' : indOnly p (mpa + 4) = false)
    (hr : regRow mpa = some r) (hk : r.kind = .lo) (hr' : regRow (mpa + 4) = some r') (hk' : r'.kind = .hi) (c : Ctl) :
    (regRead p mpa c).1 + 4294967296 * (regRead p (mpa + 4) (regRead p mpa c).2).1 = regWhole mpa c := by
  rw [regRead_lo hi hr hk, regRead_hi hi' hr' hk']
  simpa using Nat.mod_add_div (regWhole mpa c) 4294967296

/-! A read over a path (R6, R7). -/

theorem exec_loReadLatch (p : Path) (a : RegAccess) (s : State) :
    exec (.loReadLatch p a) s = .next (onCtl (loRead p a.mpa a.aligned) s) := rfl

/-- An access of 32 bits that is aligned, and every access of the sideband, is answered with the register's value. -/
theorem loRead_value {p : Path} {mpa : Nat} {aligned : Bool} {c : Ctl} (ha : aligned = true ∧ mpa % 4 = 0 ∨ p = .sideband)
    (hr : mpaReachable p mpa c = true) :
    loRead p mpa aligned c = send ⟨.path p, .regData, [mpa, (regRead p mpa c).1], []⟩ (regRead p mpa c).2 := by
  have hw : (aligned && mpa % 4 == 0 || p == .sideband) = true := by simpa using ha
  simp [loRead, hr, hw]

theorem loRead_allOnes {p : Path} {mpa : Nat} {aligned : Bool} {c : Ctl} (ha : aligned = false ∨ mpa % 4 ≠ 0) (hp : p ≠ .sideband)
    (hr : mpaReachable p mpa c = true) : loRead p mpa aligned c = send ⟨.path p, .regData, [mpa, 0xFFFFFFFF], []⟩ c := by
  have hw : (aligned && mpa % 4 == 0 || p == .sideband) = false := by
    rcases ha with ha | ha <;> simp [ha, hp]
  simp [loRead, hr, hw]

theorem loRead_unreachable {p : Path} {mpa : Nat} (aligned : Bool) {c : Ctl} (hr : mpaReachable p mpa c = false) :
    loRead p mpa aligned c = c := by
  simp [loRead, hr]

/-! Operations on the control state, seen on the state. -/

/-- An operation acts on a state through what it makes of its control state alone. -/
theorem onCtl_congr {f g : Ctl → Ctl} {s : State} (h : f s.ctl = g s.ctl) : onCtl f s = onCtl g s := by
  unfold onCtl
  rw [h]

theorem onCtlW_congr {f g : Ctl → Ctl} {s : State} (h : f s.ctl = g s.ctl) : onCtlW f s = onCtlW g s := by
  unfold onCtlW
  rw [h]

/-- An operation that changes nothing does not enter Waking either. -/
theorem onCtlW_fixed {f : Ctl → Ctl} {s : State} (h : f s.ctl = s.ctl) : onCtlW f s = s := by
  have hop : s.ctl.op ≠ .waking ∨ s.ctl.op = .waking := (Decidable.em _).symm
  rw [onCtlW_congr (g := id) h, onCtlW_keeps id s hop]
  rfl

/-! A write over a path (R4, R6, R7). -/

theorem exec_registerWrite (p : Path) (mpa v : Nat) (aligned : Bool) (s : State) :
    exec (.registerWrite p mpa v aligned) s = .next (onCtlW (registerWrite p mpa v aligned) s) := rfl

theorem registerWrite_taken {p : Path} {mpa : Nat} (v : Nat) {aligned : Bool} {c : Ctl} (ha : aligned = true) (hm : mpa % 4 = 0)
    (hr : mpaReachable p mpa c = true) : registerWrite p mpa v aligned c = regWrite p mpa (v % 2 ^ 32) c := by
  simp [registerWrite, ha, hm, hr]

theorem registerWrite_discarded {p : Path} {mpa : Nat} (v : Nat) {aligned : Bool} {c : Ctl}
    (h : aligned = false ∨ mpa % 4 ≠ 0 ∨ mpaReachable p mpa c = false) : registerWrite p mpa v aligned c = c := by
  rcases h with h | h | h <;> simp [registerWrite, h]

theorem regWrite_discarded {p : Path} {mpa : Nat} (v : Nat) {c : Ctl}
    (h : regRestricted p mpa = true ∨ regDead mpa c = true ∨ indOnly p mpa = true) : regWrite p mpa v c = c := by
  rcases h with h | h | h <;> simp [regWrite, h]

/-- Settles O60: clause by clause from the rules of `loRead`, `regRead`, `registerWrite`, `regWrite` and `fieldWrite`. -/
theorem registerAccess : Obligations.RegisterAccess := by
  intro s p mpa v
  refine ⟨?value, ?allOnes, ?unreachable, ?pair, regRead_rf p mpa s.ctl, ?taken, ?discarded, regWrite_discarded v, ?fields⟩
  case value =>
    intro aligned ha hr
    rw [exec_loReadLatch]
    exact congrArg _ (onCtl_congr (loRead_value ha hr))
  case allOnes =>
    intro aligned ha hp hr
    rw [exec_loReadLatch]
    exact congrArg _ (onCtl_congr (loRead_allOnes ha hp hr))
  case unreachable =>
    intro aligned hr
    rw [exec_loReadLatch]
    exact congrArg _ (onCtl_congr (g := id) (loRead_unreachable aligned hr))
  case pair => exact fun _ _ hi hi' hr hk hr' hk' => regRead_pair hi hi' hr hk hr' hk' s.ctl
  case taken =>
    intro aligned ha hm hr
    rw [exec_registerWrite]
    exact congrArg _ (onCtlW_congr (registerWrite_taken v ha hm hr))
  case discarded =>
    intro aligned h
    rw [exec_registerWrite]
    exact congrArg _ (onCtlW_fixed (registerWrite_discarded v h))
  case fields =>
    exact fun lo w => ⟨fieldWrite_ro mpa v lo w s.ctl, fieldWrite_rwl_locked mpa v lo w, getF_fieldWrite_rw mpa v lo w s.ctl,
      getF_fieldWrite_rwl_open mpa v lo w, fun _ hi => testBit_fieldWrite_w1c mpa v lo s.ctl hi⟩

end Sys2Proof.Machine
end

section
/-! Proofs about reset values (R8). -/
namespace Sys2Proof.Machine

/-- Settles O3: a closed table, read register by register. -/
theorem resetValues : Obligations.ResetValues := by
  unfold Obligations.ResetValues
  refine ⟨?registers, rfl, rfl, rfl⟩
  case registers => decide

end Sys2Proof.Machine
end

section
/-! Proofs about the operating state through a save trigger and a restart (R13, R70, R192): of the shared operations that a trigger passes
through, only the change of state itself moves the operating state. -/
namespace Sys2Proof.Machine

/-! What a bound on changes says of single parts. -/

theorem Changes.op_eq {fs : List Fld} {ps : List Part} {c d : Ctl} (h : Changes fs ps c d) (hp : Part.op ∉ ps) : d.op = c.op := h.2 .op hp

/-- What every operation of a fold keeps, the fold keeps. -/
theorem foldl_keeps {α β : Type} (p : Ctl → β) {g : Ctl → α → Ctl} (h : ∀ c x, p (g c x) = p c) (l : List α) (c : Ctl) : p (l.foldl g c) = p c := by
  induction l generalizing c with
  | nil => rfl
  | cons x l ih => exact (ih (g c x)).trans (h c x)

/-- A choice is in the operating state that both branches are in. -/
theorem ite_op {p : Prop} {_ : Decidable p} {d e : Ctl} {o : OpState} (hd : d.op = o) (he : e.op = o) : (if p then d else e).op = o := by
  split <;> assumption

/-! The operating state through the shared operations. -/

@[simp] theorem wakeEval_op (h : HeadId) (c : Ctl) : (wakeEval h c).op = c.op := (wakeEval_changes h c).op_eq (by simp)

@[simp] theorem sbAlertSource_op (i : Nat) (c : Ctl) : (sbAlertSource i c).op = c.op := (sbAlertSource_changes i c).op_eq (by simp)

@[simp] theorem logEvent_op (code src sev data : Nat) (c : Ctl) : (logEvent code src sev data c).op = c.op :=
  (logEvent_changes code src sev data c).op_eq (by simp [eventParts])

@[simp] theorem evrFlush_op (save : Bool) (c : Ctl) : (evrFlush save c).op = c.op := (evrFlush_changes save c).op_eq (by simp [eventParts])

@[simp] theorem setState_op (o : OpState) (c : Ctl) : (setState o c).op = o := by
  have heads : ∀ d : Ctl, (bothHeads.foldl (fun c h => wakeEval h c) d).op = d.op := foldl_keeps (·.op) (fun c h => wakeEval_op h c) _
  unfold setState
  dsimp only
  split <;> simp [heads]

@[simp] theorem sendLink_op (k : Nat) (kind : MsgKind) (args : List Nat) (data : List Byte) (c : Ctl) : (sendLink k kind args data c).op = c.op := by
  unfold sendLink
  exact ite_op rfl rfl

@[simp] theorem pumpEvt_op (n : Nat) (c : Ctl) : (pumpEvt n c).op = c.op := by
  induction n generalizing c with
  | zero => rfl
  | succ n ih =>
    unfold pumpEvt
    split
    · rfl
    · split
      · rfl
      · rw [ih, sendLink_op]; rfl

@[simp] theorem sendEvt_op (kind value : Nat) (c : Ctl) : (sendEvt kind value c).op = c.op := by
  unfold sendEvt
  exact ite_op (pumpEvt_op _ _) rfl

@[simp] theorem goState_op (o : OpState) (c : Ctl) : (goState o c).op = o := by simp [goState]

@[simp] theorem sleepCancel_op (c : Ctl) : (sleepCancel c).op = c.op := by
  unfold sleepCancel
  extract_lets n cancelled
  have told : cancelled.op = c.op := by
    refine foldl_keeps (·.op) (fun c k => ?_) [0, 1, 2] c
    exact ite_op (sendLink_op k _ _ _ c) rfl
  simp [told]

@[simp] theorem hubWake_op (c : Ctl) : (hubWake c).op = c.op := by
  unfold hubWake
  split
  · exact sleepCancel_op c
  · exact ite_op (setF_op ..) (ite_op rfl (addF_op ..))
  · rfl

@[simp] theorem sleepForSave_op (c : Ctl) : (sleepForSave c).op = c.op := by
  unfold sleepForSave
  extract_lets woken
  refine (foldl_keeps (·.op) (fun c k => ?_) [0, 1] woken).trans (hubWake_op c)
  exact ite_op rfl rfl

/-! Down orders. -/

@[simp] theorem downHead_op (c : Ctl) (slots : List Nat) : (downHead c slots).2.op = c.op := by
  induction slots with
  | nil => rfl
  | cons n rest ih =>
    unfold downHead
    split
    · exact ite_op rfl rfl
    · exact ih

@[simp] theorem railLogPut_op (r : RailRec) (c : Ctl) : (railLogPut r c).op = c.op := by
  unfold railLogPut
  exact ite_op rfl (ite_op (sbAlertSource_op _ _) rfl)

@[simp] theorem downEnded_op (o : DownOrder) (c : Ctl) : (downEnded o c).op = c.op := by
  unfold downEnded
  split <;> simp

@[simp] theorem startDown_op (why : DownWhy) (slots : List Nat) (c : Ctl) : (startDown why slots c).op = c.op := by
  unfold startDown
  exact ite_op ((downEnded_op _ _).trans (downHead_op c _)) (downHead_op c _)

/-! The save cut and what else a trigger stops. -/

@[simp] theorem guestCloseIntake_op (c : Ctl) : (guestCloseIntake c).op = c.op :=
  foldl_keeps (·.op) (g := fun c r => barDone r 2 c) (fun _ _ => rfl) c.guest.reads c

@[simp] theorem headReset_op (h : HeadId) (c : Ctl) : (headReset h c).op = c.op := by
  have fields : ∀ d, ((linkFields h).foldl (fun c f => setF f 0 c) d).op = d.op :=
    foldl_keeps (·.op) (g := fun c f => setF f 0 c) (fun _ _ => rfl) _
  unfold headReset dropQueue updHead
  dsimp only
  split <;> simp [fields, muteSource]

@[simp] theorem saveCut_op (c : Ctl) : (saveCut c).op = c.op := by
  unfold saveCut
  lift_lets
  extract_lets pipe cal reel welt cxl epg stopped readless closing
  have hclosing : closing.op = c.op := by
    have h : readless.op = c.op := rfl
    clear_value readless
    exact ite_op h h
  refine (foldl_keeps (·.op) (fun c h => ?_) bothHeads (guestCloseIntake closing)).trans ((guestCloseIntake_op closing).trans hclosing)
  exact ite_op (headReset_op h c) rfl

@[simp] theorem wdiStop_op (c : Ctl) : (wdiStop c).op = c.op := rfl

@[simp] theorem wakeClear_op (c : Ctl) : (wakeClear c).op = c.op :=
  foldl_keeps (·.op) (fun c h => by simp) bothHeads c

@[simp] theorem eflSave_op (c : Ctl) : (eflSave c).op = c.op := by
  unfold eflSave
  split
  · exact ite_op rfl rfl
  · rfl

theorem chargerOff_changes (c : Ctl) : Changes [Reg.NRG_STATUS.CHG_STATE] [] c (chargerOff c) := by
  unfold chargerOff
  exact Changes.ite (Changes.refl _ _ _) (setF_changes _ _ c)

/-- The charger goes OFF, but out of FAULT. -/
theorem getF_chargerOff (c : Ctl) :
    getF Reg.NRG_STATUS.CHG_STATE (chargerOff c) = if getF Reg.NRG_STATUS.CHG_STATE c = 7 then 7 else 0 := by
  unfold chargerOff
  split <;> simp [*]

@[simp] theorem chargerOff_op (c : Ctl) : (chargerOff c).op = c.op := (chargerOff_changes c).op_eq (by simp)

theorem mbx_changes (fs : List Fld) (f : Mbx → Mbx) (c : Ctl) : Changes fs [.mbx] c (updMbx f c) :=
  changes_parts rfl (fun p hp => by cases p <;> first | rfl | simp at hp)

/-- Cutting off a firmware transfer empties its slot. -/
theorem abortXfer_changes (fs : List Fld) (c : Ctl) : Changes fs [.ef, .mbx] c (abortXfer c) := by
  have slot : ∀ n p d, Changes fs [.ef, .mbx] d (setFwSlot n p d) := fun n p d => by
    unfold setFwSlot
    exact Changes.ite ((ef_changes fs _ d).mono (fun _ h => h) (by simp))
      (Changes.ite ((ef_changes fs _ d).mono (fun _ h => h) (by simp)) (Changes.refl _ _ _))
  unfold abortXfer
  split
  · exact Changes.refl _ _ _
  · exact ((mbx_changes fs _ c).mono (fun _ h => h) (by simp)).trans (slot _ _ _)

@[simp] theorem abortXfer_op (c : Ctl) : (abortXfer c).op = c.op := (abortXfer_changes [] c).op_eq (by simp)

/-- Cutting off a staging moves its state alone; the alert is raised only for an idle one. -/
theorem abortStage_quiet_changes (fs : List Fld) (c : Ctl) : Changes fs [.mbx] c (abortStage false c) := by
  unfold abortStage
  exact Changes.ite (mbx_changes fs _ c) (Changes.refl _ _ _)

@[simp] theorem abortStage_quiet_op (c : Ctl) : (abortStage false c).op = c.op := (abortStage_quiet_changes [] c).op_eq (by simp)

@[simp] theorem savedEntry_op (c : Ctl) : (savedEntry c).op = .saved := by simp [savedEntry]

@[simp] theorem endUnsealed_op (c : Ctl) : (endUnsealed c).op = c.op := by simp [endUnsealed]

/-! Save triggers. -/

theorem laterTrigger_op (cause : Nat) (c : Ctl) : (laterTrigger cause c).op = c.op := by
  have noted : (if getF Reg.HEEL_SAVE_CAUSE.LATER c = 0 then setF Reg.HEEL_SAVE_CAUSE.LATER cause c else c).op = c.op := ite_op rfl rfl
  unfold laterTrigger
  exact ite_op ((startDown_op _ _ _).trans noted) noted

/-- The path to save start leads to Saving, or to Saved when the save can program nothing. -/
theorem saveStartPath_op (cause : Nat) (c : Ctl) : (saveStartPath cause c).op = .saving ∨ (saveStartPath cause c).op = .saved := by
  unfold saveStartPath
  lift_lets
  extract_lets complete nothing snap cut stopped _ quiet discharged _ recorded _ queued ordered image marked _ _ started
  have hqueued : queued.op = .saving := by simp [queued, recorded, discharged, quiet, stopped, cut]
  have hordered : ordered.op = .saving := ite_op hqueued ((startDown_op _ _ _).trans hqueued)
  split
  · exact .inr (savedEntry_op _)
  · have hstarted : started.op = .saving := hordered
    refine .inl (ite_op ((foldl_keeps (·.op) (fun c d => ?_) [0, 1] started).trans hstarted) ((endUnsealed_op started).trans hstarted))
    exact ite_op (sendLink_op d _ _ _ c) rfl

/-- A trigger leaves the operating state, or leads to Saving or to Saved (R13). -/
theorem saveTrigger_op (cause : Nat) (c : Ctl) :
    (saveTrigger cause c).op = c.op ∨ (saveTrigger cause c).op = .saving ∨ (saveTrigger cause c).op = .saved := by
  unfold saveTrigger
  split
  · exact .inl (laterTrigger_op cause c)
  · split
    · exact .inr (saveStartPath_op cause c)
    · exact .inr (saveStartPath_op cause c)
    · exact .inr (saveStartPath_op cause c)
    · split
      · exact .inl rfl
      · exact .inr (.inr (by simp))
    · exact .inl rfl

/-! Restarts (R70). -/

/-- Waking entry leads to Waking. -/
theorem enterWaking_op (c : Ctl) : (enterWaking c).op = .waking := setState_op .waking _

theorem restart_dormant_op {c : Ctl} (h : c.op = .dormant) : (restart c).op = .waking := by
  unfold restart
  simp only [h]
  exact enterWaking_op _

/-- Out of Dormant alone does a restart enter Waking at once. -/
theorem restart_op_ne_waking {c : Ctl} (hd : c.op ≠ .dormant) (hw : c.op ≠ .waking) : (restart c).op ≠ .waking := by
  have trigger : (saveTrigger 7 (setF Reg.HEEL_WAKE_STATUS.RESTART_PENDING 1 c)).op ≠ .waking := by
    rcases saveTrigger_op 7 (setF Reg.HEEL_WAKE_STATUS.RESTART_PENDING 1 c) with h | h | h <;> rw [h]
    · exact hw
    · decide
    · decide
  unfold restart
  split
  · exact absurd ‹_› hw
  · exact absurd ‹_› hd
  · exact hw
  · exact trigger

end Sys2Proof.Machine
end

section
/-! Proofs about restarts, firmware resets and watchdogs (R66-R72, R216, R445): what a firmware reset leaves, and the commands that
call it up or that carry a key. -/
namespace Sys2Proof.Machine

/-! The parts of a firmware reset (R71). -/

/-- The firmware domain stops: the cores stand, the reset is counted with its cause, and the registers of the domain are reset. -/
def fwHalt (cause : Fld) (c : Ctl) : Ctl :=
  resetRange 0xE0000 0xF0000 (resetRange 0x100000 0x120000
    (setF cause 1 (addF Reg.HUB_FW_RESET_COUNT.TOTAL (setF Reg.HUB_DOMAIN_STATUS.CORE_RUN 0 c))))

/-- What M2 has gathered for a raise of the budget is lost, and a calibration pause belongs to the last channel due. -/
def resultsLost (c : Ctl) : Ctl :=
  { c with dtk := { c.dtk with raiseMin := none }
           cal := { c.cal with inPause := (List.range 8).reverse.find? (fun n => (mapGet Chan.init c.chans n).calDue) } }

/-- The recorder's buffer and folds, and the CXL event logs, of `c` are lost in `d`. -/
def logsLost (c d : Ctl) : Ctl :=
  { d with evr := { c.evr with buffer := [], folds := [] }
           cxl := { c.cxl with info := [], warn := [], fail := [], fatal := [], overflow := [] } }

/-- What the firmware was doing is lost: the time base holds over, and results, logs, operations of the embedded flash, a transfer and a staging
are dropped. -/
def fwDrop (c : Ctl) : Ctl :=
  let d := resultsLost (if clkSource c = 0 ∨ clkSource c = 4 then c else clkHoldover c)
  abortStage false (abortXfer (logsLost d (eflReset d)))

/-- A watchdog reset in a provisional period rolls the firmware back (R404). -/
def watchdogRollBack (c : Ctl) : Ctl := if c.mbx.provEnd.isSome then rollBack c else c

theorem fwReset_watchdog {c : Ctl} (hp : hubPowered c = true) (hr : fwRunning c = true) :
    fwReset 1 c = fwDrop (setF Reg.EVR_LOST.RESET (min 255 (getF Reg.EVR_LOST.RESET c + c.evr.buffer.length))
      (chargerOff (learnDiscard (watchdogRollBack (fwHalt Reg.HUB_RESET_CAUSE.FW_WDOG c))))) := by
  unfold fwReset
  rw [if_neg (by simp [hp, hr])]
  simp only [true_and]
  rfl

/-! What each part changes at most. -/

theorem rollBack_changes (c : Ctl) : Changes (Reg.MBX_ALERT_PEND.PEND :: eventFlds) (.mbx :: eventParts) c (rollBack c) := by
  have slot : ∀ e m, Changes (Reg.MBX_ALERT_PEND.PEND :: eventFlds) (.mbx :: eventParts) c { c with ef := e, mbx := m } := fun _ _ =>
    changes_parts rfl (fun p hp => by cases p <;> first | rfl | simp [eventParts] at hp)
  unfold rollBack
  exact Changes.ite ((vendorAlert_changes 2 _).andThen (List.cons_subset_cons _ alertFlds_sub) (by simp [eventParts])
    ((logEvent_changes ..).andThen (List.subset_cons_self _ _) (List.subset_cons_self _ _) (slot _ _))) (Changes.refl _ _ _)

theorem watchdogRollBack_changes (c : Ctl) :
    Changes (Reg.MBX_ALERT_PEND.PEND :: eventFlds) (.mbx :: eventParts) c (watchdogRollBack c) :=
  Changes.ite (rollBack_changes c) (Changes.refl _ _ _)

theorem drawN_changes (fs : List Fld) (c : Ctl) : Changes fs [.fresh] c (drawN c).2 :=
  changes_parts rfl (fun p hp => by cases p <;> first | rfl | simp at hp)

theorem drawBytes_changes (fs : List Fld) (n : Nat) (c : Ctl) : Changes fs [.fresh] c (drawBytes n c).2 := by
  induction n generalizing c with
  | zero => exact Changes.refl _ _ _
  | succ n ih => exact (drawN_changes fs c).trans (ih _)

theorem updEf_changes (fs : List Fld) (f : Eflash → Eflash) {c d : Ctl} (h : Changes fs [.fresh] c d) : Changes fs [.ef, .fresh] c (updEf f d) :=
  (ef_changes fs (f d.ef) d).andThen (fun _ h => h) (by simp) (h.mono (fun _ h => h) (by simp))

/-- An operation that the controller drops leaves open content, drawn anew. -/
theorem eflUnfinished_changes (fs : List Fld) (o : EflOp) (c : Ctl) : Changes fs [.ef, .fresh] c (eflUnfinished o c) := by
  unfold eflUnfinished
  exact Changes.ite (Changes.refl _ _ _) (Changes.ite
    (updEf_changes fs _ (((drawBytes_changes fs 4096 c).trans (drawN_changes fs _)).trans (drawN_changes fs _)))
    (updEf_changes fs _ (drawN_changes fs c)))

theorem eflReset_changes (fs : List Fld) (c : Ctl) : Changes fs [.ef, .fresh, .efl] c (eflReset c) := by
  have idle : ∀ d : Ctl, Changes fs [.ef, .fresh, .efl] d { d with efl := Efl.init } := fun _ =>
    changes_parts rfl (fun p hp => by cases p <;> first | rfl | simp at hp)
  exact (Changes.foldl (fun d o => (eflUnfinished_changes fs o d).mono (fun _ h => h) (by simp)) _ c).trans (idle _)

/-- The time base goes to holdover unless it has no source or holds over already. -/
theorem clkLost_changes (c : Ctl) : Changes [Reg.CLK_STATUS.SOURCE] [.clk] c (if clkSource c = 0 ∨ clkSource c = 4 then c else clkHoldover c) := by
  have clock : ∀ k : Clk, Changes [Reg.CLK_STATUS.SOURCE] [.clk] c { c with clk := k } := fun _ =>
    changes_parts rfl (fun p hp => by cases p <;> first | rfl | simp at hp)
  exact Changes.ite (Changes.refl _ _ _) (setF_within (by simp) 4 (clock _))

theorem resultsLost_changes (fs : List Fld) (c : Ctl) : Changes fs [.dtk, .cal] c (resultsLost c) :=
  changes_parts rfl (fun p hp => by cases p <;> first | rfl | simp at hp)

theorem logsLost_changes (fs : List Fld) (c d : Ctl) : Changes fs [.evr, .cxl] d (logsLost c d) :=
  changes_parts rfl (fun p hp => by cases p <;> first | rfl | simp at hp)

/-- The parts that dropping the firmware's work may touch. -/
def fwDropParts : List Part := [.clk, .dtk, .cal, .fresh, .ef, .efl, .evr, .cxl, .mbx]

theorem fwDrop_changes (c : Ctl) : Changes [Reg.CLK_STATUS.SOURCE] fwDropParts c (fwDrop c) := by
  have within : ∀ {ps d e}, ps ⊆ fwDropParts → Changes [Reg.CLK_STATUS.SOURCE] ps d e → Changes [Reg.CLK_STATUS.SOURCE] fwDropParts d e :=
    fun hp h => h.mono (fun _ h => h) hp
  unfold fwDrop
  exact ((((within (by simp [fwDropParts]) (clkLost_changes c)).trans (within (by simp [fwDropParts]) (resultsLost_changes _ _))).trans
    (within (by simp [fwDropParts]) (eflReset_changes _ _))).trans (within (by simp [fwDropParts]) (logsLost_changes _ _ _))).trans
    ((within (by simp [fwDropParts]) (abortXfer_changes _ _)).trans (within (by simp [fwDropParts]) (abortStage_quiet_changes _ _)))

theorem fwDrop_buffer (c : Ctl) : (fwDrop c).evr.buffer = [] := by
  have stage : ∀ d, (abortStage false d).evr = d.evr := fun d => (abortStage_quiet_changes [] d).2 .evr (by simp)
  have xfer : ∀ d, (abortXfer d).evr = d.evr := fun d => (abortXfer_changes [] d).2 .evr (by simp)
  simp only [fwDrop, stage, xfer, logsLost]

/-! A watchdog reset. -/

@[simp] theorem resetRange_op (lo hi : Nat) (c : Ctl) : (resetRange lo hi c).op = c.op := rfl

theorem fwHalt_op (cause : Fld) (c : Ctl) : (fwHalt cause c).op = c.op := by simp [fwHalt]

/-- A register outside the firmware domain, other than those that count the reset, reads as before. -/
theorem getF_fwHalt {cause f : Fld} (h1 : ¬ (0xE0000 ≤ f.key / 64 ∧ f.key / 64 < 0xF0000)) (h2 : ¬ (0x100000 ≤ f.key / 64 ∧ f.key / 64 < 0x120000))
    (c : Ctl) : getF f (fwHalt cause c)
      = getF f (setF cause 1 (addF Reg.HUB_FW_RESET_COUNT.TOTAL (setF Reg.HUB_DOMAIN_STATUS.CORE_RUN 0 c))) := by
  unfold fwHalt
  rw [getF_resetRange_out h1, getF_resetRange_out h2]

/-- From the stop of the firmware on, a watchdog reset moves neither the operating state nor the domain and cause registers. -/
theorem fwReset_watchdog_changes {c : Ctl} (hp : hubPowered c = true) (hr : fwRunning c = true) :
    Changes (Reg.CLK_STATUS.SOURCE :: Reg.EVR_LOST.RESET :: Reg.NRG_STATUS.CHG_STATE :: Reg.NRG_STATUS.LEARNING :: Reg.NRG_STATUS.BACKUP
        :: Reg.MBX_ALERT_PEND.PEND :: eventFlds) (.nrg :: .sbb :: .sent :: fwDropParts) (fwHalt Reg.HUB_RESET_CAUSE.FW_WDOG c) (fwReset 1 c) := by
  have back := (watchdogRollBack_changes (fwHalt Reg.HUB_RESET_CAUSE.FW_WDOG c))
  rw [fwReset_watchdog hp hr]
  refine (fwDrop_changes _).andThen (by simp) (fun _ h => by simp [h]) (setF_within (by simp) _
    ((chargerOff_changes _).andThen (by simp) (by simp) ((learnDiscard_changes _).andThen (by simp) (by simp) (back.mono ?_ ?_))))
  · simp [eventFlds]
  · simp [eventParts, fwDropParts]

/-- What a watchdog reset leaves (R71): the firmware is down with its cause set, buffered records are lost and counted, the charger is off unless it
has a fault, and the operating state stands. -/
theorem fwReset_watchdog_leaves {c : Ctl} (hp : hubPowered c = true) (hr : fwRunning c = true) :
    fwRunning (fwReset 1 c) = false ∧ getF Reg.HUB_RESET_CAUSE.FW_WDOG (fwReset 1 c) = 1 ∧ (fwReset 1 c).evr.buffer = []
    ∧ getF Reg.EVR_LOST.RESET (fwReset 1 c) = min 255 (getF Reg.EVR_LOST.RESET c + c.evr.buffer.length)
    ∧ getF Reg.NRG_STATUS.CHG_STATE (fwReset 1 c) = (if getF Reg.NRG_STATUS.CHG_STATE c = 7 then 7 else 0) ∧ (fwReset 1 c).op = c.op := by
  have changes := fwReset_watchdog_changes hp hr
  have shape := fwReset_watchdog hp hr
  refine ⟨?running, ?cause, ?buffer, ?lost, ?charger, ?state⟩
  case running =>
    have stopped : getF Reg.HUB_DOMAIN_STATUS.CORE_RUN (fwReset 1 c) = 0 := by
      rw [changes.getF_eq _ (by decide), getF_fwHalt (by decide) (by decide), getF_setF_ne (by decide), getF_addF_ne (by decide), getF_setF_same]
      rfl
    simp [fwRunning, stopped]
  case cause =>
    rw [changes.getF_eq _ (by decide), getF_fwHalt (by decide) (by decide), getF_setF_same]
    rfl
  case buffer => rw [shape, fwDrop_buffer]
  case lost =>
    rw [shape, (fwDrop_changes _).getF_eq _ (by decide), getF_setF_same]
    exact Nat.mod_eq_of_lt (Nat.lt_succ_of_le (Nat.min_le_left _ _))
  case charger =>
    have kept : getF Reg.NRG_STATUS.CHG_STATE (learnDiscard (watchdogRollBack (fwHalt Reg.HUB_RESET_CAUSE.FW_WDOG c)))
        = getF Reg.NRG_STATUS.CHG_STATE c := by
      rw [(learnDiscard_changes _).getF_eq _ (by decide), (watchdogRollBack_changes _).getF_eq _ (by decide), getF_fwHalt (by decide) (by decide),
        getF_setF_ne (by decide), getF_addF_ne (by decide), getF_setF_ne (by decide)]
    rw [shape, (fwDrop_changes _).getF_eq _ (by decide), getF_setF_ne (by decide), getF_chargerOff, kept]
  case state => exact (changes.op_eq (by simp [fwDropParts])).trans (fwHalt_op _ c)

/-! The commands. -/

/-- A firmware restart with a package that verifies brings the firmware back (R72). -/
theorem firmwareRestart_good {c : Ctl} (hp : hubPowered c = true) (hr : fwRunning c = false) (hw : wakeDone c 4 = true) (hs : c.op ≠ .saving)
    (hd : c.op ≠ .saved) {p : FwPackage} (hslot : fwSlotOf c c.ef.bootSlot = some p) (hv : fwValid c p = true) :
    firmwareRestart true c = fwBack c.ef.bootSlot c := by
  simp [firmwareRestart, hp, hr, hw, hs, hd, hslot, hv]

theorem firmwareRestart_none {c : Ctl} (good : Bool)
    (h : hubPowered c = false ∨ fwRunning c = true ∨ wakeDone c 4 = false ∨ c.op = .saving ∨ c.op = .saved) : firmwareRestart good c = c := by
  unfold firmwareRestart
  exact if_pos (by simpa using h)

/-- HEEL_SAVE_CMD's key is a trigger in the states that R13 gives one. -/
theorem heelSaveKey_taken {v : Nat} {c : Ctl} (hv : v % 65536 = 0x5AFE)
    (hop : c.op = .restoring ∨ c.op = .serving ∨ c.op = .derated ∨ c.op = .keep) : heelSaveKey v c = saveTrigger 5 c := by
  rcases hop with h | h | h | h <;> simp [heelSaveKey, hv, h]

theorem heelSaveKey_none {v : Nat} {c : Ctl}
    (h : ¬ (v % 65536 = 0x5AFE ∧ (c.op = .restoring ∨ c.op = .serving ∨ c.op = .derated ∨ c.op = .keep))) : heelSaveKey v c = c := by
  unfold heelSaveKey
  split
  · rfl
  · next hv => cases hop : c.op <;> simp_all

/-- A command on the control state is known by what it makes of the control state at hand. -/
theorem exec_onCtl {i : Instr} {s : State} {f g : Ctl → Ctl} (he : exec i s = .next (onCtl f s)) (h : f s.ctl = g s.ctl) :
    exec i s = .next (onCtl g s) := he.trans (congrArg _ (onCtl_congr h))

/-- A command on the control state that makes nothing of it changes nothing. -/
theorem exec_fixed {i : Instr} {s : State} {f : Ctl → Ctl} (he : exec i s = .next (onCtl f s)) (h : f s.ctl = s.ctl) : exec i s = .next s :=
  exec_onCtl (g := id) he h

/-- A command on the control state leads to what it makes of it where its condition holds. -/
theorem leadsTo_onCtl {i : Instr} {s : State} {cond : Prop} {f g : Ctl → Ctl} (he : exec i s = .next (onCtl f s))
    (hc : cond → f s.ctl = g s.ctl) (hn : ¬ cond → f s.ctl = s.ctl) : LeadsTo i s cond (onCtl g s) :=
  ⟨fun h => exec_onCtl he (hc h), fun h => exec_fixed he (hn h)⟩

theorem exec_hubRestart (v : Nat) (s : State) : exec (.hubRestart v) s = .next (onCtlW (hubRestartKey v) s) := rfl

/-- Settles O12: each command by what its operation makes of the control state; HUB_RESTART enters Waking at once from Dormant alone. -/
theorem restartsAndResets : Obligations.RestartsAndResets := by
  intro s
  refine ⟨?saveCmd, ?restart, ?restartDormant, ?restartNoKey, ?fwReset, ?watchdog, ?jtag, ?trst, ?fwRestart, ?fwRestartNone, ?dieWatchdog,
    ?dieWatchdogOff, ?sticky, ?fclk⟩
  case saveCmd => exact fun v => leadsTo_onCtl rfl (fun h => heelSaveKey_taken h.1 h.2) heelSaveKey_none
  case restart =>
    intro v hv hd
    have key : hubRestartKey v s.ctl = restart s.ctl := if_pos hv
    have hop : (restart s.ctl).op ≠ .waking ∨ s.ctl.op = .waking := by
      by_cases hw : s.ctl.op = .waking
      · exact .inr hw
      · exact .inl (restart_op_ne_waking hd hw)
    rw [exec_hubRestart, onCtlW_congr key, onCtlW_keeps restart s hop]
  case restartDormant =>
    intro v hv hd
    have key : hubRestartKey v s.ctl = restart s.ctl := if_pos hv
    have enters : onCtlW restart s = ⟨restart s.ctl, [], [], s.pending⟩ := if_pos ⟨restart_dormant_op hd, by simp [hd]⟩
    rw [exec_hubRestart, onCtlW_congr key, enters]
  case restartNoKey =>
    intro v hv
    have none : hubRestartKey v s.ctl = s.ctl := if_neg hv
    rw [exec_hubRestart, onCtlW_fixed none]
  case fwReset => exact fun v => leadsTo_onCtl (f := hubFwResetKey v) rfl (fun h => if_pos h) (fun h => if_neg h)
  case watchdog =>
    intro hp hr
    obtain ⟨hrun, hcause, hbuf, hlost, hchg, hop⟩ := fwReset_watchdog_leaves hp hr
    exact ⟨onCtl (fwReset 1) s, rfl, hrun, hcause, hbuf, hlost, hchg, hop, rfl, rfl, rfl⟩
  case jtag =>
    refine leadsTo_onCtl rfl (fun h => ?_) (fun h => ?_)
    · exact if_pos (by simpa using h)
    · exact if_neg (by simpa using h)
  case trst => exact leadsTo_onCtl rfl (fun h => if_neg h) (fun h => if_pos (Decidable.not_not.1 h))
  case fwRestart =>
    intro hp hr hw hs hd ⟨p, hslot, hv⟩
    exact exec_onCtl (f := firmwareRestart true) rfl (firmwareRestart_good hp hr hw hs hd hslot hv)
  case fwRestartNone => exact fun good h => exec_fixed (f := firmwareRestart good) rfl (firmwareRestart_none good h)
  case dieWatchdog =>
    intro d hp hd
    have leaves : saveDieWatchdog d.val s.ctl = dieLeaves d.val 2 s.ctl := by simp [saveDieWatchdog, hp, hd]
    exact exec_onCtl (f := saveDieWatchdog d.val) rfl leaves
  case dieWatchdogOff => exact fun d hp => exec_fixed (f := saveDieWatchdog d.val) rfl (if_pos (by simp [hp]))
  case sticky => exact fun unit word => leadsTo_onCtl (f := stickyFault unit word) rfl (fun h => if_pos h) (fun h => if_neg h)
  case fclk =>
    refine leadsTo_onCtl (f := fclkTimeout) rfl (fun h => ?_) (fun h => ?_)
    · exact if_pos (by simpa using h)
    · exact if_neg (by simpa using h)

end Sys2Proof.Machine
end

section
/-! Proofs about the staging of a configuration image (R58, R59, R389, R393): the frame of a journaled vendor command, what it leaves
of the two copies, and what each staging command does behind it. -/
namespace Sys2Proof.Machine

/-! The frame of a journaled vendor command (R384-R386, R394). -/

/-- The firmware has taken a vendor command and opened its entry. -/
def vendorTaken (opcode : Nat) (h : HeadId) (tag era : Nat) (inp : List Byte) (c : Ctl) : Ctl :=
  journalOpen opcode h tag era (crc32 inp) (takeDoorbell h c)

/-- A vendor command ends with its result: the entry is completed and the response goes out. -/
def vendorEnded (h : HeadId) (tag era seq : Nat) (r : MbxResult) : Ctl :=
  vendorReply h tag era r.status r.detail seq r.data (journalClose seq 1 r.status (rcOf r.status) r.out r.applied r.ctl)

theorem vendorTaken_changes (opcode : Nat) (h : HeadId) (tag era : Nat) (inp : List Byte) (c : Ctl) :
    Changes l1Flds [.mbx] c (vendorTaken opcode h tag era inp c) :=
  ((leaveL1_changes h _ c).trans (mbx_changes _ _ _)).trans (mbx_changes _ _ _)

/-- What passing the frame of a vendor command asks for. -/
theorem vendorRuns_iff (c : Ctl) (h : HeadId) (tag era : Nat) (states : OpState → Bool) (unlocked : Bool) :
    vendorRuns c h tag era states unlocked = true ↔ reachable c h = true ∧ fwRunning c = true ∧ sessionOpen c h = true ∧ era = sessionEra c h
      ∧ tag < dropTag ∧ states c.op = true ∧ (unlocked && getF Reg.MEM_ACCESS_STATUS.LOCKED c == 1) = false ∧ earlierEntry h tag era c = none := by
  simp only [vendorRuns, Bool.and_eq_true, decide_eq_true_eq, Bool.not_eq_true', Option.isNone_iff_eq_none, and_assoc]

/-- A command that passes the frame runs on the taken state and is completed with what it answers. -/
theorem vendor_runs {opcode : Nat} {h : HeadId} {tag era : Nat} {inp : List Byte} {states : OpState → Bool} {unlocked : Bool}
    {act : Nat → Ctl → MbxResult} {c : Ctl} (hv : vendorRuns c h tag era states unlocked = true) :
    vendor opcode h tag era inp true states unlocked false act c
      = vendorEnded h tag era c.mbx.nextSeq (act c.mbx.nextSeq (vendorTaken opcode h tag era inp c)) := by
  have taken := vendorTaken_changes opcode h tag era inp c
  have hop : (vendorTaken opcode h tag era inp c).op = c.op := taken.op_eq (by simp)
  have hlock : getF Reg.MEM_ACCESS_STATUS.LOCKED (vendorTaken opcode h tag era inp c) = getF Reg.MEM_ACCESS_STATUS.LOCKED c :=
    taken.getF_eq _ (by decide)
  obtain ⟨hreach, hfw, hopen, hera, _, hstates, hunlocked, hfirst⟩ := (vendorRuns_iff ..).1 hv
  have allowed : (if !states (vendorTaken opcode h tag era inp c).op then answered (vendorTaken opcode h tag era inp c) stWrongState 0 false
      else if unlocked && getF Reg.MEM_ACCESS_STATUS.LOCKED (vendorTaken opcode h tag era inp c) == 1
        then answered (vendorTaken opcode h tag era inp c) stSecurity 0 false
        else act c.mbx.nextSeq (vendorTaken opcode h tag era inp c)) = act c.mbx.nextSeq (vendorTaken opcode h tag era inp c) := by
    rw [hop, hlock, if_neg (by simp [hstates]), if_neg (by simp [hunlocked])]
  unfold vendor
  rw [if_neg (by simp [hreach]), if_neg (by simp [hfw]), if_neg (by simp [hopen]), if_neg (by simp [hera]), hfirst]
  exact congrArg (vendorEnded h tag era c.mbx.nextSeq) allowed

theorem mem_msix_sent {m : Msg} {c : Ctl} (h : HeadId) (v : Nat) (hm : m ∈ c.sent) : m ∈ (msix h v c).sent := by
  unfold msix
  split
  · exact List.mem_cons_of_mem _ hm
  · exact hm

theorem vendorReply_changes (h : HeadId) (tag era status detail seq : Nat) (data : List Byte) (c : Ctl) :
    Changes l1Flds [.sent] c (vendorReply h tag era status detail seq data c) := by
  unfold vendorReply
  exact Changes.ite (Changes.refl _ _ _) ((send_within _ (by simp) (Changes.refl _ _ _)).trans (msix_changes h 0 _))

/-- The response stands among what the block has sent, and the interrupt behind it takes nothing back. -/
theorem mem_vendorReply_sent (h : HeadId) {tag : Nat} (htag : tag < dropTag) (era status detail seq : Nat) (data : List Byte) (c : Ctl) :
    (⟨.head h, .mailbox, [rcOf status, tag, era, status, detail, seq], vendorHeader tag era status detail seq ++ data⟩ : Msg)
      ∈ (vendorReply h tag era status detail seq data c).sent := by
  unfold vendorReply
  rw [if_neg (Nat.not_le_of_lt htag)]
  exact mem_msix_sent h 0 List.mem_cons_self

/-- The entry that a command has opened is completed with its result. -/
theorem journalClose_opened (opcode : Nat) (h : HeadId) (tag era inCrc : Nat) (c : Ctl) {d : Ctl} (st status rc out : Nat) (applied : Bool)
    (hd : d.mbx.jrnl = (journalOpen opcode h tag era inCrc c).mbx.jrnl) :
    ∃ e ∈ (journalClose c.mbx.nextSeq st status rc out applied d).mbx.jrnl, e.seq = c.mbx.nextSeq ∧ e.st = st ∧ e.rc = rc := by
  have opened : (⟨c.mbx.nextSeq, opcode, tag, era, h, false, 0, 0, 0, nowNs c, inCrc, 0⟩ : JnlEntry) ∈ d.mbx.jrnl := by
    rw [hd]
    exact List.mem_cons_self
  exact ⟨_, List.mem_map_of_mem opened, by simp, by simp, by simp⟩

/-- What a journaled vendor command that passes the frame comes to: the answer and the completed entry are those of its result, and but for the
transcript, the mailbox and the L1 bits the result's state stands. -/
theorem vendor_outcome {opcode : Nat} {h : HeadId} {tag era : Nat} {inp : List Byte} {states : OpState → Bool} {unlocked : Bool}
    {act : Nat → Ctl → MbxResult} {s : State} {r : MbxResult} {i : Instr}
    (hi : exec i s = .next (onCtl (vendor opcode h tag era inp true states unlocked false act) s))
    (hv : vendorRuns s.ctl h tag era states unlocked = true)
    (hr : act s.ctl.mbx.nextSeq (vendorTaken opcode h tag era inp s.ctl) = r)
    (hj : r.ctl.mbx.jrnl = (vendorTaken opcode h tag era inp s.ctl).mbx.jrnl) (hn : r.ctl.mbx.nextSeq = s.ctl.mbx.nextSeq + 1) :
    ∃ t, exec i s = .next t ∧ Answered t h (rcOf r.status) tag era r.status r.detail s.ctl.mbx.nextSeq ∧ Journaled s t (rcOf r.status) ∧ SameMemory s t
      ∧ Changes l1Flds [.sent, .mbx] r.ctl t.ctl ∧ t.ctl.mbx.stage = r.ctl.mbx.stage := by
  obtain ⟨_, _, _, _, htag, _⟩ := (vendorRuns_iff ..).1 hv
  have ended : (onCtl (vendor opcode h tag era inp true states unlocked false act) s).ctl = vendorEnded h tag era s.ctl.mbx.nextSeq r := by
    rw [onCtl_ctl, vendor_runs hv, hr]
  have reply := vendorReply_changes h tag era r.status r.detail s.ctl.mbx.nextSeq r.data
    (journalClose s.ctl.mbx.nextSeq 1 r.status (rcOf r.status) r.out r.applied r.ctl)
  have mbx : (vendorEnded h tag era s.ctl.mbx.nextSeq r).mbx
      = (journalClose s.ctl.mbx.nextSeq 1 r.status (rcOf r.status) r.out r.applied r.ctl).mbx := reply.2 .mbx (by simp)
  obtain ⟨e, he, hseq, hst, hrc⟩ := journalClose_opened opcode h tag era (crc32 inp) (takeDoorbell h s.ctl) 1 r.status (rcOf r.status) r.out r.applied hj
  refine ⟨_, hi, ?answered, ⟨e, ?entry, hseq, hst, hrc, ?next⟩, ⟨rfl, rfl, rfl⟩, ?changes, ?stage⟩
  case answered =>
    refine ⟨vendorHeader tag era r.status r.detail s.ctl.mbx.nextSeq ++ r.data, ?_⟩
    rw [ended]
    exact mem_vendorReply_sent h htag era r.status r.detail _ r.data _
  case entry =>
    rw [ended, mbx]
    exact he
  case next =>
    rw [ended, mbx]
    exact hn
  case changes =>
    rw [ended]
    exact ((mbx_changes _ _ r.ctl).mono (fun _ h => h) (by simp)).trans (reply.mono (fun _ h => h) (by simp))
  case stage =>
    rw [ended, mbx]
    rfl

/-! The two copies (R51, R58). -/

def activeNor (c : Ctl) : ImageCopy := if inactiveCopy c then c.nor.copyA else c.nor.copyB
def inactiveNor (c : Ctl) : ImageCopy := if inactiveCopy c then c.nor.copyB else c.nor.copyA

theorem inactiveCopy_putInactive (m : ImageCopy) (c : Ctl) : inactiveCopy (putInactive m c) = inactiveCopy c := rfl

theorem inactiveNor_putInactive (m : ImageCopy) (c : Ctl) : inactiveNor (putInactive m c) = m := by
  unfold inactiveNor
  rw [inactiveCopy_putInactive]
  cases h : inactiveCopy c <;> simp [putInactive, h]

/-- The active copy is never written. -/
theorem activeNor_putInactive (m : ImageCopy) (c : Ctl) : activeNor (putInactive m c) = activeNor c := by
  unfold activeNor
  rw [inactiveCopy_putInactive]
  cases h : inactiveCopy c <;> simp [putInactive, h]

theorem putInactive_changes (fs : List Fld) (m : ImageCopy) (c : Ctl) : Changes fs [.nor] c (putInactive m c) :=
  changes_parts rfl (fun p hp => by cases p <;> first | rfl | simp at hp)

/-- What touches neither the NOR nor ACTIVE_COPY keeps which copy is active, and both copies. -/
theorem Changes.copies_eq {fs : List Fld} {ps : List Part} {c d : Ctl} (h : Changes fs ps c d)
    (hf : Reg.HUB_CFG_STATUS.ACTIVE_COPY.key ∉ fs.map Fld.key) (hp : Part.nor ∉ ps) : activeNor d = activeNor c ∧ inactiveNor d = inactiveNor c := by
  have hnor : d.nor = c.nor := h.2 .nor hp
  have hcopy : inactiveCopy d = inactiveCopy c := by
    unfold inactiveCopy
    rw [h.getF_eq _ hf]
  unfold activeNor inactiveNor
  rw [hnor, hcopy]
  exact ⟨rfl, rfl⟩

/-- A command that writes the inactive copy between its arrival and its answer leaves there what it wrote, and the active copy as it was. -/
theorem copies_of_putInactive {fs : List Fld} {m : ImageCopy} {c b d e : Ctl} (hin : Changes l1Flds [.mbx] c b)
    (hmid : Changes fs [.mbx] (putInactive m b) d) (hout : Changes l1Flds [.sent, .mbx] d e)
    (hf : Reg.HUB_CFG_STATUS.ACTIVE_COPY.key ∉ fs.map Fld.key) :
    inactiveNor e = m ∧ activeNor e = activeNor c ∧ Changes (fs ++ l1Flds) [.nor, .mbx, .sent] c e := by
  obtain ⟨ain, _⟩ := hin.copies_eq (by decide) (by simp)
  obtain ⟨amid, imid⟩ := hmid.copies_eq hf (by simp)
  obtain ⟨aout, iout⟩ := hout.copies_eq (by decide) (by simp)
  refine ⟨?_, ?_, ?_⟩
  · rw [iout, imid, inactiveNor_putInactive]
  · rw [aout, amid, activeNor_putInactive, ain]
  · exact (((hin.mono (List.subset_append_right _ _) (by simp)).trans ((putInactive_changes _ m b).mono (fun _ h => h) (by simp))).trans
      (hmid.mono (List.subset_append_left _ _) (by simp))).trans (hout.mono (List.subset_append_right _ _) (by simp))

/-! The staging commands (R389). -/

theorem exec_stageStart (h : HeadId) (tag era : Nat) (hdr : List Byte) (n : Nat) (s : State) : exec (.stageStart h tag era hdr n) s
    = .next (onCtl (vendor 0xC010 h tag era (hdr ++ leBytes n 4) true stageStates true false (fun _ => stageStart h (headerOf hdr) n)) s) := rfl

theorem exec_stageData (h : HeadId) (tag era off : Nat) (data : List Byte) (good : Bool) (s : State) : exec (.stageData h tag era off data good) s
    = .next (onCtl (vendor 0xC011 h tag era (leBytes off 8 ++ data) true stageStates true false (fun _ => stageData h off data good)) s) := rfl

theorem exec_stageFinish (h : HeadId) (tag era : Nat) (img : ImageCopy) (s : State) : exec (.stageFinish h tag era img) s
    = .next (onCtl (vendor 0xC012 h tag era [] true stageStates true false (fun _ => stageFinish h img)) s) := rfl

theorem exec_stageAbort (h : HeadId) (tag era : Nat) (s : State) : exec (.stageAbort h tag era) s
    = .next (onCtl (vendor 0xC013 h tag era [] true anyState true false (fun _ c =>
        if stageBusy h c then answered c stBusy 0 false else answered (abortStage false c) stOk 0 true)) s) := rfl

/-- The checks of a header read nothing that a mailbox command's arrival touches. -/
theorem stageReject_congr (m : ImageCopy) {c d : Ctl} (h : Changes l1Flds [.mbx] c d) : stageReject m d = stageReject m c := by
  have hnor : d.nor = c.nor := h.2 .nor (by simp)
  have hef : d.ef = c.ef := h.2 .ef (by simp)
  unfold stageReject dirInUse inactiveCopy variantS dieStepping
  rw [hnor, hef, h.getF_eq Reg.HUB_CFG_STATUS.DIR_DUP (by decide), h.getF_eq Reg.HUB_CFG_STATUS.ACTIVE_COPY (by decide),
    h.getF_eq Reg.HUB_ID.VARIANT (by decide), h.getF_eq Reg.HUB_STEPPING.HUB (by decide), h.getF_eq Reg.HUB_STEPPING.S0 (by decide),
    h.getF_eq Reg.HUB_STEPPING.S1 (by decide), h.getF_eq Reg.HUB_CFG_GEN.VALUE (by decide)]

/-- A staging begins: the inactive copy is erased and no byte of the image has come. -/
theorem stageStart_accepted {h : HeadId} {hdr : ImageCopy} {c : Ctl} (hb : stageBusy h c = false) (hr : stageReject hdr c = 0) :
    stageStart h hdr hdr.imageSize c = answered (updMbx (fun m => { m with stage := ⟨2, h, 0, 0, headerOnly hdr, c.uptime⟩ })
      (setF Reg.HUB_CFG_STATUS.STAGED 0 (putInactive ImageCopy.erased c))) stOk 0 true := by
  unfold stageStart
  rw [if_neg (by simp [hb])]
  dsimp only
  rw [if_neg (by simp [hr])]
  rfl

theorem stageStart_refused {h : HeadId} {hdr : ImageCopy} {n r : Nat} {c : Ctl} (hb : stageBusy h c = false)
    (hr : (if n ≠ hdr.imageSize then 3 else stageReject hdr c) = r) (h0 : r ≠ 0) :
    stageStart h hdr n c = answered (updMbx (fun m => { m with stage := { m.stage with reject := r } }) c) stRefused r false := by
  unfold stageStart
  rw [if_neg (by simp [hb])]
  dsimp only
  rw [hr, if_pos h0]

/-- A part of the image that follows the last one is programmed into the inactive copy. -/
theorem stageData_taken {h : HeadId} {data : List Byte} {c : Ctl} (hb : stageBusy h c = false) (hst : c.mbx.stage.st = 2)
    (hne : data ≠ []) (hlen : data.length ≤ 61440) (hsize : c.mbx.stage.bytes + data.length ≤ c.mbx.stage.hdr.imageSize)
    (hgrain : data.length % 4096 = 0 ∨ c.mbx.stage.bytes + data.length = c.mbx.stage.hdr.imageSize) :
    ∃ m out back, stageData h c.mbx.stage.bytes data true c
      = ⟨updMbx (fun x => { x with stage := { x.stage with bytes := c.mbx.stage.bytes + data.length, last := c.uptime } }) (putInactive m c),
          stOk, 0, true, back, out⟩ := by
  have hpos : data.length ≠ 0 := fun h0 => hne (List.length_eq_zero_iff.1 h0)
  unfold stageData
  rw [if_neg (by simp [hb]), if_neg (by simp [hst])]
  dsimp only
  rw [if_neg (by simp), if_neg (by omega), if_neg (by omega), if_neg (by simp)]
  exact ⟨_, _, _, rfl⟩

theorem stageData_outOfOrder {h : HeadId} {off : Nat} {data : List Byte} {good : Bool} {c : Ctl} (hb : stageBusy h c = false)
    (hst : c.mbx.stage.st = 2) (hoff : off ≠ c.mbx.stage.bytes) : stageData h off data good c = answered c stSequence c.mbx.stage.bytes false := by
  unfold stageData
  rw [if_neg (by simp [hb]), if_neg (by simp [hst])]
  exact if_pos hoff

/-- The whole image is judged by R55: it becomes the staged copy, or the staging ends with the REJECT code. -/
theorem stageFinish_judged {h : HeadId} {img : ImageCopy} {c : Ctl} (hb : stageBusy h c = false) (hst : c.mbx.stage.st = 2)
    (hbytes : c.mbx.stage.bytes = c.mbx.stage.hdr.imageSize) (himg : headerOnly img = { c.mbx.stage.hdr with readFails := img.readFails }) :
    (∃ out back, stageFinish h img c = ⟨setF Reg.HUB_CFG_STATUS.STAGED 1 (updMbx (fun m => { m with stage := { m.stage with st := 4, reject := 0, last := c.uptime } })
        (putInactive img c)), stOk, 0, true, back, out⟩)
    ∨ ∃ r, r ≠ 0 ∧ stageFinish h img c = answered (updMbx (fun m => { m with stage := { m.stage with st := 5, reject := r } }) (putInactive img c)) stRefused r false := by
  unfold stageFinish
  rw [if_neg (by simp [hb]), if_neg (by simp [hst, hbytes, himg])]
  extract_lets d r1 r
  by_cases hr : r = 0
  · exact .inl ⟨_, _, if_pos hr⟩
  · exact .inr ⟨r, hr, if_neg hr⟩

theorem abortStage_quiet_stage (c : Ctl) :
    (abortStage false c).mbx.stage = if staging c then { c.mbx.stage with st := 5 } else c.mbx.stage := by
  unfold abortStage
  split <;> rfl

/-- Cutting off a staging leaves the journal alone. -/
theorem abortStage_quiet_jrnl (c : Ctl) :
    (abortStage false c).mbx.jrnl = c.mbx.jrnl ∧ (abortStage false c).mbx.nextSeq = c.mbx.nextSeq := by
  unfold abortStage
  split <;> exact ⟨rfl, rfl⟩

theorem stageAbort_free {h : HeadId} {c : Ctl} (hb : stageBusy h c = false) :
    (if stageBusy h c then answered c stBusy 0 false else answered (abortStage false c) stOk 0 true) = answered (abortStage false c) stOk 0 true :=
  if_neg (by simp [hb])

/-- The interrupt and the wake event behind a vendor alert leave its pending bit. -/
theorem getF_vendorAlert_pend (i : Nat) (c : Ctl) :
    getF Reg.MBX_ALERT_PEND.PEND (vendorAlert i c) = bitSet (getF Reg.MBX_ALERT_PEND.PEND c) i % 2 ^ Reg.MBX_ALERT_PEND.PEND.width := by
  unfold vendorAlert
  rw [(Changes.foldl (fun d h => msixWake_changes _ _ h 3 d) bothHeads _).getF_eq _ (by decide), getF_setF_same]

theorem testBit_bitSet (m i : Nat) : (bitSet m i).testBit i = true := by
  simp [bitSet]

/-- An idle staging is aborted with alert 3 (R389, R393). -/
theorem abortStage_alert {c : Ctl} (hs : staging c = true) :
    (abortStage true c).mbx.stage.st = 5 ∧ (getF Reg.MBX_ALERT_PEND.PEND (abortStage true c)).testBit 3 = true := by
  have alerted : abortStage true c = vendorAlert 3 (updMbx (fun m => { m with stage := { m.stage with st := 5 } }) c) := by
    unfold abortStage
    rw [if_pos hs]
    rfl
  rw [alerted]
  constructor
  · have mbx := (vendorAlert_changes 3 (updMbx (fun m => { m with stage := { m.stage with st := 5 } }) c)).2 .mbx (by simp)
    exact congrArg (fun m => m.stage.st) mbx
  · rw [getF_vendorAlert_pend, Nat.testBit_mod_two_pow, testBit_bitSet]
    rfl

/-- Settles O53: each command runs behind the frame of `vendor_outcome`, and only `putInactive` writes a copy. (`staging` names the model's own
predicate.) -/
theorem configurationStaging : Obligations.Staging := by
  intro s h tag era
  refine ⟨?start, ?startRefused, ?data, ?dataOutOfOrder, ?finish, ?abort, ?idle, abortStage_alert⟩
  case start =>
    intro hdr hv hb hr
    have taken := vendorTaken_changes 0xC010 h tag era (hdr ++ leBytes (headerOf hdr).imageSize 4) s.ctl
    have started := stageStart_accepted (c := vendorTaken 0xC010 h tag era (hdr ++ leBytes (headerOf hdr).imageSize 4) s.ctl)
      hb ((stageReject_congr _ taken).trans hr)
    obtain ⟨t, ht, hans, hjrn, hmem, hout, hstage⟩ := vendor_outcome (exec_stageStart h tag era hdr _ s) hv started rfl rfl
    obtain ⟨hi, ha, hch⟩ := copies_of_putInactive (fs := [Reg.HUB_CFG_STATUS.STAGED]) taken
      ((setF_within (by simp) 0 (Changes.refl _ _ _)).trans (mbx_changes _ _ _)) hout (by decide)
    exact ⟨t, ht, by rw [hstage]; rfl, by rw [hstage]; rfl, by rw [hstage]; rfl, hi, ha, by rw [hstage]; rfl, hch.1, hans, hjrn, hmem⟩
  case startRefused =>
    intro hdr n hv hb hr
    have taken := vendorTaken_changes 0xC010 h tag era (hdr ++ leBytes n 4) s.ctl
    have refused := stageStart_refused (c := vendorTaken 0xC010 h tag era (hdr ++ leBytes n 4) s.ctl) hb
      (by rw [stageReject_congr _ taken]) hr
    obtain ⟨t, ht, hans, _, hmem, hout, _⟩ := vendor_outcome (exec_stageStart h tag era hdr n s) hv refused rfl rfl
    have kept : Changes l1Flds [.sent, .mbx] s.ctl t.ctl :=
      ((taken.trans (mbx_changes _ _ _)).mono (fun _ h => h) (by simp)).trans hout
    exact ⟨t, ht, kept.2 .nor (by simp), hans, kept.1, hmem⟩
  case data =>
    intro off data hv hb hst hoff hne hlen hsize hgrain
    subst hoff
    have taken := vendorTaken_changes 0xC011 h tag era (leBytes s.ctl.mbx.stage.bytes 8 ++ data) s.ctl
    obtain ⟨m, out, back, programmed⟩ := stageData_taken
      (c := vendorTaken 0xC011 h tag era (leBytes s.ctl.mbx.stage.bytes 8 ++ data) s.ctl) hb hst hne hlen hsize hgrain
    obtain ⟨t, ht, hans, hjrn, hmem, hout, hstage⟩ :=
      vendor_outcome (exec_stageData h tag era s.ctl.mbx.stage.bytes data true s) hv programmed rfl rfl
    obtain ⟨_, ha, hch⟩ := copies_of_putInactive (fs := []) taken (mbx_changes _ _ _) hout (by simp)
    exact ⟨t, ht, by rw [hstage]; rfl, by rw [hstage]; rfl, ha, hch.1, hans, hjrn, hmem⟩
  case dataOutOfOrder =>
    intro off data hv hb hst hoff
    have taken := vendorTaken_changes 0xC011 h tag era (leBytes off 8 ++ data) s.ctl
    have missed := stageData_outOfOrder (data := data) (good := true) (c := vendorTaken 0xC011 h tag era (leBytes off 8 ++ data) s.ctl) hb hst hoff
    obtain ⟨t, ht, hans, _, hmem, hout, hstage⟩ := vendor_outcome (exec_stageData h tag era off data true s) hv missed rfl rfl
    exact ⟨t, ht, hans, hstage, (hout.2 .nor (by simp)).trans (taken.2 .nor (by simp)), hmem⟩
  case finish =>
    intro img hv hb hst hbytes himg
    have taken := vendorTaken_changes 0xC012 h tag era [] s.ctl
    rcases stageFinish_judged (c := vendorTaken 0xC012 h tag era [] s.ctl) hb hst hbytes himg with ⟨out, back, passed⟩ | ⟨r, hr, failed⟩
    · obtain ⟨t, ht, hans, hjrn, hmem, hout, hstage⟩ := vendor_outcome (exec_stageFinish h tag era img s) hv passed rfl rfl
      obtain ⟨hi, ha, hch⟩ := copies_of_putInactive (fs := [Reg.HUB_CFG_STATUS.STAGED]) taken
        (setF_within (by simp) 1 (mbx_changes _ _ _)) hout (by decide)
      have staged : getF Reg.HUB_CFG_STATUS.STAGED t.ctl = 1 := by
        rw [hout.getF_eq _ (by decide), getF_setF_same]
        rfl
      exact ⟨t, ht, hi, ha, hmem, .inl ⟨by rw [hstage]; rfl, staged, hans, hjrn, hmem⟩⟩
    · obtain ⟨t, ht, hans, _, hmem, hout, hstage⟩ := vendor_outcome (exec_stageFinish h tag era img s) hv failed rfl rfl
      obtain ⟨hi, ha, _⟩ := copies_of_putInactive (fs := []) taken (mbx_changes _ _ _) hout (by simp)
      have hst : t.ctl.mbx.stage.st = 5 := by rw [hstage]; rfl
      have hrej : t.ctl.mbx.stage.reject = r := by rw [hstage]; rfl
      exact ⟨t, ht, hi, ha, hmem, .inr ⟨hst, hrej ▸ hr, hrej ▸ hans⟩⟩
  case abort =>
    intro hv hb
    have taken := vendorTaken_changes 0xC013 h tag era [] s.ctl
    have aborted := stageAbort_free (c := vendorTaken 0xC013 h tag era [] s.ctl) hb
    obtain ⟨jrnl, next⟩ := abortStage_quiet_jrnl (vendorTaken 0xC013 h tag era [] s.ctl)
    obtain ⟨t, ht, hans, hjrn, hmem, hout, hstage⟩ := vendor_outcome (exec_stageAbort h tag era s) hv aborted jrnl next
    have stage : t.ctl.mbx.stage = if staging s.ctl then { s.ctl.mbx.stage with st := 5 } else s.ctl.mbx.stage :=
      hstage.trans (abortStage_quiet_stage _)
    have kept : Changes l1Flds [.sent, .mbx] s.ctl t.ctl :=
      ((taken.trans (abortStage_quiet_changes _ _)).mono (fun _ h => h) (by simp)).trans hout
    exact ⟨t, ht, fun hs => by rw [stage, if_pos hs], fun hs => by rw [stage, if_neg (by simp [hs])], kept.2 .nor (by simp), kept.1, hans, hjrn, hmem⟩
  case idle => exact leadsTo_onCtl (f := fun c => if fwRunning c then abortStage true c else c) rfl (fun h => if_pos h) (fun h => if_neg h)

end Sys2Proof.Machine
end

section
/-! Operations that leave every register as it is: a bound on the parts that they change, and the shared ones within it. -/
namespace Sys2Proof.Machine

/-- An operation leaves the registers, and every part but those listed, as they are. -/
def PartsOnly (ps : List Part) (c d : Ctl) : Prop := d.rf = c.rf ∧ ∀ p, p ∉ ps → p.Same c d

theorem PartsOnly.refl (ps : List Part) (c : Ctl) : PartsOnly ps c c := ⟨rfl, fun p _ => same_refl p c⟩

theorem PartsOnly.trans {ps : List Part} {c d e : Ctl} (h : PartsOnly ps c d) (g : PartsOnly ps d e) : PartsOnly ps c e :=
  ⟨g.1.trans h.1, fun p hp => same_trans (h.2 p hp) (g.2 p hp)⟩

theorem PartsOnly.mono {ps qs : List Part} {c d : Ctl} (h : PartsOnly ps c d) (hp : ps ⊆ qs) : PartsOnly qs c d :=
  ⟨h.1, fun p hq => h.2 p (fun hm => hq (hp hm))⟩

theorem PartsOnly.ite {ps : List Part} {p : Prop} [Decidable p] {c d e : Ctl} (h : PartsOnly ps c d) (g : PartsOnly ps c e) :
    PartsOnly ps c (if p then d else e) := by
  split <;> assumption

theorem PartsOnly.changes {ps : List Part} {c d : Ctl} (fs : List Fld) (h : PartsOnly ps c d) : Changes fs ps c d := changes_parts h.1 h.2

theorem welt_only (w : Welt) (c : Ctl) : PartsOnly [.welt] c { c with welt := w } :=
  ⟨rfl, fun p hp => by cases p <;> first | rfl | simp at hp⟩

theorem weltNv_only (w : WeltNv) (c : Ctl) : PartsOnly [.weltNv] c { c with weltNv := w } :=
  ⟨rfl, fun p hp => by cases p <;> first | rfl | simp at hp⟩

theorem updFlash_only (f : Flash → Flash) (c : Ctl) : PartsOnly [.flash] c (updFlash f c) :=
  ⟨rfl, fun p hp => by cases p <;> first | rfl | simp at hp⟩

theorem reel_only (r : Reel) (c : Ctl) : PartsOnly [.reel] c { c with reel := r } :=
  ⟨rfl, fun p hp => by cases p <;> first | rfl | simp at hp⟩

theorem pipe_only (x : Pipe) (c : Ctl) : PartsOnly [.pipe] c { c with pipe := x } :=
  ⟨rfl, fun p hp => by cases p <;> first | rfl | simp at hp⟩

theorem clock_only (n : Nat) (k : Clk) (c : Ctl) : PartsOnly [.uptime, .clk] c { c with uptime := n, clk := k } :=
  ⟨rfl, fun p hp => by cases p <;> first | rfl | simp at hp⟩

theorem updGuest_only (f : Guest → Guest) (c : Ctl) : PartsOnly [.guest] c (updGuest f c) :=
  ⟨rfl, fun p hp => by cases p <;> first | rfl | simp at hp⟩

/-- A message on a link rides a flit, which the link holds; a guest's message waits there too. -/
theorem sendLink_only (k : Nat) (kind : MsgKind) (args : List Nat) (data : List Byte) (c : Ctl) :
    PartsOnly [.prd, .sent, .guest] c (sendLink k kind args data c) :=
  PartsOnly.ite ⟨rfl, fun p hp => by cases p <;> first | rfl | simp at hp⟩ ⟨rfl, fun p hp => by cases p <;> first | rfl | simp at hp⟩

end Sys2Proof.Machine
end

section
/-! Proofs about the write budget (R177, R178, R180, R262): what a change to Derated and a write of DTK_BUDGET_FW touch at most, and
each outcome of a recomputation. -/
namespace Sys2Proof.Machine

/-! What EVT messages and a change to Derated touch. -/

theorem pumpEvt_only (n : Nat) (c : Ctl) : PartsOnly [.prd, .sent, .guest] c (pumpEvt n c) := by
  induction n generalizing c with
  | zero => exact PartsOnly.refl _ _
  | succ n ih =>
    unfold pumpEvt
    split
    · exact PartsOnly.refl _ _
    · exact PartsOnly.ite (PartsOnly.refl _ _) ((((updGuest_only _ c).mono (by simp)).trans (sendLink_only ..)).trans (ih _))

theorem sendEvt_only (kind value : Nat) (c : Ctl) : PartsOnly [.prd, .sent, .guest] c (sendEvt kind value c) := by
  unfold sendEvt
  exact PartsOnly.ite (((updGuest_only _ c).mono (by simp)).trans (pumpEvt_only ..)) (PartsOnly.refl _ _)

/-- The parts that a change of the operating state with its EVT STATE may touch. -/
def goParts : List Part := .prd :: .guest :: stateParts

theorem goState_changes (o : OpState) (c : Ctl) : Changes stateFlds goParts c (goState o c) :=
  ((setState_changes o c).mono (fun _ h => h) (fun _ h => by simp [goParts, h])).trans
    (((sendEvt_only ..).mono (by simp [goParts, stateParts, eventParts])).changes _)

theorem derateCheck_changes (c : Ctl) : Changes (Reg.HEEL_DEGRADE.DERATE :: stateFlds) goParts c (derateCheck c) := by
  have bits : Changes (Reg.HEEL_DEGRADE.DERATE :: stateFlds) goParts c (setF Reg.HEEL_DEGRADE.DERATE (derateBits c) c) :=
    setF_within (by simp) _ (Changes.refl _ _ _)
  unfold derateCheck
  exact Changes.ite ((goState_changes ..).andThen (List.subset_cons_self _ _) (fun _ h => h) bits) bits

theorem keepCausesNow_changes (c : Ctl) : Changes [Reg.HEEL_DEGRADE.KEEP] [] c (keepCausesNow c) := by
  unfold keepCausesNow
  exact Changes.ite (Changes.refl _ _ _) (setF_changes _ _ c)

/-! A write of DTK_BUDGET_FW (R177). -/

/-- The value is in force, its age is cleared and counts from now. -/
theorem budgetWrite_leaves (v : Nat) (c : Ctl) :
    getF Reg.DTK_BUDGET_FW.VALUE (budgetWrite v c) = v % 2 ^ Reg.DTK_BUDGET_FW.VALUE.width
    ∧ getF Reg.DTK_BUDGET_AGE.STALE (budgetWrite v c) = 0 ∧ (budgetWrite v c).dtk.fwAt = some c.uptime := by
  unfold budgetWrite
  extract_lets derated
  have after := fun d => ((derateCheck_changes d).mono (List.subset_cons_self Reg.HEEL_DEGRADE.KEEP _) (fun _ h => h)).trans
    ((keepCausesNow_changes (derateCheck d)).mono (by simp) (by simp))
  refine ⟨?value, ?fresh, ?age⟩
  case value => rw [(after _).getF_eq _ (by decide), getF_setF_same]
  case fresh => rw [(after _).getF_eq _ (by decide), getF_setF_ne (by decide), getF_setF_same, Nat.zero_mod]
  case age => exact congrArg Dtk.fwAt ((after _).2 .dtk (by decide))

/-! A recomputation (R177). -/

/-- What M2 keeps of the results of a second that have all exceeded the value. -/
def raiseKept (o : Option Nat) (c : Ctl) : Ctl := { c with dtk := { c.dtk with raiseMin := o } }

/-- The lowest of the results so far, this one among them. -/
def lowestResult (c : Ctl) : Nat := match c.dtk.raiseMin with | some m => min m (budgetNow c) | none => budgetNow c

theorem lowestResult_le (c : Ctl) : lowestResult c ≤ budgetNow c := by
  unfold lowestResult
  split
  · exact Nat.min_le_right _ _
  · exact Nat.le_refl _

theorem budgetRecompute_idle (second : Bool) {c : Ctl} (h : fwRunning c = false ∨ c.dtk.fwAt = none) : budgetRecompute second c = c := by
  unfold budgetRecompute
  exact if_pos (by simpa using h)

section
variable {c : Ctl} (hr : fwRunning c = true) (hw : c.dtk.fwAt ≠ none)
include hr hw

/-- A running M2 that has written once takes the result: at once when it is no higher, else by what the second has shown. -/
theorem budgetRecompute_cases (second : Bool) :
    budgetRecompute second c =
      if budgetNow c ≤ getF Reg.DTK_BUDGET_FW.VALUE c then budgetWrite (budgetNow c) (raiseKept none c)
      else if (second && c.dtk.raiseMin.isSome) = true then budgetWrite (lowestResult c) (raiseKept none c)
      else budgetWrite (getF Reg.DTK_BUDGET_FW.VALUE c) (raiseKept (some (lowestResult c)) c) := by
  unfold budgetRecompute
  exact if_neg (by simp [hr, hw])

theorem budgetRecompute_lower (second : Bool) (h : budgetNow c ≤ getF Reg.DTK_BUDGET_FW.VALUE c) :
    budgetRecompute second c = budgetWrite (budgetNow c) (raiseKept none c) := by
  rw [budgetRecompute_cases hr hw, if_pos h]

theorem budgetRecompute_raise {m : Nat} (h : getF Reg.DTK_BUDGET_FW.VALUE c < budgetNow c) (hm : c.dtk.raiseMin = some m) :
    budgetRecompute true c = budgetWrite (min m (budgetNow c)) (raiseKept none c) := by
  have low : lowestResult c = min m (budgetNow c) := by simp [lowestResult, hm]
  rw [budgetRecompute_cases hr hw, if_neg (Nat.not_le_of_lt h), if_pos (by simp [hm]), low]

theorem budgetRecompute_gather (h : getF Reg.DTK_BUDGET_FW.VALUE c < budgetNow c) :
    budgetRecompute false c = budgetWrite (getF Reg.DTK_BUDGET_FW.VALUE c) (raiseKept (some (lowestResult c)) c) := by
  rw [budgetRecompute_cases hr hw, if_neg (Nat.not_le_of_lt h), if_neg (by simp)]

end

/-! A stale budget (R178). -/

theorem passTo_uptime (t : Nat) (c : Ctl) : (passTo t c).uptime = max c.uptime t := by
  unfold passTo
  by_cases h : t ≤ c.uptime
  · rw [if_pos h, Nat.max_eq_left h]
  · rw [if_neg h, Nat.max_eq_right (Nat.le_of_not_le h)]
    dsimp only
    split <;> rfl

theorem passTo_only (t : Nat) (c : Ctl) : PartsOnly [.uptime, .clk] c (passTo t c) := by
  unfold passTo
  exact PartsOnly.ite (PartsOnly.refl _ _) (PartsOnly.ite (clock_only _ _ c) (clock_only _ c.clk c))

/-- The budget is marked stale, and the mark is counted. -/
def staleMarked (c : Ctl) : Ctl := addF Reg.DTK_BUDGET_AGE.STALE_COUNT (setF Reg.DTK_BUDGET_AGE.STALE 1 c)

theorem staleMarked_changes (c : Ctl) : Changes [Reg.DTK_BUDGET_AGE.STALE, Reg.DTK_BUDGET_AGE.STALE_COUNT] [] c (staleMarked c) :=
  addF_within (by simp) (setF_within (by simp) 1 (Changes.refl _ _ _))

@[simp] theorem staleMarked_uptime (c : Ctl) : (staleMarked c).uptime = c.uptime := rfl

/-- A budget whose age is up is marked, with its event, and Serving may end. -/
theorem staleCheck_due {w : Nat} {c : Ctl} (hw : c.dtk.fwAt = some w) (h : getF Reg.DTK_BUDGET_AGE.STALE c = 0) (late : w + 1000000000 ≤ c.uptime) :
    staleCheck c = derateCheck (logEvent 0x0501 5 2 (effB (staleMarked c) * 4294967296) (staleMarked c)) := by
  have due : ¬ (getF Reg.DTK_BUDGET_AGE.STALE c = 1 ∨ c.uptime < w + 1000000000) := by omega
  unfold staleCheck
  rw [hw]
  exact if_neg due

theorem budgetStale_due {w : Nat} {c : Ctl} (hw : c.dtk.fwAt = some w) (h : getF Reg.DTK_BUDGET_AGE.STALE c = 0) :
    budgetStale c = staleCheck (passTo (w + 1000000000) c) := by
  unfold budgetStale
  rw [hw]
  exact if_neg (by simp [h])

theorem budgetStale_none {c : Ctl} (h : c.dtk.fwAt = none ∨ getF Reg.DTK_BUDGET_AGE.STALE c = 1) : budgetStale c = c := by
  unfold budgetStale
  split
  · rfl
  · next hw => exact if_pos (by simpa [hw] using h)

/-- A stale budget counts as at most its frozen value. -/
theorem effB_le_frozen {c : Ctl} (h : getF Reg.DTK_BUDGET_AGE.STALE c = 1) : effB c ≤ getF Reg.DTK_BUDGET_FROZEN.VALUE c := by
  unfold effB
  exact le_of_eq_of_le (if_pos h) (Nat.min_le_right _ _)

/-- What a budget that comes of age leaves: the mark and the time that has passed; the value stands. -/
theorem budgetStale_leaves {w : Nat} {c : Ctl} (hw : c.dtk.fwAt = some w) (h : getF Reg.DTK_BUDGET_AGE.STALE c = 0) :
    getF Reg.DTK_BUDGET_AGE.STALE (budgetStale c) = 1 ∧ (budgetStale c).uptime = max c.uptime (w + 1000000000)
    ∧ getF Reg.DTK_BUDGET_FW.VALUE (budgetStale c) = getF Reg.DTK_BUDGET_FW.VALUE c
    ∧ effB (budgetStale c) ≤ getF Reg.DTK_BUDGET_FROZEN.VALUE c := by
  have passed := passTo_only (w + 1000000000) c
  have time := passTo_uptime (w + 1000000000) c
  rw [budgetStale_due hw h]
  generalize passTo (w + 1000000000) c = d at passed time ⊢
  have late : w + 1000000000 ≤ d.uptime := time ▸ Nat.le_max_right _ _
  have marked := staleMarked_changes d
  have after : Changes (Reg.HEEL_DEGRADE.DERATE :: stateFlds) goParts (staleMarked d) (staleCheck d) := by
    rw [staleCheck_due ((congrArg Dtk.fwAt (passed.2 .dtk (by simp))).trans hw) ((getF_congr _ passed.1).trans h) late]
    exact (derateCheck_changes _).andThen (fun _ h => h) (fun _ h => h)
      ((logEvent_changes ..).mono (fun _ h => by simp [stateFlds, h]) (fun _ h => by simp [goParts, stateParts, h]))
  have stale : getF Reg.DTK_BUDGET_AGE.STALE (staleCheck d) = 1 := by
    rw [after.getF_eq _ (by decide), staleMarked, getF_addF_ne (by decide), getF_setF_same]
    rfl
  have kept : ∀ f : Fld, f.key ∉ (Reg.HEEL_DEGRADE.DERATE :: stateFlds).map Fld.key →
      f.key ∉ [Reg.DTK_BUDGET_AGE.STALE, Reg.DTK_BUDGET_AGE.STALE_COUNT].map Fld.key → getF f (staleCheck d) = getF f c := fun f h1 h2 => by
    rw [after.getF_eq f h1, marked.getF_eq f h2, getF_congr f passed.1]
  refine ⟨stale, ?time, kept _ (by decide) (by decide), ?bound⟩
  case time => rw [after.2 .uptime (by decide), staleMarked_uptime, time]
  case bound => exact kept Reg.DTK_BUDGET_FROZEN.VALUE (by decide) (by decide) ▸ effB_le_frozen stale

/-- Settles O27: a recomputation by its cases, a stale budget by what it leaves. -/
theorem budgetCommands : Obligations.BudgetCommands := by
  intro s d
  refine ⟨?lower, ?raise, ?gather, ?idle, ?stale, ?staleNone, ?noUnit, ?readyMap⟩
  case lower =>
    intro second hr hw h
    obtain ⟨hvalue, hstale, hage⟩ := budgetWrite_leaves (budgetNow s.ctl) (raiseKept none s.ctl)
    exact ⟨onCtl (fun c => budgetWrite (budgetNow c) (raiseKept none c)) s, exec_onCtl (f := budgetRecompute second) rfl (budgetRecompute_lower hr hw second h),
      rfl, hvalue, hstale, hage⟩
  case raise => exact fun m hr hw h hm => exec_onCtl (f := budgetRecompute true) rfl (budgetRecompute_raise hr hw h hm)
  case gather => exact fun hr hw h =>
    ⟨lowestResult s.ctl, lowestResult_le s.ctl, exec_onCtl (f := budgetRecompute false) rfl (budgetRecompute_gather hr hw h)⟩
  case idle => exact fun second h => exec_fixed (f := budgetRecompute second) rfl (budgetRecompute_idle second h)
  case stale =>
    intro w hw h
    obtain ⟨hstale, htime, hvalue, hbound⟩ := budgetStale_leaves hw h
    exact ⟨onCtl budgetStale s, rfl, hstale, htime, hvalue, hbound, rfl, rfl, rfl⟩
  case staleNone => exact fun h => exec_fixed (f := budgetStale) rfl (budgetStale_none h)
  case noUnit =>
    refine leadsTo_onCtl (f := fun c => if reelRuns c && noUnit c then logEvent 0x0502 5 3 0 c else c) rfl (fun h => ?_) (fun h => ?_)
    · exact if_pos (by simpa using h)
    · exact if_neg (by simpa using h)
  case readyMap => exact leadsTo_onCtl (f := readyMap d.val) rfl (fun h => if_pos h) (fun h => if_neg h)

end Sys2Proof.Machine
end

section
/-! Proofs about the Welt journal (R185-R188): the open page, the pages under way to the dies, and the compaction. -/
namespace Sys2Proof.Machine

/-! The open page (R185, R186). -/

theorem flushPage_empty {c : Ctl} (h : c.welt.openPage = []) : flushPage c = c := if_pos (by simp [h])

theorem flushPage_open {c : Ctl} (h : c.welt.openPage ≠ []) : flushPage c = { c with welt := { c.welt with
    openPage := [], pages := c.welt.pages ++ [⟨c.welt.openPage, c.welt.openGen, false, false, false, false⟩] } } := if_neg (by simpa using h)

theorem flushPage_only (c : Ctl) : PartsOnly [.welt] c (flushPage c) := PartsOnly.ite (PartsOnly.refl _ _) (welt_only _ c)

/-- The journal's entries in their order: those of the pages under way, then those of the open page. -/
def journalOrder (w : Welt) : List JEntry := w.pages.flatMap (·.entries) ++ w.openPage

/-- A flush moves the open page behind the pages under way, and nothing else of the writer. -/
theorem flushPage_writer (c : Ctl) : journalOrder (flushPage c).welt = journalOrder c.welt ∧ (flushPage c).welt.openPage = []
    ∧ (flushPage c).welt.nextJseq = c.welt.nextJseq ∧ (flushPage c).welt.compactJseq = c.welt.compactJseq := by
  by_cases h : c.welt.openPage = []
  · rw [flushPage_empty h]
    exact ⟨rfl, h, rfl, rfl⟩
  · rw [flushPage_open h]
    exact ⟨by simp [journalOrder], rfl, rfl, rfl⟩

/-- The entry stands in the open page under the next JSEQ. -/
def entryOpened (e : JEntry) (c : Ctl) : Ctl :=
  { c with welt := { c.welt with
      openPage := c.welt.openPage ++ [{ e with jseq := c.welt.nextJseq, keep := c.op == .keep }]
      openGen := if c.welt.openPage.isEmpty then c.weltNv.base.gen else c.welt.openGen
      nextJseq := c.welt.nextJseq + 1 } }

theorem jAppend_eq (e : JEntry) (c : Ctl) :
    jAppend e c = if 511 ≤ (entryOpened e c).welt.openPage.length then flushPage (entryOpened e c) else entryOpened e c := rfl

theorem jAppend_only (e : JEntry) (c : Ctl) : PartsOnly [.welt] c (jAppend e c) :=
  (welt_only _ c).trans (PartsOnly.ite (flushPage_only _) (PartsOnly.refl _ (entryOpened e c)))

/-- An appended entry is the last of the journal, under the next JSEQ. -/
theorem jAppend_writer (e : JEntry) (c : Ctl) :
    journalOrder (jAppend e c).welt = journalOrder c.welt ++ [{ e with jseq := c.welt.nextJseq, keep := c.op == .keep }]
    ∧ (jAppend e c).welt.nextJseq = c.welt.nextJseq + 1 ∧ (jAppend e c).welt.compactJseq = c.welt.compactJseq := by
  have opened : journalOrder (entryOpened e c).welt = journalOrder c.welt ++ [{ e with jseq := c.welt.nextJseq, keep := c.op == .keep }] :=
    (List.append_assoc _ _ _).symm
  obtain ⟨horder, _, hnext, hcompact⟩ := flushPage_writer (entryOpened e c)
  rw [jAppend_eq]
  split
  · exact ⟨horder.trans opened, hnext, hcompact⟩
  · exact ⟨opened, rfl, rfl⟩

/-- A page of 511 entries is programmed, so that the open page never holds as many. -/
theorem jAppend_openPage_lt (e : JEntry) (c : Ctl) : (jAppend e c).welt.openPage.length < 511 := by
  rw [jAppend_eq]
  split
  · rw [(flushPage_writer _).2.1]
    decide
  · exact Nat.lt_of_not_le ‹_›

/-! Pages under way (R186). -/

theorem markPage_cons {q : JPage → Bool} {f : JPage → JPage} {p : JPage} (hp : q p = true) (l : List JPage) : markPage q f (p :: l) = f p :: l :=
  if_pos hp

/-- A mark that leaves the entries of a page leaves those of the list, in their order. -/
theorem map_entries_markPage {q : JPage → Bool} {f : JPage → JPage} (hf : ∀ p, (f p).entries = p.entries) (l : List JPage) :
    (markPage q f l).map (·.entries) = l.map (·.entries) := by
  induction l with
  | nil => rfl
  | cons p l ih =>
    unfold markPage
    split
    · simp [hf]
    · simp [ih]

/-- A mark that ends what it looks for leaves one page less to be found. -/
theorem length_filter_markPage {q : JPage → Bool} {f : JPage → JPage} (hf : ∀ p, q (f p) = false) {l : List JPage} {p : JPage}
    (h : l.find? q = some p) : ((markPage q f l).filter q).length + 1 = (l.filter q).length := by
  induction l with
  | nil => simp at h
  | cons x l ih =>
    by_cases hx : q x = true
    · rw [markPage_cons hx, List.filter_cons_of_neg (by simp [hf]), List.filter_cons_of_pos hx, List.length_cons]
    · have later : markPage q f (x :: l) = x :: markPage q f l := if_neg hx
      rw [later, List.filter_cons_of_neg hx, List.filter_cons_of_neg hx]
      exact ih (by simpa [hx] using h)

/-- Save die `d` has not received a page. -/
def pageLacks (d : Nat) (p : JPage) : Bool := if d = 0 then !p.got0 else !p.got1

def pageReceived (d : Nat) (p : JPage) : JPage := if d = 0 then { p with got0 := true } else { p with got1 := true }

theorem pageLacks_pageReceived (d : Nat) (p : JPage) : pageLacks d (pageReceived d p) = false := by
  by_cases hd : d = 0 <;> simp [pageLacks, pageReceived, hd]

theorem pageReceived_entries (d : Nat) (p : JPage) : (pageReceived d p).entries = p.entries := by
  unfold pageReceived
  split <;> rfl

theorem jpageSend_sends {d : Nat} {c : Ctl} {p : JPage} (hd : dieInService c d = true) (hp : c.welt.pages.find? (pageLacks d) = some p) :
    jpageSend d c = sendLink d .jpage [p.entries.length, p.baseGen] (RingPage.bytes ⟨p.entries, p.baseGen⟩)
      { c with welt := { c.welt with pages := markPage (pageLacks d) (pageReceived d) c.welt.pages } } := by
  have found : c.welt.pages.find? (fun p => if d = 0 then !p.got0 else !p.got1) = some p := hp
  unfold jpageSend
  dsimp only
  rw [found]
  exact if_neg (by simp [hd])

theorem jpageSend_out {d : Nat} {c : Ctl} (hd : dieInService c d = false) : jpageSend d c = c := by
  unfold jpageSend
  dsimp only
  split
  · rfl
  · exact if_pos (by simp [hd])

theorem mem_sendLink_sent (k : Nat) (kind : MsgKind) (args : List Nat) (data : List Byte) (c : Ctl) :
    (⟨.link k, kind, args, data⟩ : Msg) ∈ (sendLink k kind args data c).sent := by
  unfold sendLink
  dsimp only
  split <;> exact List.mem_cons_self

/-! Durable pages (R186). -/

/-- Save die `d` has received a page and not yet reported it. -/
def pageOwed (d : Nat) (p : JPage) : Bool := if d = 0 then p.got0 && !p.done0 else p.got1 && !p.done1

def pageReported (d : Nat) (p : JPage) : JPage := if d = 0 then { p with done0 := true } else { p with done1 := true }

/-- With both dies in service the report of one alone completes no page. -/
theorem pageDone_pageReported (d : Nat) {c : Ctl} {p : JPage} (hb : bothDies c = true) (h0 : p.done0 = false) (h1 : p.done1 = false) :
    pageDone c (pageReported d p) = false := by
  obtain ⟨hs0, hs1⟩ : dieInService c 0 = true ∧ dieInService c 1 = true := by simpa [bothDies] using hb
  by_cases hd : d = 0 <;> simp [pageDone, pageReported, hd, hs0, hs1, h0, h1]

/-- Pages leave in order: behind one that is not complete none becomes durable. -/
theorem pagesDurable_waits (n : Nat) {c : Ctl} {p : JPage} {rest : List JPage} (hp : c.welt.pages = p :: rest) (hd : pageDone c p = false) :
    pagesDurable n c = c := by
  cases n with
  | zero => rfl
  | succ n =>
    unfold pagesDurable
    rw [hp]
    exact if_neg (by simp [hd])

theorem freeDeadUnits_only (c : Ctl) : PartsOnly [.flash] c (freeDeadUnits c) := PartsOnly.ite (PartsOnly.refl _ _) (updFlash_only _ c)

/-- The first die's report of the oldest page is noted, and the page stays under way. -/
theorem pageProgrammed_first {d : Nat} {c : Ctl} {p : JPage} {rest : List JPage} (hb : bothDies c = true) (hp : c.welt.pages = p :: rest)
    (howed : pageOwed d p = true) (h0 : p.done0 = false) (h1 : p.done1 = false) :
    pageProgrammed d c = freeDeadUnits { c with welt := { c.welt with pages := pageReported d p :: rest } } := by
  have owed : (!c.welt.pages.any (pageOwed d)) = false := by simp [hp, howed]
  have noted : markPage (pageOwed d) (pageReported d) c.welt.pages = pageReported d p :: rest := by rw [hp, markPage_cons howed]
  have step : pageProgrammed d c = freeDeadUnits (pagesDurable (markPage (pageOwed d) (pageReported d) c.welt.pages).length
      { c with welt := { c.welt with pages := markPage (pageOwed d) (pageReported d) c.welt.pages } }) := if_neg (Bool.eq_false_iff.1 owed)
  rw [step, noted, pagesDurable_waits _ rfl]
  exact pageDone_pageReported d hb h0 h1

theorem targetDurable_of_ne_restoring {c : Ctl} (h : c.op ≠ .restoring) : targetDurable c = c := by
  unfold targetDurable
  split
  · rfl
  · exact if_neg (fun hc => h hc.1)

/-- No image is released while the restore does not run, or when none is held. -/
theorem releaseCheck_none {c : Ctl} (h : restoreRuns c = false ∨ (c.images.newest = none ∧ c.images.carried = none)) : releaseCheck c = c := by
  unfold releaseCheck
  rcases h with h | ⟨hn, hc⟩
  · exact if_pos (by simp [carryRuns, h])
  · simp [hn, hc]

/-! Compaction (R188). -/

theorem compactLimit_le {c : Ctl} {i : SaveImage} (h : c.images.newest = some i) : compactLimit c ≤ i.jseqDurable := by
  unfold compactLimit
  rw [h]
  exact Nat.min_le_right _ _

/-- The base map that a compaction begun now will write. -/
def compactMap (c : Ctl) : BaseMap :=
  { weltState (committedEpoch c) (fun e => decide (compactLimit c < e.jseq)) c.weltNv with
    gen := c.weltNv.base.gen + 1, covered := max (compactLimit c) c.weltNv.base.covered }

theorem compactMap_covered_le {c : Ctl} {i : SaveImage} (h : c.images.newest = some i) :
    (compactMap c).covered ≤ max i.jseqDurable c.weltNv.base.covered :=
  Nat.max_le.2 ⟨Nat.le_trans (compactLimit_le h) (Nat.le_max_left _ _), Nat.le_max_right _ _⟩

theorem compactStart_starts {c : Ctl} (hf : fwRunning c = true) (hr : reelRuns c = true) (hc : c.welt.compact = none) (hd : compactDue c = true) :
    compactStart c = setF Reg.DTK_WELT_STATUS.COMPACTING 1 { c with welt := { c.welt with compact := some (compactMap c), compactJseq := none } } :=
  if_neg (by simp [hf, hr, hc, hd])

theorem compactStart_none {c : Ctl} (h : fwRunning c = false ∨ reelRuns c = false ∨ c.welt.compact ≠ none ∨ compactDue c = false) :
    compactStart c = c := if_pos (by simpa [Option.isSome_iff_ne_none] using h)

theorem updWelts_only (f : WeltDie → WeltDie) (c : Ctl) : PartsOnly [.weltNv] c (updWelts f c) := weltNv_only _ c

/-- A change of the journal regions reaches the dies in service. -/
theorem weltDie_updWelts (f : WeltDie → WeltDie) (c : Ctl) (d : Nat) :
    weltDie (updWelts f c) d = if dieInService c d then f (weltDie c d) else weltDie c d := by
  by_cases hd : d = 0
  · subst hd
    rfl
  · have same : dieInService c d = dieInService c 1 := by simp [dieInService, hd]
    simp [weltDie, updWelts, hd, same]

/-- The base map stands in the slot that is not in force, and the compaction waits for its entry. -/
def baseStored (m : BaseMap) (c : Ctl) : Ctl :=
  updWelts (slotPut (1 - c.weltNv.slot) m) { c with welt := { c.welt with compactJseq := some c.welt.nextJseq } }

theorem baseStored_only (m : BaseMap) (c : Ctl) : PartsOnly [.welt, .weltNv] c (baseStored m c) :=
  ((welt_only _ c).mono (by simp)).trans ((updWelts_only _ _).mono (by simp))

/-- The entry that puts a written base map in force. -/
def baseDoneEntry (m : BaseMap) (c : Ctl) : JEntry := { jEntry .baseDone 0 0 with aux := doneAux m.gen (1 - c.weltNv.slot) }

theorem baseWritten_takes {m : BaseMap} {c : Ctl} (hf : fwRunning c = true) (hm : c.welt.compact = some m) (hj : c.welt.compactJseq = none)
    (ha : canAppend c = true) :
    baseWritten c = jAppend (baseDoneEntry m c) (baseStored m c) := by
  unfold baseWritten
  rw [hm, hj]
  exact if_neg (by simp [hf, ha])

theorem baseWritten_none {c : Ctl} (h : fwRunning c = false ∨ c.welt.compact = none ∨ c.welt.compactJseq ≠ none ∨ canAppend c = false) :
    baseWritten c = c := by
  unfold baseWritten
  split
  · next hm hj => exact if_pos (by simpa [hm, hj] using h)
  · rfl

/-! The commands. -/

/-- Settles O26: the writer by `flushPage` and `jAppend`, the pages by the marks of their dies, the compaction by the map it writes. -/
theorem journal : Obligations.Journal := by
  refine ⟨fun s d => ⟨?flush, ?flushEmpty, ?page, ?pageOut, ?durable, rfl, ?start, ?startNone, ?written, ?writtenNone⟩, fun c e => ?append⟩
  case flush =>
    intro h
    have flushed := flushPage_open h
    have only := flushPage_only s.ctl
    refine ⟨onCtl flushPage s, ⟨s.ctl.welt.openPage, s.ctl.welt.openGen, false, false, false, false⟩, rfl, ?_, rfl, rfl, ?_, only.1,
      fun q hq => only.2 q (by simpa using hq), rfl, rfl, rfl⟩
    · rw [onCtl_ctl, flushed]
    · rw [onCtl_ctl, flushed]
  case flushEmpty => exact fun h => exec_fixed (f := flushPage) rfl (flushPage_empty h)
  case page =>
    intro p hd hp
    have sent := jpageSend_sends hd hp
    have kept : (jpageSend d.val s.ctl).welt.pages = markPage (pageLacks d.val) (pageReceived d.val) s.ctl.welt.pages := by
      rw [sent, (sendLink_only ..).2 .welt (by simp)]
    refine ⟨onCtl (jpageSend d.val) s, rfl, ?_, ?_, ?_, rfl, rfl, rfl⟩
    · rw [onCtl_ctl, sent]
      exact mem_sendLink_sent ..
    · rw [onCtl_ctl, kept]
      exact map_entries_markPage (pageReceived_entries d.val) _
    · rw [onCtl_ctl, kept]
      exact length_filter_markPage (pageLacks_pageReceived d.val) hp
  case pageOut => exact fun hd => exec_fixed (f := jpageSend d.val) rfl (jpageSend_out hd)
  case durable =>
    intro p rest hop hrel hb hp h0 h1 hg0 hg1
    have owed : pageOwed d.val p = true := by
      unfold pageOwed
      split <;> simp [*]
    have noted := pageProgrammed_first hb hp owed h0 h1
    have freed := freeDeadUnits_only { s.ctl with welt := { s.ctl.welt with pages := pageReported d.val p :: rest } }
    rw [← noted] at freed
    have only : PartsOnly [.welt, .flash] s.ctl (pageProgrammed d.val s.ctl) := ((welt_only _ s.ctl).mono (by simp)).trans (freed.mono (by simp))
    have still : releaseCheck (targetDurable (pageProgrammed d.val s.ctl)) = pageProgrammed d.val s.ctl := by
      have op : (pageProgrammed d.val s.ctl).op = s.ctl.op := only.2 .op (by simp)
      have restore : (pageProgrammed d.val s.ctl).restore = s.ctl.restore := only.2 .restore (by simp)
      have images : (pageProgrammed d.val s.ctl).images = s.ctl.images := only.2 .images (by simp)
      have runs : restoreRuns (pageProgrammed d.val s.ctl) = restoreRuns s.ctl := by simp only [restoreRuns, op, restore]
      rw [targetDurable_of_ne_restoring (op ▸ hop), releaseCheck_none (by rw [runs, images]; exact hrel)]
    refine ⟨onCtl (pageProgrammed d.val) s, exec_onCtl (f := fun c => releaseCheck (targetDurable (pageProgrammed d.val c))) rfl still,
      congrArg Welt.pages (freed.2 .welt (by simp)), only.2 .weltNv (by simp), only.1, only.2, rfl, rfl, rfl⟩
  case start =>
    intro hf hr hc hd
    have started := compactStart_starts hf hr hc hd
    have changes : Changes [Reg.DTK_WELT_STATUS.COMPACTING] [.welt] s.ctl (compactStart s.ctl) := by
      rw [started]
      exact setF_within (by simp) 1 ((welt_only _ s.ctl).changes _)
    refine ⟨onCtl compactStart s, compactMap s.ctl, rfl, ?_, rfl, Nat.le_max_right _ _, fun i hi => compactMap_covered_le hi, ?_, changes.1,
      fun q hq => changes.2 q (by simpa using hq), rfl, rfl, rfl⟩
    · rw [onCtl_ctl, started]
      rfl
    · rw [onCtl_ctl, started, getF_setF_same]
      rfl
  case startNone => exact fun h => exec_fixed (f := compactStart) rfl (compactStart_none h)
  case written =>
    intro m hf hm hj ha
    have written := baseWritten_takes hf hm hj ha
    have stored := baseStored_only m s.ctl
    have appended := jAppend_only (baseDoneEntry m s.ctl) (baseStored m s.ctl)
    obtain ⟨_, next, compact⟩ := jAppend_writer (baseDoneEntry m s.ctl) (baseStored m s.ctl)
    rw [← written] at appended next compact
    have only := stored.trans (appended.mono (by simp))
    have nv : (baseWritten s.ctl).weltNv = (baseStored m s.ctl).weltNv := appended.2 .weltNv (by simp)
    refine ⟨onCtl baseWritten s, rfl, compact, next, only.1, fun hd => ?_, by rw [onCtl_ctl, nv]; rfl, by rw [onCtl_ctl, nv]; rfl, only.2, rfl, rfl, rfl⟩
    calc weltDie (baseWritten s.ctl) d.val = weltDie (baseStored m s.ctl) d.val := by simp only [weltDie, nv]
      _ = slotPut (1 - s.ctl.weltNv.slot) m (weltDie s.ctl d.val) := (weltDie_updWelts _ _ _).trans (if_pos hd)
  case writtenNone => exact fun h => exec_fixed (f := baseWritten) rfl (baseWritten_none h)
  case append =>
    obtain ⟨order, next, _⟩ := jAppend_writer e c
    have only := jAppend_only e c
    exact ⟨next, order, fun _ => jAppend_openPage_lt e c, fun q hq => only.2 q (by simpa using hq), only.1⟩

end Sys2Proof.Machine
end

section
/-! Proofs about the Reel cleaner (R181-R183, and R233 for carry copies): the tracking record of a frame, what the internal engines leave of it and of the copies, and each
step of a copy. -/
namespace Sys2Proof.Machine

/-! The tracking record of a frame (R169). -/

theorem frameRec_congr {c d : Ctl} (n : Nat) (h : d.dtk = c.dtk) : frameRec d n = frameRec c n := by rw [frameRec, frameRec, h]

theorem frameRec_setFrame (f n : Nat) (r : FrameRec) (c : Ctl) : frameRec (setFrame f r c) n = if f = n then r else frameRec c n :=
  mapGet_mapSet FrameRec.init c.dtk.frames f n r

theorem setFrame_changes (f : Nat) (r : FrameRec) (c : Ctl) : Changes [Reg.DTK_DIRTY.D] [.dtk] c (setFrame f r c) :=
  setF_within (by simp) _ (changes_parts rfl (fun p hp => by cases p <;> first | rfl | simp at hp))

/-! What the internal engines leave (R117): they read and write lines, and touch neither the tracker nor the table of copies. -/

/-- The tracker and the table of copies. -/
def cleanerView (c : Ctl) : Dtk × List Copy := (c.dtk, c.reel.copies)

theorem cleanerView_inj {c d : Ctl} (h : cleanerView d = cleanerView c) : d.dtk = c.dtk ∧ d.reel.copies = c.reel.copies := Prod.mk.inj h

theorem Changes.cleanerView_eq {fs : List Fld} {ps : List Part} {c d : Ctl} (h : Changes fs ps c d) (hd : Part.dtk ∉ ps) (hr : Part.reel ∉ ps) :
    cleanerView d = cleanerView c := Prod.ext (h.2 .dtk hd) (congrArg Reel.copies (h.2 .reel hr))

theorem cleanerView_ite {p : Prop} {_ : Decidable p} {d e : Ctl} {v : Dtk × List Copy} (hd : cleanerView d = v) (he : cleanerView e = v) :
    cleanerView (if p then d else e) = v := by
  split <;> assumption

theorem cleanerView_logEvent (code src sev data : Nat) (c : Ctl) : cleanerView (logEvent code src sev data c) = cleanerView c :=
  (logEvent_changes code src sev data c).cleanerView_eq (by simp [eventParts]) (by simp [eventParts])

theorem cleanerView_poisonAdd (line n : Nat) (c : Ctl) : cleanerView (poisonAdd line n c) = cleanerView c :=
  cleanerView_ite rfl (cleanerView_ite rfl (cleanerView_logEvent ..))

theorem cleanerView_poisonTrim (line : Nat) (c : Ctl) : cleanerView (poisonTrim line c) = cleanerView c :=
  cleanerView_ite (cleanerView_logEvent ..) rfl

theorem cleanerView_fetchGot (kind : FetchKind) (id i : Nat) (data : List Byte) (poison : Bool) (c : Ctl) :
    cleanerView (fetchGot kind id i data poison c) = cleanerView c := by
  unfold fetchGot
  split
  · rfl
  · exact cleanerView_ite (cleanerView_ite (cleanerView_poisonAdd ..) rfl) rfl

theorem cleanerView_wakeChan (ch : Nat) (c : Ctl) : cleanerView (wakeChan ch c) = cleanerView c := cleanerView_ite rfl rfl

/-- A fetch takes its next line in one of five ways: passed over, answered, forwarded, made to wait for a merge, or queued. -/
theorem cleanerView_fetchNext {x : Fetch} {c d : Ctl} (h : fetchNext x c = some d) : cleanerView d = cleanerView c := by
  unfold fetchNext at h
  extract_lets i line ch c1 e took at h
  have hc1 : cleanerView c1 = cleanerView c := rfl
  have htook : ∀ k, cleanerView (took k) = cleanerView k := fun k => cleanerView_ite rfl rfl
  clear_value c1 took
  split at h
  · simp at h
  split at h
  · exact Option.some.inj h ▸ hc1
  split at h
  · exact Option.some.inj h ▸ (cleanerView_fetchGot ..).trans hc1
  split at h
  · split at h
    · exact Option.some.inj h ▸ (cleanerView_fetchGot ..).trans hc1
    split at h
    · exact Option.some.inj h ▸ (htook _).trans hc1
    · simp at h
  · split at h
    · exact Option.some.inj h ▸ (htook _).trans ((cleanerView_wakeChan ..).trans hc1)
    · simp at h

theorem cleanerView_fetchLoop (n : Nat) (c : Ctl) : cleanerView (fetchLoop n c) = cleanerView c := by
  induction n generalizing c with
  | zero => rfl
  | succ n ih =>
    unfold fetchLoop
    split
    · next d hd =>
      obtain ⟨x, _, hx⟩ := List.exists_of_findSome?_eq_some hd
      obtain ⟨k, hk, rfl⟩ := Option.map_eq_some_iff.1 hx
      have turned : cleanerView (fetchTurn x.id k) = cleanerView k := rfl
      exact (ih _).trans (turned.trans (cleanerView_fetchNext hk))
    · rfl

theorem cleanerView_captureStart (c : Ctl) : cleanerView (captureStart c) = cleanerView c := by
  refine foldl_keeps cleanerView (fun c s => ?_) [Source.h0, Source.h1, Source.guest] c
  split
  · exact cleanerView_ite rfl rfl
  · rfl

theorem cleanerView_pushWrite (own : Option Source) (line : Nat) (data : List Byte) (mask : Nat) (ptl poison : Bool) (hint : Nat) (c : Ctl) :
    cleanerView (pushWrite own line data mask ptl poison hint c) = cleanerView c := by
  unfold pushWrite
  cases own <;> exact cleanerView_ite rfl rfl

theorem cleanerView_scheduleWrite (own : Option Source) (line : Nat) (data : List Byte) (mask : Nat) (ptl poison : Bool) (hint : Nat) (c : Ctl) :
    cleanerView (scheduleWrite own line data mask ptl poison hint c) = cleanerView c := by
  have trimmed : cleanerView (if !ptl ∧ !poison then poisonTrim line c else c) = cleanerView c := cleanerView_ite (cleanerView_poisonTrim ..) rfl
  unfold scheduleWrite
  refine cleanerView_ite rfl ?_
  dsimp only
  split
  · exact trimmed
  · exact (cleanerView_pushWrite ..).trans trimmed

theorem cleanerView_captureWrite (x : Fetch) (c : Ctl) : cleanerView (captureWrite x c) = cleanerView c := by
  unfold captureWrite
  refine cleanerView_ite rfl (cleanerView_ite rfl ?_)
  split
  · rfl
  · exact cleanerView_ite (foldl_keeps cleanerView (fun c i => cleanerView_scheduleWrite ..) _ _) rfl

theorem cleanerView_captureEnd (c : Ctl) : cleanerView (captureEnd c) = cleanerView c := by
  unfold captureEnd
  exact foldl_keeps cleanerView (fun c x => cleanerView_captureWrite x c) _ c

theorem cleanerView_backsOf (ch : Nat) (c : Ctl) : cleanerView (backsOf ch c) = cleanerView c := by
  unfold backsOf
  refine foldl_keeps cleanerView (fun c b => cleanerView_ite ?_ rfl) _ c
  rw [cleanerView_pushWrite]
  rfl

theorem cleanerView_writeBacks (c : Ctl) : cleanerView (writeBacks c) = cleanerView c := by
  unfold writeBacks
  exact foldl_keeps cleanerView (fun c ch => cleanerView_backsOf ch c) _ c

theorem cleanerView_selfRefresh (c : Ctl) : cleanerView (selfRefresh c) = cleanerView c := by
  unfold selfRefresh
  refine cleanerView_ite (foldl_keeps cleanerView (fun c ch => ?_) (List.range 8) c) rfl
  exact cleanerView_ite rfl rfl

theorem cleanerView_engines (c : Ctl) : cleanerView (engines c) = cleanerView c := by
  unfold engines
  rw [cleanerView_selfRefresh, cleanerView_writeBacks, cleanerView_captureEnd, cleanerView_fetchLoop, cleanerView_captureStart]

theorem engines_dtk (c : Ctl) : (engines c).dtk = c.dtk := (cleanerView_inj (cleanerView_engines c)).1

theorem engines_copies (c : Ctl) : (engines c).reel.copies = c.reel.copies := (cleanerView_inj (cleanerView_engines c)).2

/-! Selection (R182, R183). -/

theorem onCtl_onCtl (f g : Ctl → Ctl) (s : State) : onCtl f (onCtl g s) = onCtl (fun c => f (g c)) s := rfl

/-- The cold queue is what a selection leaves of it. -/
def coldLeft (cold : List Nat) (c : Ctl) : Ctl := { c with reel := { c.reel with cold := cold } }

/-- The table entry of a copy that starts now. -/
def copyOpened (f g : Nat) (c : Ctl) : Copy :=
  ⟨f, g, 0, none, none, (frameRec c f).epochPend, false, if (frameRec c f).epochPend then c.epg.closed.getD 0 else openEpoch c⟩

/-- A copy has started: the frame is Cleaning, the copy stands in the table, and its lines are about to be read. -/
def copyStarted (f g : Nat) (c : Ctl) : Ctl :=
  startFetch .reel 0 0 (f * linesPerFrame) linesPerFrame
    { setFrame f { frameRec c f with base := .cleaning, redirty := (frameRec c f).base == .shadowed } c with
      reel := { c.reel with copies := c.reel.copies ++ [copyOpened f g c], nextGroup := (g + 1) % 8 } }

theorem copyStarted_changes (f g : Nat) (c : Ctl) : Changes [Reg.DTK_DIRTY.D] [.dtk, .reel, .pipe] c (copyStarted f g c) :=
  (((setFrame_changes f _ c).mono (fun _ h => h) (by simp)).trans (((reel_only _ _).changes _).mono (fun _ h => h) (by simp))).trans
    (((pipe_only _ _).changes _).mono (fun _ h => h) (by simp))

theorem frameRec_copyStarted (f g n : Nat) (c : Ctl) : frameRec (copyStarted f g c) n
    = if f = n then { frameRec c f with base := .cleaning, redirty := (frameRec c f).base == .shadowed } else frameRec c n :=
  frameRec_setFrame f n _ c

theorem reelSelect_selects {c : Ctl} {f g : Nat} {cold : List Nat} (hr : reelRuns c = true) (hf : fwRunning c = true)
    (he : getF Reg.DTK_REEL_CFG.ENABLE c = 1) (hi : (reelCopies c).length < getF Reg.DTK_REEL_CFG.INFLIGHT c)
    (hc : candidate c = some (f, cold)) (hg : nextGroup c = some g) :
    reelSelect c = engines (copyStarted f g (coldLeft cold c)) := by
  unfold reelSelect
  rw [if_neg (by simp [hr, hf, he, hi]), hc, hg]
  rfl

theorem reelSelect_none {c : Ctl} (h : reelRuns c = false ∨ fwRunning c = false ∨ getF Reg.DTK_REEL_CFG.ENABLE c = 0
    ∨ getF Reg.DTK_REEL_CFG.INFLIGHT c ≤ (reelCopies c).length ∨ candidate c = none ∨ nextGroup c = none) : reelSelect c = c := by
  unfold reelSelect
  split
  · rfl
  · next hrun =>
    split
    · next hc hg => exact absurd (by simpa [hc, hg] using h) hrun
    · rfl

/-! The cold sweep (R182). -/

/-- The sweep goes on to the next frame. -/
def sweepMoved (c : Ctl) : Ctl := { c with reel := { c.reel with sweepPos := (c.reel.sweepPos + 1) % frameCount c } }

/-- What a visit makes of the frame: a touched Dirty frame loses TOUCH, an untouched one is a cold candidate from then on. -/
theorem sweepVisit_visits {c : Ctl} (hr : reelRuns c = true) (hl : c.reel.cold.length < 1024) (hf : 0 < frameCount c) :
    sweepVisit c =
      if (frameRec c c.reel.sweepPos).base ≠ .dirty then sweepMoved c
      else if (frameRec c c.reel.sweepPos).touch then setFrame c.reel.sweepPos { frameRec c c.reel.sweepPos with touch := false } (sweepMoved c)
      else if c.reel.cold.contains c.reel.sweepPos then sweepMoved c
      else { sweepMoved c with reel := { (sweepMoved c).reel with cold := c.reel.cold ++ [c.reel.sweepPos] } } :=
  if_neg (by simp [hr, hl, Nat.ne_of_gt hf])

theorem sweepVisit_none {c : Ctl} (h : reelRuns c = false ∨ 1024 ≤ c.reel.cold.length ∨ frameCount c = 0) : sweepVisit c = c :=
  if_pos (by simpa using h)

/-- A visit moves the sweep on, and writes no record but that of the frame it visits. -/
theorem sweepVisit_leaves {c : Ctl} (hr : reelRuns c = true) (hl : c.reel.cold.length < 1024) (hf : 0 < frameCount c) :
    (sweepVisit c).reel.sweepPos = (c.reel.sweepPos + 1) % frameCount c
    ∧ (∀ n, n ≠ c.reel.sweepPos → frameRec (sweepVisit c) n = frameRec c n)
    ∧ Changes [Reg.DTK_DIRTY.D] [.dtk, .reel] c (sweepVisit c) := by
  have moved : Changes [Reg.DTK_DIRTY.D] [.dtk, .reel] c (sweepMoved c) := ((reel_only _ c).changes _).mono (fun _ h => h) (by simp)
  rw [sweepVisit_visits hr hl hf]
  split
  · exact ⟨rfl, fun _ _ => rfl, moved⟩
  split
  · refine ⟨rfl, fun n hn => ?_, moved.trans ((setFrame_changes ..).mono (fun _ h => h) (by simp))⟩
    rw [frameRec_setFrame, if_neg hn.symm]
    rfl
  split
  · exact ⟨rfl, fun _ _ => rfl, moved⟩
  · exact ⟨rfl, fun _ _ => rfl, moved.trans (((reel_only _ _).changes _).mono (fun _ h => h) (by simp))⟩

/-! Copies (R183). -/

theorem copyData_sends {f : Nat} {c : Ctl} {x : Copy} {y : Fetch} (hx : copyOf c f = some x) (hc : x.content = none) (hr : reelRuns c = true)
    (hy : reelFetch c f = some y) (hd : y.complete = true) :
    copyData f c = sendLink (x.group / 4) .copyData (f :: x.group :: y.got.poison) (contentBytes y.got 2097152) (copyPlace x y.got (dropFetch y.id c)) := by
  unfold copyData
  rw [hx]
  dsimp only
  rw [if_neg (by simp [hc, hr]), hy]
  exact if_pos hd

theorem copyData_waits {f : Nat} {c : Ctl} {x : Copy} (hx : copyOf c f = some x)
    (h : x.content ≠ none ∨ reelRuns c = false ∨ reelFetch c f = none) : copyData f c = c := by
  have noFetch : (if x.content.isSome ∨ !reelRuns c then none else reelFetch c f) = none := by
    rcases h with h | h | h
    · exact if_pos (.inl (Option.isSome_iff_ne_none.2 h))
    · exact if_pos (.inr (by simp [h]))
    · simp [h]
  unfold copyData
  rw [hx]
  dsimp only
  rw [noFetch]

theorem copyData_carry {f : Nat} {c : Ctl} (h : copyOf c f = none) : copyData f c = carryCopy f c := by
  unfold copyData
  rw [h]

/-- The journal entry of a copy. -/
def copyEntry (f : Nat) (x : Copy) (u : CopyUnit) (c : Ctl) : JEntry :=
  { jEntry .copy f x.epoch with
    poison := !u.content.poison.isEmpty, keep := c.op == .keep, closed := x.closed, loc := locOf x.group x.unit, aux := u.content.poison.length }

/-- A copy is confirmed under the JSEQ that its entry will have. -/
def copyConfirmed (f : Nat) (x : Copy) (c : Ctl) : Ctl :=
  { c with reel := { c.reel with
      copies := c.reel.copies.map (fun y => if y.frame = f ∧ y.carry = x.carry then { y with confirmed := some c.welt.nextJseq } else y) } }

theorem confirmed_of_mem_copyConfirmed {f : Nat} {x y : Copy} {c : Ctl} (hy : y ∈ (copyConfirmed f x c).reel.copies) (hf : y.frame = f)
    (hc : y.carry = x.carry) : y.confirmed = some c.welt.nextJseq := by
  obtain ⟨z, _, rfl⟩ := List.mem_map.1 hy
  split
  · rfl
  · next hn =>
    rw [if_neg hn] at hf hc
    exact absurd ⟨hf, hc⟩ hn

theorem copyDone_confirms {f : Nat} {c : Ctl} {x : Copy} {u : CopyUnit} (hx : (copyOf c f).or (carryOf c f) = some x)
    (hu : mapFind c.flash.units (locOf x.group x.unit) = some u) (hc : x.content ≠ none) (hn : x.confirmed = none) (hp : u.programmed = true)
    (hl : u.logged = true) (hf : u.frame = f) (ha : canAppend c = true) :
    copyDone f c = jAppend (copyEntry f x u c) (copyConfirmed f x c) := by
  unfold copyDone
  rw [hx]
  dsimp only
  rw [hu]
  exact if_neg (by simp [hc, hn, hp, hl, hf, ha])

theorem copyDone_none {f : Nat} {c : Ctl} (h : copyOf c f = none) (h' : carryOf c f = none) : copyDone f c = c := by
  unfold copyDone
  rw [h, h']
  rfl

/-! The commands. -/

/-- Settles O25: a selection through what the engines leave, the others by their own equations. -/
theorem cleanerCommands : Obligations.CleanerCommands := by
  intro s
  refine ⟨?select, ?selectNone, ?sweep, ?sweepNone, ?data, ?dataWaits, ?carry, ?done, ?doneNone⟩
  case select =>
    intro f cold g hr hf he hi hc hg
    have selected : reelSelect s.ctl = engines (copyStarted f g (coldLeft cold s.ctl)) :=
      reelSelect_selects hr hf he hi hc hg
    have queued : Changes [Reg.DTK_DIRTY.D] [.dtk, .reel, .pipe] s.ctl (coldLeft cold s.ctl) :=
      ((reel_only _ s.ctl).changes _).mono (fun _ h => h) (by simp)
    have started := queued.trans (copyStarted_changes f g _)
    refine ⟨onCtl reelSelect s, onCtl (fun c => copyStarted f g (coldLeft cold c)) s, rfl, ?_, ?_, rfl,
      ⟨copyOpened f g (coldLeft cold s.ctl), ?_, rfl, rfl, rfl, rfl, rfl⟩, fun n hn => ?_,
      started.1, started.2, rfl, rfl, rfl⟩
    · rw [onCtl_onCtl]
      exact onCtl_congr selected
    · rw [onCtl_ctl, selected, frameRec_congr f (engines_dtk _), frameRec_copyStarted, if_pos rfl]
    · rw [onCtl_ctl, selected, engines_copies]
      rfl
    · rw [onCtl_ctl, selected, frameRec_congr n (engines_dtk _), frameRec_copyStarted, if_neg hn.symm]
      rfl
  case selectNone => exact fun h => exec_fixed (f := reelSelect) rfl (reelSelect_none h)
  case sweep =>
    intro hr hl hf
    obtain ⟨hpos, hframes, hchanges⟩ := sweepVisit_leaves hr hl hf
    have visits := sweepVisit_visits hr hl hf
    refine ⟨onCtl sweepVisit s, rfl, hpos, fun hd ht => ?_, fun hd ht => ?_, hframes, hchanges.1, hchanges.2, rfl, rfl, rfl⟩
    · rw [onCtl_ctl, visits, if_neg (by simp [hd]), if_pos ht, frameRec_setFrame, if_pos rfl]
      exact ⟨rfl, rfl⟩
    · rw [onCtl_ctl, visits, if_neg (by simp [hd]), if_neg (by simp [ht])]
      split
      · next hin => exact List.contains_iff_mem.1 hin
      · exact List.mem_append_right _ (List.mem_singleton_self _)
  case sweepNone => exact fun h => exec_fixed (f := sweepVisit) rfl (sweepVisit_none h)
  case data => exact fun f x y hx hc hr hy hd => exec_onCtl (f := copyData f) rfl (copyData_sends hx hc hr hy hd)
  case dataWaits => exact fun f x hx h => exec_fixed (f := copyData f) rfl (copyData_waits hx h)
  case carry => exact fun f h => exec_onCtl (f := copyData f) rfl (copyData_carry h)
  case done =>
    intro f x u hx hu hc hn hp hl hf ha
    have confirms := copyDone_confirms hx hu hc hn hp hl hf ha
    have appended := jAppend_only (copyEntry f x u s.ctl) (copyConfirmed f x s.ctl)
    obtain ⟨_, next, _⟩ := jAppend_writer (copyEntry f x u s.ctl) (copyConfirmed f x s.ctl)
    rw [← confirms] at appended next
    have only : PartsOnly [.welt, .reel] s.ctl (copyDone f s.ctl) := ((reel_only _ s.ctl).mono (by simp)).trans (appended.mono (by simp))
    refine ⟨onCtl (copyDone f) s, rfl, next, fun y hy => ?_, only.1, only.2, rfl, rfl, rfl⟩
    rw [onCtl_ctl, appended.2 .reel (by simp)] at hy
    exact confirmed_of_mem_copyConfirmed hy
  case doneNone => exact fun f h h' => exec_fixed (f := copyDone f) rfl (copyDone_none h h')

end Sys2Proof.Machine
end

section
/-! Proofs about the lead lease, the seal and lost save dies (R212-R215): a lease request as Heel answers it, and each command by what it makes
of the control state. -/
namespace Sys2Proof.Machine

/-! A message on a link leaves the registers as they are. -/

@[simp] theorem getF_sendLink (f : Fld) (k : Nat) (kind : MsgKind) (args : List Nat) (data : List Byte) (c : Ctl) :
    getF f (sendLink k kind args data c) = getF f c := getF_congr f (sendLink_only k kind args data c).1

@[simp] theorem sendLink_heel (k : Nat) (kind : MsgKind) (args : List Nat) (data : List Byte) (c : Ctl) :
    (sendLink k kind args data c).heel = c.heel := (sendLink_only k kind args data c).2 .heel (by simp)

/-! A seal request (R214). -/

theorem sealReq_judged {d gen us : Nat} {c : Ctl} (hs : c.op = .saving) (hd : dieInService c d = true) (hw : wholeDown c = none)
    (hr : c.save.image.recorded = true) :
    sealReq d gen us c = (let ok := decide (gen = getF Reg.HEEL_LEASE_GEN.GEN c) && getF Reg.HEEL_LEASE.OWNER c == d + 1
      let c := sendLink d .sealAck [gen, b2n ok] [] c
      if ok then sealImage (d + 1) us (savePipesEnd c) else c) := if_neg (by simp [hs, hd, hw, hr])

theorem sealReq_accepted {d us : Nat} {c : Ctl} (hs : c.op = .saving) (hd : dieInService c d = true) (hw : wholeDown c = none)
    (hr : c.save.image.recorded = true) (ho : getF Reg.HEEL_LEASE.OWNER c = d + 1) :
    sealReq d (getF Reg.HEEL_LEASE_GEN.GEN c) us c
      = sealImage (d + 1) us (savePipesEnd (sendLink d .sealAck [getF Reg.HEEL_LEASE_GEN.GEN c, 1] [] c)) := by
  rw [sealReq_judged hs hd hw hr]
  simp [ho, b2n]

theorem sealReq_refused {d gen us : Nat} {c : Ctl} (hs : c.op = .saving) (hd : dieInService c d = true) (hw : wholeDown c = none)
    (hr : c.save.image.recorded = true) (hn : gen ≠ getF Reg.HEEL_LEASE_GEN.GEN c ∨ getF Reg.HEEL_LEASE.OWNER c ≠ d + 1) :
    sealReq d gen us c = sendLink d .sealAck [gen, 0] [] c := by
  have no : (decide (gen = getF Reg.HEEL_LEASE_GEN.GEN c) && getF Reg.HEEL_LEASE.OWNER c == d + 1) = false := by
    rw [Bool.and_eq_false_iff]
    simpa using hn
  rw [sealReq_judged hs hd hw hr, no]
  rfl

theorem sealReq_none {d gen us : Nat} {c : Ctl} (h : c.op ≠ .saving ∨ dieInService c d = false ∨ c.save.image.recorded = false) :
    sealReq d gen us c = c := if_pos (by rcases h with h | h | h <;> simp [h])

/-! What Heel answers to a lease request (R212, R213). -/

/-- The lead mark of a save die is no field of Heel. -/
theorem lead_ne_lease (d : Fin 2) : (Reg.SAV_SD_STATUS.LEAD d.val).key ≠ Reg.HEEL_LEASE.OWNER.key
    ∧ (Reg.SAV_SD_STATUS.LEAD d.val).key ≠ Reg.HEEL_LEASE.REFUSED.key ∧ (Reg.SAV_SD_STATUS.LEAD d.val).key ≠ Reg.HEEL_LEASE_GEN.GEN.key
    ∧ (Reg.SAV_SD_STATUS.LEAD d.val).key ≠ Reg.SAV_STATUS.LEAD.key := by
  revert d
  decide

/-- An acknowledgement leaves the owner and the generation, restarts the lease, and makes the die the lead. -/
theorem leaseAcked_leaves (d : Fin 2) (c : Ctl) :
    getF Reg.HEEL_LEASE.OWNER (leaseAcked d.val c) = getF Reg.HEEL_LEASE.OWNER c
    ∧ getF Reg.HEEL_LEASE_GEN.GEN (leaseAcked d.val c) = getF Reg.HEEL_LEASE_GEN.GEN c
    ∧ (leaseAcked d.val c).heel.leaseAt = c.uptime ∧ getF (Reg.SAV_SD_STATUS.LEAD d.val) (leaseAcked d.val c) = 1
    ∧ (⟨.link d, .leaseAck, [getF Reg.HEEL_LEASE_GEN.GEN c], []⟩ : Msg) ∈ (leaseAcked d.val c).sent := by
  obtain ⟨owner, _, gen, lead⟩ := lead_ne_lease d
  unfold leaseAcked
  refine ⟨?_, ?_, ?_, ?_, mem_sendLink_sent ..⟩
  · rw [getF_sendLink, getF_setF_ne (by decide), getF_setF_ne owner]
    rfl
  · rw [getF_sendLink, getF_setF_ne (by decide), getF_setF_ne gen]
    rfl
  · rw [sendLink_heel]
    rfl
  · rw [getF_sendLink, getF_setF_ne lead.symm, getF_setF_same]
    rfl

/-- A refusal leaves the owner, the generation and the lease, and the die is no longer the lead. -/
theorem leaseRefused_leaves (d : Fin 2) (c : Ctl) :
    getF Reg.HEEL_LEASE.OWNER (leaseRefused d.val c) = getF Reg.HEEL_LEASE.OWNER c
    ∧ getF Reg.HEEL_LEASE_GEN.GEN (leaseRefused d.val c) = getF Reg.HEEL_LEASE_GEN.GEN c
    ∧ (leaseRefused d.val c).heel.leaseAt = c.heel.leaseAt ∧ getF (Reg.SAV_SD_STATUS.LEAD d.val) (leaseRefused d.val c) = 0
    ∧ (⟨.link d, .leaseRefuse, [getF Reg.HEEL_LEASE.OWNER c], []⟩ : Msg) ∈ (leaseRefused d.val c).sent := by
  obtain ⟨owner, refused, gen, _⟩ := lead_ne_lease d
  unfold leaseRefused
  refine ⟨?_, ?_, ?_, ?_, mem_sendLink_sent ..⟩
  · rw [getF_sendLink, getF_addF_ne (by decide), getF_setF_ne owner]
  · rw [getF_sendLink, getF_addF_ne (by decide), getF_setF_ne gen]
  · rw [sendLink_heel]
    rfl
  · rw [getF_sendLink, getF_addF_ne refused.symm, getF_setF_same]
    rfl

/-- A grant names the die as the owner, under the next generation. -/
theorem leaseGrant_leaves (d : Fin 2) (c : Ctl) :
    getF Reg.HEEL_LEASE.OWNER (leaseGrant d.val c) = d.val + 1
    ∧ getF Reg.HEEL_LEASE_GEN.GEN (leaseGrant d.val c) = (getF Reg.HEEL_LEASE_GEN.GEN c + 1) % 2 ^ Reg.HEEL_LEASE_GEN.GEN.width := by
  obtain ⟨owner, gen, _⟩ := leaseAcked_leaves d (setF Reg.HEEL_LEASE.OWNER (d + 1) (setF Reg.HEEL_LEASE_GEN.GEN (getF Reg.HEEL_LEASE_GEN.GEN c + 1) c))
  unfold leaseGrant
  rw [owner, gen, getF_setF_same, getF_setF_ne (by decide), getF_setF_same]
  exact ⟨Nat.mod_eq_of_lt (Nat.lt_of_lt_of_le (Nat.succ_lt_succ d.isLt) (by decide)), rfl⟩

/-! Renewals and claims. -/

theorem leaseRenew_owner {d : Nat} {c : Ctl} (hp : hubPowered c = true) (ho : getF Reg.HEEL_LEASE.OWNER c = d + 1) : leaseRenew d c = leaseAcked d c :=
  (if_neg (by simp [hp])).trans (if_pos ho)

theorem leaseRenew_other {d : Nat} {c : Ctl} (hp : hubPowered c = true) (ho : getF Reg.HEEL_LEASE.OWNER c ≠ d + 1) :
    leaseRenew d c = leaseRefused d c := (if_neg (by simp [hp])).trans (if_neg ho)

theorem leaseRenew_off {d : Nat} {c : Ctl} (hp : hubPowered c = false) : leaseRenew d c = c := if_pos (by simp [hp])

theorem leaseClaim_off {s0 s1 : Bool} {c : Ctl} (hp : hubPowered c = false) : leaseClaim s0 s1 c = c := if_pos (by simp [hp])

/-- A claim while the lease is held changes neither its owner nor its generation. -/
theorem leaseClaim1_held (d : Fin 2) {c : Ctl} (h : getF Reg.HEEL_LEASE.OWNER c ≠ 0) :
    getF Reg.HEEL_LEASE.OWNER (leaseClaim1 d.val c) = getF Reg.HEEL_LEASE.OWNER c
    ∧ getF Reg.HEEL_LEASE_GEN.GEN (leaseClaim1 d.val c) = getF Reg.HEEL_LEASE_GEN.GEN c := by
  unfold leaseClaim1
  split
  · exact ⟨rfl, rfl⟩
  · obtain ⟨owner, gen, _⟩ := leaseRefused_leaves d c
    rw [if_neg (show leaseOwner c ≠ 0 from h)]
    exact ⟨owner, gen⟩

theorem leaseClaim1_free {d : Nat} {c : Ctl} (hd : dieInService c d = true) (h : getF Reg.HEEL_LEASE.OWNER c = 0) :
    leaseClaim1 d c = leaseGrant d c := (if_neg (by simp [hd])).trans (if_pos h)

theorem leaseClaim1_op (d : Nat) (c : Ctl) : (leaseClaim1 d c).op = c.op := by
  unfold leaseClaim1
  exact ite_op rfl (ite_op (sendLink_op ..) (sendLink_op ..))

/-- Out of Saving the claims are all that a cycle of claims does, S0's before S1's. -/
theorem leaseClaim_both {s1 : Bool} {c : Ctl} (hp : hubPowered c = true) (ho : c.op ≠ .saving) :
    leaseClaim true s1 c = if s1 then leaseClaim1 1 (leaseClaim1 0 c) else leaseClaim1 0 c := by
  have claimed : (if s1 then leaseClaim1 1 (leaseClaim1 0 c) else leaseClaim1 0 c).op = c.op :=
    ite_op ((leaseClaim1_op ..).trans (leaseClaim1_op ..)) (leaseClaim1_op ..)
  unfold leaseClaim
  rw [if_neg (by simp [hp])]
  exact if_neg (fun h => ho (claimed.symm.trans h.1))

/-- S0 takes a free lease, whether S1 claims it in the same cycle or not. -/
theorem leaseClaim_s0 {s1 : Bool} {c : Ctl} (hp : hubPowered c = true) (hf : getF Reg.HEEL_LEASE.OWNER c = 0) (hd : dieInService c 0 = true)
    (ho : c.op ≠ .saving) : getF Reg.HEEL_LEASE.OWNER (leaseClaim true s1 c) = 1
    ∧ getF Reg.HEEL_LEASE_GEN.GEN (leaseClaim true s1 c) = (getF Reg.HEEL_LEASE_GEN.GEN c + 1) % 2 ^ Reg.HEEL_LEASE_GEN.GEN.width := by
  have granted : getF Reg.HEEL_LEASE.OWNER (leaseGrant 0 c) = 1
      ∧ getF Reg.HEEL_LEASE_GEN.GEN (leaseGrant 0 c) = (getF Reg.HEEL_LEASE_GEN.GEN c + 1) % 2 ^ Reg.HEEL_LEASE_GEN.GEN.width :=
    leaseGrant_leaves 0 c
  rw [leaseClaim_both hp ho, leaseClaim1_free hd hf]
  split
  · obtain ⟨owner, gen⟩ := leaseClaim1_held 1 (c := leaseGrant 0 c) (by rw [granted.1]; decide)
    exact ⟨owner.trans granted.1, gen.trans granted.2⟩
  · exact granted

theorem leaseExpiry_held {d : Nat} {c : Ctl} (h : getF Reg.HEEL_LEASE.OWNER c = d + 1) :
    leaseExpiry c = setF (Reg.SAV_SD_STATUS.LEAD d) 0 (setF Reg.HEEL_LEASE.OWNER 0 c) := by
  unfold leaseExpiry
  rw [show leaseOwner c = d + 1 from h]

theorem leaseExpiry_free {c : Ctl} (h : getF Reg.HEEL_LEASE.OWNER c = 0) : leaseExpiry c = c := by
  unfold leaseExpiry
  rw [show leaseOwner c = 0 from h]

/-! The commands. -/

/-- Settles O23: each command by what it makes of the control state; a claim grants a free lease to S0 before S1's claim is heard. -/
theorem leaseAndSeal : Obligations.LeaseAndSeal := by
  intro s d
  refine ⟨?accepted, ?refused, ?sealNone, ?lossTimeout, ?lost, ?renew, ?renewRefused, ?claim, ?off, ?expiry, ?expiryNone, rfl⟩
  case accepted =>
    intro us hs hd hw hr ho
    exact exec_onCtl (f := sealReq d.val _ us) rfl (sealReq_accepted hs hd hw hr ho)
  case refused =>
    intro gen us hs hd hw hr hn
    exact exec_onCtl (f := sealReq d.val gen us) rfl (sealReq_refused hs hd hw hr hn)
  case sealNone => exact fun gen us h => exec_fixed (f := sealReq d.val gen us) rfl (sealReq_none h)
  case lossTimeout =>
    exact leadsTo_onCtl (f := fun c => if saveRuns c d.val && unitsLeft c d.val then dieLeaves d.val 3 c else c) rfl
      (fun h => if_pos (by simp [h])) (fun h => if_neg (by simpa using h))
  case lost =>
    exact fun core => leadsTo_onCtl (f := fun c => if hubPowered c then dieLeaves d.val (if core then 2 else 1) c else c) rfl
      (fun h => if_pos h) (fun h => if_neg h)
  case renew =>
    intro hp ho
    obtain ⟨owner, gen, at_, lead, sent⟩ := leaseAcked_leaves d s.ctl
    exact ⟨onCtl (leaseAcked d.val) s, exec_onCtl (f := leaseRenew d.val) rfl (leaseRenew_owner hp ho),
      owner.trans ho, gen, at_, lead, sent, rfl, rfl, rfl⟩
  case renewRefused =>
    intro hp ho
    obtain ⟨owner, _, at_, lead, sent⟩ := leaseRefused_leaves d s.ctl
    exact ⟨onCtl (leaseRefused d.val) s, exec_onCtl (f := leaseRenew d.val) rfl (leaseRenew_other hp ho),
      owner, at_, lead, sent, rfl, rfl, rfl⟩
  case claim =>
    intro hp hf hd ho
    obtain ⟨owner, gen⟩ := leaseClaim_s0 (s1 := d.val == 1) hp hf hd ho
    exact ⟨onCtl (leaseClaim true (d.val == 1)) s, rfl, owner, gen, rfl, rfl, rfl⟩
  case off =>
    exact fun hp => ⟨exec_fixed (f := leaseRenew d.val) rfl (leaseRenew_off hp),
      fun a b => exec_fixed (f := leaseClaim a b) rfl (leaseClaim_off hp)⟩
  case expiry => exact fun h => exec_onCtl (f := leaseExpiry) rfl (leaseExpiry_held h)
  case expiryNone => exact fun h => exec_fixed (f := leaseExpiry) rfl (leaseExpiry_free h)

end Sys2Proof.Machine
end

section
/-! What the block has sent stays sent: recording an event and the internal engines (R117) only add to the transcript, and the engines keep to the parts
of the memory pipeline. -/
namespace Sys2Proof.Machine

/-! Recording an event. -/

/-- A choice only adds to the transcript when both branches do. -/
theorem sent_ite {p : Prop} {_ : Decidable p} {l : List Msg} {d e : Ctl} (hd : l <:+ d.sent) (he : l <:+ e.sent) : l <:+ (if p then d else e).sent := by
  split <;> assumption

/-- What leaves the transcript as it is takes nothing back. -/
theorem sent_of_eq {l : List Msg} {d : Ctl} (h : d.sent = l) : l <:+ d.sent := ⟨[], h.symm⟩

/-- A fold of operations that only add to the transcript does so too. -/
theorem sent_foldl {α : Type} {g : Ctl → α → Ctl} (h : ∀ c x, c.sent <:+ (g c x).sent) (l : List α) (c : Ctl) : c.sent <:+ (l.foldl g c).sent :=
  List.foldlRecOn (motive := fun d => c.sent <:+ d.sent) l g (List.suffix_refl _) (fun d hd x _ => hd.trans (h d x))

theorem sent_msix (h : HeadId) (v : Nat) (c : Ctl) : c.sent <:+ (msix h v c).sent := sent_ite (List.suffix_cons ..) (List.suffix_refl _)

theorem sent_wakePend (h : HeadId) (c : Ctl) : c.sent <:+ (wakePend h c).sent :=
  sent_ite (sent_ite (List.suffix_cons ..) (sent_ite (List.suffix_cons ..) (List.suffix_refl _))) (List.suffix_refl _)

theorem sent_sbAlertSource (i : Nat) (c : Ctl) : c.sent <:+ (sbAlertSource i c).sent := by
  have raised : ∀ c, c.sent <:+ (sbRaise c).sent := fun c => by
    have pin : c.sent <:+ (if alertPin c && !c.sbb.alertLow then
        (if sbCoalesced c then sbAssert c else { c with sbb := { c.sbb with alertWait := true } }) else c).sent :=
      sent_ite (sent_ite (List.suffix_cons ..) (List.suffix_refl _)) (List.suffix_refl _)
    exact sent_ite pin pin
  exact sent_ite (sent_ite (List.suffix_refl _) (sent_ite (raised (setF Reg.SBB_ALERT_PEND.PEND _ c)) (List.suffix_refl _))) (List.suffix_refl _)

theorem sent_cxlLog (r : EvRec) (c : Ctl) : c.sent <:+ (cxlLog r c).sent := by
  have interrupt : ∀ n d, d.sent <:+ (logInterrupt n d).sent := fun n d =>
    sent_foldl (fun c h => by
      have vector : c.sent <:+ (if (headOf c h).policy.testBit n then msix h (if n ≤ 1 then 1 else 2) c else c).sent :=
        sent_ite (sent_msix ..) (List.suffix_refl _)
      exact sent_ite (vector.trans (sent_wakePend ..)) vector) _ d
  have stored : ∀ n l, (setLog n l c).sent = c.sent := fun n l => by unfold setLog; split <;> rfl
  unfold cxlLog
  refine sent_ite (List.suffix_refl _) (List.IsSuffix.trans (sent_ite ?_ ?_) (interrupt _ _))
  · exact sent_of_eq (stored _ _)
  · exact List.suffix_refl _

theorem sent_evrTake (code src sev flags repeats data : Nat) (c : Ctl) : c.sent <:+ (evrTake code src sev flags repeats data c).sent := by
  have buffered : ∀ r d, (evrBuffer r d).sent = d.sent := fun r d => (evrBuffer_changes r d).2 .sent (by simp)
  unfold evrTake
  rw [buffered]
  have numbered : ∀ e r, c.sent <:+ (cxlLog r { c with evr := e }).sent := fun e r => sent_cxlLog r { c with evr := e }
  exact sent_ite ((numbered ..).trans (sent_sbAlertSource ..)) (sent_ite ((numbered ..).trans (sent_sbAlertSource ..)) (numbered ..))

theorem sent_evrProgram (save : Bool) (rs : List EvRec) (c : Ctl) : (evrProgram save rs c).sent = c.sent := by
  induction rs generalizing c with
  | nil => rfl
  | cons r rs ih =>
    unfold evrProgram
    dsimp only
    split
    · exact ih _
    split
    · exact ih _
    split
    · rfl
    · exact ih _

theorem sent_evrFlush (save : Bool) (c : Ctl) : c.sent <:+ (evrFlush save c).sent := by
  have programmed : c.sent <:+ (evrProgram save c.evr.buffer c).sent := sent_of_eq (sent_evrProgram ..)
  have full : ∀ {d : Ctl} (p : Prop) [Decidable p] (code sev), c.sent <:+ d.sent →
      c.sent <:+ (if p then evrTake code 17 sev 0 0 0 d else d).sent := fun p _ _ _ h => sent_ite (h.trans (sent_evrTake ..)) h
  exact sent_ite (List.suffix_refl _) (full _ _ _ (full _ _ _ programmed))

theorem sent_evrRecord (code src sev flags repeats data : Nat) (c : Ctl) : c.sent <:+ (evrRecord code src sev flags repeats data c).sent :=
  sent_ite ((sent_evrTake ..).trans (sent_evrFlush ..)) (sent_evrTake ..)

theorem sent_logEvent (code src sev data : Nat) (c : Ctl) : c.sent <:+ (logEvent code src sev data c).sent := by
  unfold logEvent
  refine sent_ite (List.suffix_refl _) (sent_ite (sent_evrRecord ..) ?_)
  split
  · exact sent_evrRecord _ _ _ _ _ _ (setFold _ c)
  · exact sent_ite (sent_evrRecord _ _ _ _ _ _ (setFold _ c)) (List.suffix_refl _)

/-! The internal engines (R117). -/

/-- The parts of the memory pipeline: what the internal engines change beside the registers, with the parts of the events they record. -/
def engineParts : List Part := .pipe :: .chans :: .reel :: .epg :: eventParts

/-- A move of the internal engines: it keeps to the parts of the memory pipeline, and takes nothing back that was sent. -/
def EngineMove (c d : Ctl) : Prop := (∀ p, p ∉ engineParts → p.Same c d) ∧ c.sent <:+ d.sent

theorem EngineMove.refl (c : Ctl) : EngineMove c c := ⟨fun p _ => same_refl p c, List.suffix_refl _⟩

theorem EngineMove.trans {c d e : Ctl} (h : EngineMove c d) (g : EngineMove d e) : EngineMove c e :=
  ⟨fun p hp => same_trans (h.1 p hp) (g.1 p hp), h.2.trans g.2⟩

theorem EngineMove.ite {p : Prop} {_ : Decidable p} {c d e : Ctl} (h : EngineMove c d) (g : EngineMove c e) : EngineMove c (if p then d else e) := by
  split <;> assumption

theorem EngineMove.foldl {α : Type} {g : Ctl → α → Ctl} (h : ∀ c x, EngineMove c (g c x)) (l : List α) (c : Ctl) : EngineMove c (l.foldl g c) :=
  List.foldlRecOn (motive := EngineMove c) l g (.refl c) (fun d hd x _ => hd.trans (h d x))

/-- Whatever is stored in the registers and in those parts is a move. -/
theorem engineMove_store (r : AMap Nat) (x : Pipe) (k : AMap Chan) (l : Reel) (g : Epg) (f : Eflash) (y : Cxl) (c : Ctl) :
    EngineMove c { c with rf := r, pipe := x, chans := k, reel := l, epg := g, ef := f, cxl := y } :=
  ⟨fun p hp => by cases p <;> first | rfl | simp [engineParts, eventParts] at hp, List.suffix_refl _⟩

theorem engineMove_logEvent (code src sev data : Nat) (c : Ctl) : EngineMove c (logEvent code src sev data c) :=
  ⟨fun p hp => (logEvent_changes code src sev data c).2 p (fun h => hp (by simp [engineParts, h])), sent_logEvent ..⟩

theorem engineMove_poisonAdd (line n : Nat) (c : Ctl) : EngineMove c (poisonAdd line n c) :=
  .ite (.refl c) (.ite (engineMove_store ..) ((engineMove_store ..).trans (engineMove_logEvent ..)))

theorem engineMove_poisonTrim (line : Nat) (c : Ctl) : EngineMove c (poisonTrim line c) :=
  .ite ((engineMove_store ..).trans (engineMove_logEvent ..)) (engineMove_store ..)

theorem engineMove_fetchGot (kind : FetchKind) (id i : Nat) (data : List Byte) (poison : Bool) (c : Ctl) :
    EngineMove c (fetchGot kind id i data poison c) := by
  unfold fetchGot
  split
  · exact .refl c
  · exact .ite (.ite ((engineMove_store ..).trans (engineMove_poisonAdd ..)) (engineMove_store ..)) (engineMove_store ..)

theorem engineMove_fetchNext {x : Fetch} {c d : Ctl} (h : fetchNext x c = some d) : EngineMove c d := by
  unfold fetchNext at h
  extract_lets i line ch c1 e took at h
  have hc1 : EngineMove c c1 := engineMove_store ..
  have queued : ∀ f k, EngineMove k (updChan ch f k) := fun f k => engineMove_store ..
  have woken : ∀ k, EngineMove k (wakeChan ch k) := fun k => .ite (engineMove_store ..) (.refl k)
  have htook : ∀ k, EngineMove k (took k) := fun k => .ite (engineMove_store ..) (engineMove_store ..)
  clear_value c1 took
  split at h
  · simp at h
  split at h
  · exact Option.some.inj h ▸ hc1.trans (engineMove_store ..)
  split at h
  · exact Option.some.inj h ▸ hc1.trans (engineMove_fetchGot ..)
  split at h
  · split at h
    · exact Option.some.inj h ▸ hc1.trans (engineMove_fetchGot ..)
    split at h
    · exact Option.some.inj h ▸ hc1.trans ((queued ..).trans (htook _))
    · simp at h
  · split at h
    · exact Option.some.inj h ▸ hc1.trans ((queued ..).trans ((woken _).trans (htook _)))
    · simp at h

theorem engineMove_fetchLoop (n : Nat) (c : Ctl) : EngineMove c (fetchLoop n c) := by
  induction n generalizing c with
  | zero => exact .refl c
  | succ n ih =>
    unfold fetchLoop
    split
    · next d hd =>
      obtain ⟨x, _, hx⟩ := List.exists_of_findSome?_eq_some hd
      obtain ⟨k, hk, rfl⟩ := Option.map_eq_some_iff.1 hx
      have turned : EngineMove k (fetchTurn x.id k) := engineMove_store ..
      exact (engineMove_fetchNext hk).trans (turned.trans (ih _))
    · exact .refl c

theorem engineMove_captureStart (c : Ctl) : EngineMove c (captureStart c) := by
  refine .foldl (fun c s => ?_) [Source.h0, Source.h1, Source.guest] c
  split
  · exact .ite (engineMove_store ..) (.refl c)
  · exact .refl c

theorem engineMove_pushWrite (own : Option Source) (line : Nat) (data : List Byte) (mask : Nat) (ptl poison : Bool) (hint : Nat) (c : Ctl) :
    EngineMove c (pushWrite own line data mask ptl poison hint c) := by
  unfold pushWrite
  cases own <;> exact .ite (engineMove_store ..) (engineMove_store ..)

theorem engineMove_scheduleWrite (own : Option Source) (line : Nat) (data : List Byte) (mask : Nat) (ptl poison : Bool) (hint : Nat) (c : Ctl) :
    EngineMove c (scheduleWrite own line data mask ptl poison hint c) := by
  have trimmed : EngineMove c (if !ptl ∧ !poison then poisonTrim line c else c) := .ite (engineMove_poisonTrim ..) (.refl c)
  unfold scheduleWrite
  refine .ite (.refl c) (trimmed.trans ?_)
  dsimp only
  generalize (if !ptl ∧ !poison then poisonTrim line c else c) = d
  split
  · exact engineMove_store ..
  · exact (engineMove_store ..).trans (engineMove_pushWrite ..)

theorem engineMove_captureWrite (x : Fetch) (c : Ctl) : EngineMove c (captureWrite x c) := by
  unfold captureWrite
  refine .ite (engineMove_store ..) (.ite (.refl c) ?_)
  split
  · exact .refl c
  · exact .ite ((engineMove_store ..).trans (.foldl (fun c i => engineMove_scheduleWrite ..) _ _)) (.refl c)

theorem engineMove_captureEnd (c : Ctl) : EngineMove c (captureEnd c) := .foldl (fun c x => engineMove_captureWrite x c) _ c

theorem engineMove_writeBacks (c : Ctl) : EngineMove c (writeBacks c) := by
  refine .foldl (fun c _ => ?_) _ c
  exact .foldl (fun c b => .ite ((engineMove_store ..).trans (engineMove_pushWrite ..)) (.refl c)) _ c

theorem engineMove_selfRefresh (c : Ctl) : EngineMove c (selfRefresh c) :=
  .ite (.foldl (fun c _ => .ite (engineMove_store ..) (.refl c)) _ c) (.refl c)

/-- What the engines do as entries become free keeps to the memory pipeline, and takes nothing back that was sent. -/
theorem engineMove_engines (c : Ctl) : EngineMove c (engines c) :=
  (engineMove_captureStart c).trans ((engineMove_fetchLoop _ _).trans ((engineMove_captureEnd _).trans
    ((engineMove_writeBacks _).trans (engineMove_selfRefresh _))))

theorem engines_save (c : Ctl) : (engines c).save = c.save := (engineMove_engines c).1 .save (by simp [engineParts, eventParts])

theorem mem_engines_sent {m : Msg} {c : Ctl} (h : m ∈ c.sent) : m ∈ (engines c).sent := (engineMove_engines c).2.subset h

end Sys2Proof.Machine
end

section
/-! The operations of a save die on its part of a save (R200, R201, R205-R208): what each leaves of the die's progress, of the image and of the registers. -/
namespace Sys2Proof.Machine

/-! What the hub holds of a save die. -/

theorem dieSave_congr {c d : Ctl} (n : Nat) (h : d.save = c.save) : dieSave d n = dieSave c n := by rw [dieSave, dieSave, h]

theorem save_only (x : Save) (c : Ctl) : PartsOnly [.save] c { c with save := x } :=
  ⟨rfl, fun p hp => by cases p <;> first | rfl | simp at hp⟩

theorem updDie_only (d : Nat) (f : DieSave → DieSave) (c : Ctl) : PartsOnly [.save] c (updDie d f c) :=
  PartsOnly.ite (save_only ..) (save_only ..)

@[simp] theorem dieSave_updDie_same (d : Nat) (f : DieSave → DieSave) (c : Ctl) : dieSave (updDie d f c) d = f (dieSave c d) := by
  unfold dieSave updDie
  split <;> rfl

theorem dieSave_updDie_other (d : Fin 2) (f : DieSave → DieSave) (c : Ctl) : dieSave (updDie d.val f c) (1 - d.val) = dieSave c (1 - d.val) := by
  match d with
  | 0 => rfl
  | 1 => rfl

@[simp] theorem updDie_image (d : Nat) (f : DieSave → DieSave) (c : Ctl) : (updDie d f c).save.image = c.save.image := by
  unfold updDie
  split <;> rfl

/-! Registers below the flash channels. -/

/-- An operation on the flash: it leaves every register below those of the flash channels (R281), and every other part, as it is. -/
def FlashOnly (c d : Ctl) : Prop := (∀ f : Fld, f.key < 0x70000 * 64 → getF f d = getF f c) ∧ ∀ p, p ≠ Part.flash → p.Same c d

theorem FlashOnly.refl (c : Ctl) : FlashOnly c c := ⟨fun _ _ => rfl, fun p _ => same_refl p c⟩

theorem FlashOnly.trans {c d e : Ctl} (h : FlashOnly c d) (g : FlashOnly d e) : FlashOnly c e :=
  ⟨fun f hf => (g.1 f hf).trans (h.1 f hf), fun p hp => same_trans (h.2 p hp) (g.2 p hp)⟩

theorem FlashOnly.ite {p : Prop} {_ : Decidable p} {c d e : Ctl} (h : FlashOnly c d) (g : FlashOnly c e) : FlashOnly c (if p then d else e) := by
  split <;> assumption

theorem FlashOnly.foldl {α : Type} {g : Ctl → α → Ctl} (h : ∀ c x, FlashOnly c (g c x)) (l : List α) (c : Ctl) : FlashOnly c (l.foldl g c) :=
  List.foldlRecOn (motive := FlashOnly c) l g (.refl c) (fun d hd x _ => hd.trans (h d x))

theorem FlashOnly.save_eq {c d : Ctl} (h : FlashOnly c d) : d.save = c.save := h.2 .save (by decide)

theorem updFlash_flashOnly (f : Flash → Flash) (c : Ctl) : FlashOnly c (updFlash f c) :=
  ⟨fun _ _ => rfl, fun p hp => (updFlash_only f c).2 p (by simpa using hp)⟩

/-- A field of the flash channels is written. -/
theorem setF_flashOnly {f : Fld} (hf : 0x70000 * 64 ≤ f.key) (v : Nat) (c : Ctl) : FlashOnly c (setF f v c) :=
  ⟨fun g hg => getF_setF_ne (by omega) v c, fun p _ => by cases p <;> rfl⟩

theorem abortedOp_flashOnly (wk : Nat) (d : Desc) (c : Ctl) : FlashOnly c (abortedOp wk d c) := by
  unfold abortedOp
  split
  · exact updFlash_flashOnly ..
  · exact updFlash_flashOnly ..
  · split
    · exact updFlash_flashOnly ..
    · exact .refl c
  · exact .refl c

theorem runWay_flashOnly (wk : Nat) (c : Ctl) : FlashOnly c (runWay wk c) := by
  unfold runWay
  refine .ite (.refl c) ?_
  split
  · exact .ite (updFlash_flashOnly ..) (updFlash_flashOnly ..)
  · exact updFlash_flashOnly ..
  · exact updFlash_flashOnly ..
  · exact .refl c

/-! The start of a save (R194, R259). -/

theorem engineStart_flashOnly (wk : Nat) (c : Ctl) : FlashOnly c (engineStart wk c) := by
  unfold engineStart
  extract_lets keepRead w queue stops aborted c1 hit c2 running suspended used was
  have marked : FlashOnly c c1 := .ite (setF_flashOnly (by simp [Fld.key, Reg.FLC_STATUS.ABORTED]; omega) _ _) (.refl c)
  have stopped : ∀ o k, FlashOnly k (hit o k) := fun o k => by
    cases o
    · exact .refl k
    · exact abortedOp_flashOnly ..
  exact marked.trans ((stopped _ _).trans ((stopped _ _).trans ((updFlash_flashOnly ..).trans ((updFlash_flashOnly ..).trans (runWay_flashOnly ..)))))

/-- The counters of a save die start at 0, and SAVING is set. -/
def saveCounters (d : Nat) (c : Ctl) : Ctl :=
  setF (Reg.SAV_SD_UNITS.COUNT d) 0 (setF (Reg.SAV_SD_FAIL.REWRITES d) 0 (setF (Reg.SAV_SD_FAIL.DROPPED d) 0 (setF (Reg.SAV_SD_FAIL.MISSING d) 0
    (setF (Reg.SAV_SD_STATUS.SAVING d) 1 c))))

theorem saveCounters_clears (d : Nat) (c : Ctl) : Changes [Reg.SAV_SD_UNITS.COUNT d, Reg.SAV_SD_FAIL.REWRITES d, Reg.SAV_SD_FAIL.DROPPED d,
    Reg.SAV_SD_FAIL.MISSING d] [] (setF (Reg.SAV_SD_STATUS.SAVING d) 1 c) (saveCounters d c) :=
  setF_within (by simp) _ (setF_within (by simp) _ (setF_within (by simp) _ (setF_within (by simp) _ (Changes.refl _ _ _))))

theorem getF_saveCounters (d : Nat) (c : Ctl) :
    getF (Reg.SAV_SD_STATUS.SAVING d) (saveCounters d c) = 1 ∧ getF (Reg.SAV_SD_UNITS.COUNT d) (saveCounters d c) = 0 := by
  have others : (Reg.SAV_SD_STATUS.SAVING d).key ∉ [Reg.SAV_SD_UNITS.COUNT d, Reg.SAV_SD_FAIL.REWRITES d, Reg.SAV_SD_FAIL.DROPPED d,
      Reg.SAV_SD_FAIL.MISSING d].map Fld.key := by
    simp [Fld.key, Reg.SAV_SD_STATUS.SAVING, Reg.SAV_SD_UNITS.COUNT, Reg.SAV_SD_FAIL.REWRITES, Reg.SAV_SD_FAIL.DROPPED, Reg.SAV_SD_FAIL.MISSING]
    omega
  exact ⟨((saveCounters_clears d c).getF_eq _ others).trans (getF_setF_same ..), getF_setF_same ..⟩

/-- The registers of a save die lie below those of the flash channels. -/
theorem saveDieFlds_low (d : Fin 2) : (Reg.SAV_SD_STATUS.SAVING d.val).key < 0x70000 * 64 ∧ (Reg.SAV_SD_UNITS.COUNT d.val).key < 0x70000 * 64 := by
  revert d
  decide

/-- The pipeline of a save die has started. -/
def dieStarted (d : Nat) (c : Ctl) : Ctl := updDie d (fun x => { x with started := true }) c

/-- A save die has begun its part of a save: its counters are at 0, and its log is empty. -/
def saveBegun (d : Nat) (c : Ctl) : Ctl :=
  updFlash (fun x => if d = 0 then { x with log0 := 0 } else { x with log1 := 0 }) (saveCounters d (dieStarted d c))

theorem saveStart_starts {d : Nat} {c : Ctl} (hs : c.op = .saving) (hd : dieInService c d = true) (hw : wholeDown c = none)
    (hn : (dieSave c d).started = false) :
    saveStart d c = (dieWays (saveBegun d c) d).foldl (fun c wk => engineStart wk c) (saveBegun d c) := if_neg (by simp [hs, hd, hw, hn])

theorem saveStart_none {d : Nat} {c : Ctl} (h : c.op ≠ .saving ∨ dieInService c d = false ∨ (wholeDown c).isSome = true
    ∨ (dieSave c d).started = true) : saveStart d c = c := if_pos (by simpa using h)

/-- The engines of the ways drop what is no save work, and nothing else changes after the die has begun. -/
theorem saveStart_leaves (d : Fin 2) {c : Ctl} (hs : c.op = .saving) (hd : dieInService c d.val = true) (hw : wholeDown c = none)
    (hn : (dieSave c d.val).started = false) : (dieSave (saveStart d.val c) d.val).started = true
    ∧ getF (Reg.SAV_SD_STATUS.SAVING d.val) (saveStart d.val c) = 1 ∧ getF (Reg.SAV_SD_UNITS.COUNT d.val) (saveStart d.val c) = 0
    ∧ (saveStart d.val c).op = .saving := by
  have ways : FlashOnly (saveBegun d.val c) (saveStart d.val c) := by
    rw [saveStart_starts hs hd hw hn]
    exact .foldl (fun c wk => engineStart_flashOnly wk c) _ _
  obtain ⟨saving, count⟩ := getF_saveCounters d.val (dieStarted d.val c)
  obtain ⟨savingLow, countLow⟩ := saveDieFlds_low d
  refine ⟨?_, ?_, ?_, ?_⟩
  · have begun : (saveStart d.val c).save = (dieStarted d.val c).save := ways.save_eq
    rw [dieSave_congr _ begun, dieStarted, dieSave_updDie_same]
  · exact (ways.1 _ savingLow).trans saving
  · exact (ways.1 _ countLow).trans count
  · exact (ways.2 .op (by decide)).trans (((updDie_only ..).2 .op (by simp)).trans hs)

/-! The fill bitmap (R200). -/

theorem saveFill_sends {d : Nat} {c : Ctl} (hr : saveRuns c d = true) (hf : (dieSave c d).fill = none) :
    saveFill d c = sendLink d .fill [fillHalf c d] [] (updDie d (fun x => { x with fill := some (fillHalf c d) }) c) :=
  if_pos (by simp [hr, hf])

theorem saveFill_none {d : Nat} {c : Ctl} (h : ¬ (saveRuns c d = true ∧ (dieSave c d).fill = none)) : saveFill d c = c :=
  if_neg (by simpa using h)

/-! Units left missing (R205, R208). -/

/-- The unit is accounted for: it counts as programmed, and the image lists it as missing. -/
def missingListed (d key : Nat) (c : Ctl) : Ctl :=
  updDie d (fun x => { x with programmed := x.programmed ++ [key] }) { c with save := { c.save with image :=
    { c.save.image with missing := c.save.image.missing ++ [imageKey (inFallback c d key) key] } } }

/-- A buffer slot that a way holds for a rewrite is returned (R255). -/
def heldReturned (wk : Nat) (c : Ctl) : Ctl :=
  match (wayAt c wk).held with
  | _ :: rest => setBuf (wayChan wk) (bufUsed c (wayChan wk) - 1) (updWay wk (fun w => { w with held := rest }) c)
  | [] => c

theorem heldReturned_only (wk : Nat) (c : Ctl) : PartsOnly [.flash] c (heldReturned wk c) := by
  unfold heldReturned
  split
  · exact (updFlash_only ..).trans (updFlash_only ..)
  · exact PartsOnly.refl _ _

theorem leaveMissing_eq (d key : Nat) (c : Ctl) : leaveMissing d key c
    = addF Reg.SAV_PROGRESS.MISSING (addF (Reg.SAV_SD_FAIL.MISSING d) (heldReturned (unitWay c d key) (missingListed d key c))) := rfl

theorem leaveMissing_changes (d key : Nat) (c : Ctl) :
    Changes [Reg.SAV_PROGRESS.MISSING, Reg.SAV_SD_FAIL.MISSING d] [.save, .flash] c (leaveMissing d key c) := by
  have listed : PartsOnly [.save] c (missingListed d key c) :=
    (save_only _ c).trans (updDie_only ..)
  rw [leaveMissing_eq]
  exact addF_within (by simp) (addF_within (by simp) (((listed.mono (by simp)).trans ((heldReturned_only ..).mono (by simp))).changes _))

theorem leaveMissing_save (d key : Nat) (c : Ctl) : (leaveMissing d key c).save = (missingListed d key c).save :=
  (heldReturned_only ..).2 .save (by simp)

theorem dieSave_leaveMissing (d key : Nat) (c : Ctl) :
    dieSave (leaveMissing d key c) d = { dieSave c d with programmed := (dieSave c d).programmed ++ [key] } := by
  rw [dieSave_congr d (leaveMissing_save d key c), missingListed, dieSave_updDie_same]
  rfl

theorem leaveMissing_image (d key : Nat) (c : Ctl) : (leaveMissing d key c).save.image
    = { c.save.image with missing := c.save.image.missing ++ [imageKey (inFallback c d key) key] } := by
  rw [leaveMissing_save, missingListed, updDie_image]

theorem leaveMissing_setCount (d : Fin 2) (key : Nat) (c : Ctl) : setCount (leaveMissing d.val key c) = setCount c :=
  (leaveMissing_changes d.val key c).getF_eq _ (by revert d; decide)

theorem inFallback_congr {c e : Ctl} (d key : Nat) (h : setCount e = setCount c) : inFallback e d key = inFallback c d key := by
  unfold inFallback setDie
  rw [h]

/-- Units of one die that are left missing, one after another. -/
theorem leaveMissing_all (d : Fin 2) (l : List Nat) (c : Ctl) :
    dieSave (l.foldl (fun c key => leaveMissing d.val key c) c) d.val = { dieSave c d.val with programmed := (dieSave c d.val).programmed ++ l }
    ∧ (l.foldl (fun c key => leaveMissing d.val key c) c).save.image.missing
      = c.save.image.missing ++ l.map (fun key => imageKey (inFallback c d.val key) key) := by
  induction l generalizing c with
  | nil => simp
  | cons key l ih =>
    obtain ⟨die, missing⟩ := ih (leaveMissing d.val key c)
    have places : ∀ k, inFallback (leaveMissing d.val key c) d.val k = inFallback c d.val k := fun k =>
      inFallback_congr d.val k (leaveMissing_setCount d key c)
    constructor
    · rw [List.foldl_cons, die, dieSave_leaveMissing]
      simp
    · rw [List.foldl_cons, missing, leaveMissing_image]
      simp [places]

/-! Save fetches (R201). -/

/-- The hub has received a save fetch of a unit, and its lines are about to be read. -/
def unitAsked (d s u : Nat) (c : Ctl) : Ctl :=
  let c := updDie d (fun x => { x with requested := x.requested ++ [placeUnit c s u] }) c
  startFetch .save d (placeUnit c s u) (slotLine c s + u * (unitBytes c / 64)) (unitBytes c / 64) c

/-- The first fetch of a save ends its start phase. -/
def fetchPhase (c : Ctl) : Ctl := if getF Reg.SAV_STATUS.PHASE c = 1 then setF Reg.SAV_STATUS.PHASE 2 c else c

theorem sfetch_asks {d s u : Nat} {c : Ctl} (hr : saveRuns c d = true) (hn : nextFetch c d = some (s, u)) :
    sfetch d c = engines (sendLink d .sfetch [s, u] [] (fetchPhase (unitAsked d s u c))) := by
  unfold sfetch
  rw [if_neg (by simp [hr]), hn]
  rfl

theorem sfetch_none {d : Nat} {c : Ctl} (h : saveRuns c d = false ∨ nextFetch c d = none) : sfetch d c = c := by
  unfold sfetch
  rcases h with h | h
  · exact if_pos (by simp [h])
  · rw [h]
    exact ite_self c

theorem sendLink_save (k : Nat) (kind : MsgKind) (args : List Nat) (data : List Byte) (c : Ctl) : (sendLink k kind args data c).save = c.save :=
  (sendLink_only k kind args data c).2 .save (by simp)

/-- The die has asked for the unit, and the other die is as it was. -/
theorem sfetch_leaves (d : Fin 2) {s u : Nat} {c : Ctl} (hr : saveRuns c d.val = true) (hn : nextFetch c d.val = some (s, u)) :
    (dieSave (sfetch d.val c) d.val).requested = (dieSave c d.val).requested ++ [placeUnit c s u]
    ∧ dieSave (sfetch d.val c) (1 - d.val) = dieSave c (1 - d.val)
    ∧ (⟨.link d, .sfetch, [s, u], []⟩ : Msg) ∈ (sfetch d.val c).sent := by
  have phase : ∀ e, (fetchPhase e).save = e.save := fun e => by unfold fetchPhase; split <;> rfl
  have asked : (sfetch d.val c).save = (updDie d.val (fun x => { x with requested := x.requested ++ [placeUnit c s u] }) c).save := by
    rw [sfetch_asks hr hn, engines_save, sendLink_save, phase]
    rfl
  refine ⟨?_, ?_, ?_⟩
  · rw [dieSave_congr _ asked, dieSave_updDie_same]
  · rw [dieSave_congr _ asked, dieSave_updDie_other]
  · rw [sfetch_asks hr hn]
    exact mem_engines_sent (mem_sendLink_sent ..)

/-! The data of a save fetch (R201). -/

/-- The unit stands in the image with what its lines held, and its fetch has ended. -/
def unitStored (d key : Nat) (x : Fetch) (c : Ctl) : Ctl :=
  let s := (keyUnit c key).1
  let u := (keyUnit c key).2
  let shadow := decide (firstShadow c ≤ s)
  let f := if shadow then s - firstShadow c else (slotFrame c s).getD 0
  let m := c.save.image
  dropFetch x.id { c with save := { c.save with image := { m with
    table := mapPut m.table s ⟨f, slotDie c s != d, false, shadow⟩
    units := mapPut m.units (s * 64 + u) ⟨x.got, f, shadow, false, false, none⟩ } } }

theorem unitStored_content (d key : Nat) (x : Fetch) (c : Ctl) :
    (mapGet UnitRec.init (unitStored d key x c).save.image.units ((keyUnit c key).1 * 64 + (keyUnit c key).2)).content = x.got := by
  simp [unitStored, dropFetch, mapGet, mapFind_mapPut]

theorem sfetchData_takes {d key : Nat} {x : Fetch} {c : Ctl} (hr : saveRuns c d = true)
    (hk : (dieSave c d).requested.find? (fun k => !(dieSave c d).fetched.contains k) = some key)
    (hx : saveFetch c d key = some x) (hc : x.complete = true) :
    ∃ args, sfetchData d c = engines (releaseParity d (keySet key) (keyRow key)
      (sendLink d .sfetchData args (contentBytes x.got (unitBytes c)) (unitIssued d key (unitStored d key x c)))) := by
  unfold sfetchData
  rw [if_pos hr, hk]
  dsimp only
  rw [hx]
  dsimp only
  rw [if_neg (by simp [hc])]
  exact ⟨_, rfl⟩

/-- A unit that passes to its engine has been fetched; it is left missing where nothing programs it, and the image holds the units it held. -/
theorem unitIssued_leaves (d key : Nat) (c : Ctl) :
    (dieSave (unitIssued d key c) d).fetched = (dieSave c d).fetched ++ [key] ∧ (unitIssued d key c).save.image.units = c.save.image.units
    ∧ (unitIssued d key c).sent = c.sent := by
  have issued := updDie_only d (fun x => { x with fetched := x.fetched ++ [key] }) c
  unfold unitIssued
  dsimp only
  split
  · rw [dieSave_leaveMissing, dieSave_updDie_same, leaveMissing_image, updDie_image]
    exact ⟨rfl, rfl, ((leaveMissing_changes ..).2 .sent (by simp)).trans (issued.2 .sent (by simp))⟩
  · rw [dieSave_updDie_same, updDie_image]
    exact ⟨rfl, rfl, issued.2 .sent (by simp)⟩

/-- The parity unit of a row follows, or nothing does. -/
theorem releaseParity_cases (d k r : Nat) (c : Ctl) : releaseParity d k r c = unitIssued d (unitKey k r (r % 16)) c ∨ releaseParity d k r c = c := by
  unfold releaseParity
  dsimp only
  split
  · exact .inl rfl
  · exact .inr rfl

theorem releaseParity_leaves (d k r : Nat) (c : Ctl) :
    (dieSave c d).fetched ⊆ (dieSave (releaseParity d k r c) d).fetched ∧ (releaseParity d k r c).save.image.units = c.save.image.units
    ∧ (releaseParity d k r c).sent = c.sent := by
  rcases releaseParity_cases d k r c with h | h
  · obtain ⟨fetched, units, sent⟩ := unitIssued_leaves d (unitKey k r (r % 16)) c
    rw [h, fetched]
    exact ⟨List.subset_append_left _ _, units, sent⟩
  · rw [h]
    exact ⟨List.Subset.refl _, rfl, rfl⟩

/-- The unit has been fetched, the image holds what its lines held, and the die has its data. -/
theorem sfetchData_leaves {d key : Nat} {x : Fetch} {c : Ctl} (hr : saveRuns c d = true)
    (hk : (dieSave c d).requested.find? (fun k => !(dieSave c d).fetched.contains k) = some key)
    (hx : saveFetch c d key = some x) (hc : x.complete = true) :
    key ∈ (dieSave (sfetchData d c) d).fetched
    ∧ (mapGet UnitRec.init (sfetchData d c).save.image.units ((keyUnit c key).1 * 64 + (keyUnit c key).2)).content = x.got
    ∧ ∃ args, (⟨.link d, .sfetchData, args, contentBytes x.got (unitBytes c)⟩ : Msg) ∈ (sfetchData d c).sent := by
  obtain ⟨args, takes⟩ := sfetchData_takes hr hk hx hc
  obtain ⟨fetched, units, _⟩ := unitIssued_leaves d key (unitStored d key x c)
  obtain ⟨kept, same, sent⟩ := releaseParity_leaves d (keySet key) (keyRow key)
    (sendLink d .sfetchData args (contentBytes x.got (unitBytes c)) (unitIssued d key (unitStored d key x c)))
  rw [takes, dieSave_congr d (engines_save _), engines_save, same, sendLink_save, units]
  refine ⟨kept ?_, unitStored_content d key x c, args, mem_engines_sent (sent ▸ mem_sendLink_sent ..)⟩
  rw [dieSave_congr d (sendLink_save ..), fetched]
  simp

end Sys2Proof.Machine
end

section
/-! Proofs about what a save die does in a save and what the hub tells it (R19, R194, R200, R201, R205, R208, R209, R215, R219). -/
namespace Sys2Proof.Machine

/-! Programs of units (R201, R205, R206). -/

/-- What the statements about a program follow of a save die: the units accounted for, their count, and the units missing from the image. -/
def progress (d : Nat) (c : Ctl) : List Nat × Nat × List Nat :=
  ((dieSave c d).programmed, getF (Reg.SAV_SD_UNITS.COUNT d) c, c.save.image.missing)

theorem Changes.progress_eq {fs : List Fld} {ps : List Part} {c e : Ctl} (h : Changes fs ps c e) {d : Nat}
    (hf : (Reg.SAV_SD_UNITS.COUNT d).key ∉ fs.map Fld.key) (hp : Part.save ∉ ps) : progress d e = progress d c := by
  have same : e.save = c.save := h.2 .save hp
  rw [progress, progress, dieSave_congr d same, h.getF_eq _ hf, same]

theorem progress_updDie {d : Nat} {f : DieSave → DieSave} (hf : ∀ x, (f x).programmed = x.programmed) (c : Ctl) :
    progress d (updDie d f c) = progress d c := by
  rw [progress, progress, dieSave_updDie_same, hf, getF_congr _ (updDie_only d f c).1, updDie_image]

theorem FlashOnly.progress_eq {c e : Ctl} (h : FlashOnly c e) (d : Fin 2) : progress d.val e = progress d.val c := by
  rw [progress, progress, dieSave_congr _ h.save_eq, h.1 _ (saveDieFlds_low d).2, h.save_eq]

/-- The count of units is neither the map of detours nor a field that an event touches. -/
theorem count_apart (d : Fin 2) : (Reg.SAV_SD_UNITS.COUNT d.val).key ∉ [Reg.SAV_DETOURS.SETS].map Fld.key
    ∧ (Reg.SAV_SD_UNITS.COUNT d.val).key ∉ eventFlds.map Fld.key := by
  revert d
  decide

theorem progress_detourSet (d : Fin 2) (pos k : Nat) (c : Ctl) : progress d.val (detourSet d.val pos k c) = progress d.val c := by
  unfold detourSet
  split
  · rfl
  · exact ((setF_changes ..).progress_eq (count_apart d).1 (by simp)).trans (progress_updDie (fun _ => by rfl) _)

theorem progress_dieLagging (d : Fin 2) (wk : Nat) (c : Ctl) : progress d.val (dieLagging d.val wk c) = progress d.val c := by
  have logged : ∀ code src sev data, progress d.val (logEvent code src sev data c) = progress d.val c := fun code src sev data =>
    (logEvent_changes code src sev data c).progress_eq (count_apart d).2 (by simp [eventParts])
  unfold dieLagging
  exact (foldl_keeps (progress d.val) (fun c k => progress_detourSet d _ k c) _ _).trans (((updFlash_flashOnly ..).progress_eq d).trans (logged ..))

/-- A slow unit changes no progress: its die may become lagging, and its sets are detoured around it. -/
theorem progress_slowUnit (d : Fin 2) (wk : Nat) (slow : Bool) (c : Ctl) : progress d.val (slowUnit d.val wk slow c) = progress d.val c := by
  have counted : ∀ n, progress d.val (updDie d.val (fun x => { x with slow := mapSet 0 x.slow wk n }) c) = progress d.val c := fun n =>
    progress_updDie (fun _ => by rfl) c
  unfold slowUnit
  generalize (if slow then mapGet 0 (dieSave c d.val).slow wk + 1 else 0) = n
  dsimp only
  split
  · exact (progress_dieLagging ..).trans (counted n)
  · exact counted n

/-- A program has ended: it is counted, its block holds the page, and with success the unit has its place in the image. -/
def unitWritten (d key : Nat) (ok : Bool) (c : Ctl) : Ctl :=
  let wk := unitWay c d key
  let page := unitPos c d key % pagesPerBlock c
  let c := addF (Reg.FLC_OPS.COUNT (wayChan wk)) c
  match unitBlock c d key with
  | some b =>
    let c := updBlock wk b (fun y => { y with erased := false, pages := bitSet y.pages page }) c
    if ok then recordUnit d key ⟨wk, b, page, (blockAt c wk b).erases⟩ c else c
  | none => c

/-- The image takes the unit's place, and lists no unit more as missing. -/
theorem recordUnit_leaves (d key : Nat) (p : Place) (c : Ctl) : (∀ e, dieSave (recordUnit d key p c) e = dieSave c e)
    ∧ (recordUnit d key p c).save.image.missing = c.save.image.missing ∧ ∀ f, getF f (recordUnit d key p c) = getF f c := by
  refine ⟨fun _ => rfl, ?_, fun _ => rfl⟩
  unfold recordUnit
  dsimp only
  split <;> rfl

theorem unitWritten_leaves (d key : Nat) (ok : Bool) (c : Ctl) : (∀ e, dieSave (unitWritten d key ok c) e = dieSave c e)
    ∧ (unitWritten d key ok c).save.image.missing = c.save.image.missing
    ∧ ∀ f : Fld, f.key < 0x70000 * 64 → getF f (unitWritten d key ok c) = getF f c := by
  have counted : ∀ n, FlashOnly c (addF (Reg.FLC_OPS.COUNT n) c) := fun n => setF_flashOnly (by simp [Fld.key, Reg.FLC_OPS.COUNT]; omega) _ c
  have flash : ∀ {e}, FlashOnly c e → (∀ n, dieSave e n = dieSave c n) ∧ e.save.image.missing = c.save.image.missing
      ∧ ∀ f : Fld, f.key < 0x70000 * 64 → getF f e = getF f c := fun h =>
    ⟨fun n => dieSave_congr n h.save_eq, by rw [h.save_eq], h.1⟩
  unfold unitWritten
  dsimp only
  split
  · split
    · obtain ⟨dies, missing, fields⟩ := flash ((counted _).trans (updFlash_flashOnly ..))
      obtain ⟨dies', missing', fields'⟩ := recordUnit_leaves d key _ _
      exact ⟨fun e => (dies' e).trans (dies e), missing'.trans missing, fun f hf => (fields' f).trans (fields f hf)⟩
    · exact flash ((counted _).trans (updFlash_flashOnly ..))
  · exact flash (counted _)

theorem unitDone_ok {d k r pos busy : Nat} {c : Ctl} (hr : saveRuns c d = true) (hf : unitKey k r pos ∈ (dieSave c d).fetched)
    (hp : unitKey k r pos ∉ (dieSave c d).programmed) (hb : unitBefore c d (unitKey k r pos) = false) :
    ∃ slow, unitDone d k r pos true busy c = slowUnit d (unitWay c d (unitKey k r pos)) slow (addF (Reg.SAV_SD_UNITS.COUNT d)
      (updDie d (fun y => { y with programmed := y.programmed ++ [unitKey k r pos] }) (unitWritten d (unitKey k r pos) true c))) :=
  ⟨_, if_neg (by simp [hr, hf, hp, hb])⟩

theorem unitDone_failed {d k r pos busy : Nat} {c : Ctl} (hr : saveRuns c d = true) (hf : unitKey k r pos ∈ (dieSave c d).fetched)
    (hp : unitKey k r pos ∉ (dieSave c d).programmed) (hb : unitBefore c d (unitKey k r pos) = false) :
    ∃ slow, unitDone d k r pos false busy c
      = slowUnit d (unitWay c d (unitKey k r pos)) slow (rewriteUnit d (unitKey k r pos) (unitWritten d (unitKey k r pos) false c)) :=
  ⟨_, if_neg (by simp [hr, hf, hp, hb])⟩

theorem unitDone_none {d k r pos busy : Nat} {ok : Bool} {c : Ctl} (h : saveRuns c d = false ∨ unitKey k r pos ∉ (dieSave c d).fetched
    ∨ unitKey k r pos ∈ (dieSave c d).programmed ∨ unitBefore c d (unitKey k r pos) = true) : unitDone d k r pos ok busy c = c :=
  if_pos (by simpa using h)

/-- A unit programmed without an error is accounted for and counted. -/
theorem unitDone_ok_progress (d : Fin 2) {k r pos : Nat} (busy : Nat) {c : Ctl} (hr : saveRuns c d.val = true)
    (hf : unitKey k r pos ∈ (dieSave c d.val).fetched) (hp : unitKey k r pos ∉ (dieSave c d.val).programmed)
    (hb : unitBefore c d.val (unitKey k r pos) = false) : progress d.val (unitDone d.val k r pos true busy c)
      = ((dieSave c d.val).programmed ++ [unitKey k r pos],
        min (getF (Reg.SAV_SD_UNITS.COUNT d.val) c + 1) (2 ^ (Reg.SAV_SD_UNITS.COUNT d.val).width - 1), c.save.image.missing) := by
  obtain ⟨slow, runs⟩ := unitDone_ok (busy := busy) hr hf hp hb
  obtain ⟨dies, missing, fields⟩ := unitWritten_leaves d.val (unitKey k r pos) true c
  have count : getF (Reg.SAV_SD_UNITS.COUNT d.val) (updDie d.val (fun y => { y with programmed := y.programmed ++ [unitKey k r pos] })
      (unitWritten d.val (unitKey k r pos) true c)) = getF (Reg.SAV_SD_UNITS.COUNT d.val) c :=
    (getF_congr _ (updDie_only ..).1).trans (fields _ (saveDieFlds_low d).2)
  have fits : ∀ n, satInc (Reg.SAV_SD_UNITS.COUNT d.val).width n % 2 ^ (Reg.SAV_SD_UNITS.COUNT d.val).width
      = min (n + 1) (2 ^ (Reg.SAV_SD_UNITS.COUNT d.val).width - 1) := fun n =>
    Nat.mod_eq_of_lt (Nat.lt_of_le_of_lt (Nat.min_le_right _ _) (Nat.sub_lt (Nat.two_pow_pos _) Nat.one_pos))
  rw [runs, progress_slowUnit, progress, getF_addF_same, count, fits, addF_save, updDie_image, missing]
  rw [dieSave_congr d.val (addF_save ..), dieSave_updDie_same, dies]

/-- A failed unit is counted against its channel and its block. -/
def programFailed (d key : Nat) (c : Ctl) : Ctl :=
  let wk := unitWay c d key
  let c := addF (Reg.FLC_FAIL.PROGRAM (wayChan wk)) c
  match unitBlock c d key with
  | some b => updBlock wk b (fun r => { r with cause := 2 }) c
  | none => c

theorem programFailed_flashOnly (d key : Nat) (c : Ctl) : FlashOnly c (programFailed d key c) := by
  have counted : ∀ n, FlashOnly c (addF (Reg.FLC_FAIL.PROGRAM n) c) := fun n => setF_flashOnly (by simp [Fld.key, Reg.FLC_FAIL.PROGRAM]; omega) _ c
  unfold programFailed
  dsimp only
  split
  · exact (counted _).trans (updFlash_flashOnly ..)
  · exact counted _

/-- After two more tries a failed unit is left missing (R205). -/
theorem rewriteUnit_spent {d key : Nat} {n : Nat × Nat} {c : Ctl} (ht : mapFind (dieSave c d).tries key = some n) (hn : 2 ≤ n.1) :
    rewriteUnit d key c = leaveMissing d key (programFailed d key c) := by
  have spent : ¬ ((mapFind (dieSave (programFailed d key c) d).tries key).getD (0, keyRow key / 16)).1 < 2 := by
    rw [dieSave_congr d (programFailed_flashOnly d key c).save_eq, ht]
    exact Nat.not_lt.2 hn
  unfold rewriteUnit
  dsimp only
  split
  · next hx => exact absurd ((if_neg spent).symm.trans hx) (by simp)
  · rfl

/-- A unit whose last try has failed is accounted for, and the image lists it as missing. -/
theorem unitDone_failed_progress (d : Fin 2) {k r pos : Nat} (busy : Nat) {n : Nat × Nat} {c : Ctl} (hr : saveRuns c d.val = true)
    (hf : unitKey k r pos ∈ (dieSave c d.val).fetched) (hp : unitKey k r pos ∉ (dieSave c d.val).programmed)
    (hb : unitBefore c d.val (unitKey k r pos) = false) (ht : mapFind (dieSave c d.val).tries (unitKey k r pos) = some n) (hn : 2 ≤ n.1) :
    (dieSave (unitDone d.val k r pos false busy c) d.val).programmed = (dieSave c d.val).programmed ++ [unitKey k r pos]
    ∧ (unitDone d.val k r pos false busy c).save.image.missing
      = c.save.image.missing ++ [imageKey (inFallback c d.val (unitKey k r pos)) (unitKey k r pos)] := by
  obtain ⟨slow, runs⟩ := unitDone_failed (busy := busy) hr hf hp hb
  generalize unitKey k r pos = key at *
  obtain ⟨dies, missing, fields⟩ := unitWritten_leaves d.val key false c
  have failed := programFailed_flashOnly d.val key (unitWritten d.val key false c)
  have place : inFallback (programFailed d.val key (unitWritten d.val key false c)) d.val key = inFallback c d.val key :=
    inFallback_congr d.val key ((failed.1 _ (by decide)).trans (fields _ (by decide)))
  have left := progress_slowUnit d (unitWay c d.val key) slow (rewriteUnit d.val key (unitWritten d.val key false c))
  rw [← runs, rewriteUnit_spent ((dies d.val).symm ▸ ht) hn] at left
  constructor
  · have programmed := congrArg Prod.fst left
    rw [progress, progress, dieSave_leaveMissing, dieSave_congr _ failed.save_eq, dies] at programmed
    exact programmed
  · have listed := congrArg (fun p => p.2.2) left
    simp only [progress, leaveMissing_image, failed.save_eq, place, missing] at listed
    exact listed

/-! Dropped dies (R208). -/

/-- A die of a set is dropped, and counted. -/
def dieDropped (d wk : Nat) (c : Ctl) : Ctl := addF (Reg.SAV_SD_FAIL.DROPPED d) (updDie d (fun y => { y with dropped := y.dropped ++ [wk] }) c)

theorem dieSave_dieDropped (d wk : Nat) (c : Ctl) :
    dieSave (dieDropped d wk c) d = { dieSave c d with dropped := (dieSave c d).dropped ++ [wk] } := dieSave_updDie_same ..

theorem dropped_apart (d : Fin 2) : (Reg.SAV_SD_FAIL.DROPPED d.val).key ≠ Reg.SAV_LAST_CFG.SETS.key := by
  revert d
  decide

/-- The unit waits for the die on way `wk`. -/
def unitWaits (c : Ctl) (d wk key : Nat) : Bool := unitWay c d key == wk && !(dieSave c d).programmed.contains key

theorem dropDie_drops {d k pos key : Nat} {c : Ctl} (hr : saveRuns c d = true) (hd : setMember c d k pos ∉ (dieSave c d).dropped)
    (hf : key ∈ (dieSave c d).fetched) (hw : unitWaits c d (setMember c d k pos) key = true) :
    dropDie d k pos c = ((dieSave c d).fetched.filter (unitWaits c d (setMember c d k pos))).foldl (fun c key => leaveMissing d key c)
      (dieDropped d (setMember c d k pos) c) := by
  have waits : (dieSave c d).fetched.any (unitWaits c d (setMember c d k pos)) = true := List.any_eq_true.2 ⟨key, hf, hw⟩
  exact if_neg (by
    rintro (h | h | h)
    · simp [hr] at h
    · exact hd (List.contains_iff_mem.1 h)
    · exact absurd ((congrArg not waits).symm.trans h) (by decide))

theorem dropDie_none {d k pos : Nat} {c : Ctl} (h : saveRuns c d = false ∨ setMember c d k pos ∈ (dieSave c d).dropped) : dropDie d k pos c = c :=
  if_pos (by
    rcases h with h | h
    · exact .inl (by simp [h])
    · exact .inr (.inl (List.contains_iff_mem.2 h)))

/-- The die is dropped, and every fetched unit that waits for it is left missing. -/
theorem dropDie_leaves (d : Fin 2) {k pos key : Nat} {c : Ctl} (hr : saveRuns c d.val = true)
    (hd : setMember c d.val k pos ∉ (dieSave c d.val).dropped) (hf : key ∈ (dieSave c d.val).fetched)
    (hw : unitWay c d.val key = setMember c d.val k pos) (hp : key ∉ (dieSave c d.val).programmed) :
    setMember c d.val k pos ∈ (dieSave (dropDie d.val k pos c) d.val).dropped ∧ key ∈ (dieSave (dropDie d.val k pos c) d.val).programmed
    ∧ imageKey (inFallback c d.val key) key ∈ (dropDie d.val k pos c).save.image.missing := by
  have waits : unitWaits c d.val (setMember c d.val k pos) key = true := by simp [unitWaits, hw, hp]
  have listed : key ∈ (dieSave c d.val).fetched.filter (unitWaits c d.val (setMember c d.val k pos)) := List.mem_filter.2 ⟨hf, waits⟩
  obtain ⟨die, missing⟩ := leaveMissing_all d ((dieSave c d.val).fetched.filter (unitWaits c d.val (setMember c d.val k pos)))
    (dieDropped d.val (setMember c d.val k pos) c)
  have place : inFallback (dieDropped d.val (setMember c d.val k pos) c) d.val key = inFallback c d.val key :=
    inFallback_congr d.val key ((getF_addF_ne (dropped_apart d) _).trans (getF_congr _ (updDie_only ..).1))
  rw [dropDie_drops hr hd hf waits, die, missing, dieSave_dieDropped]
  exact ⟨by simp, List.mem_append_right _ listed, List.mem_append_right _ (List.mem_map.2 ⟨key, listed, by rw [place]⟩)⟩

/-! Confirmation (R201, R209). -/

theorem testBit_bitSet_iff (m i n : Nat) : (bitSet m i).testBit n = true ↔ i = n ∨ m.testBit n = true := by
  simp [bitSet, Nat.testBit_or, Nat.one_shiftLeft, Nat.testBit_two_pow, or_comm]

theorem testBit_foldl_bitSet (l : List Nat) (m n : Nat) : (l.foldl bitSet m).testBit n = true ↔ n ∈ l ∨ m.testBit n = true := by
  induction l generalizing m with
  | nil => simp
  | cons i l ih => rw [List.foldl_cons, ih, testBit_bitSet_iff, List.mem_cons, or_left_comm, or_assoc, eq_comm (a := n)]

theorem writeRecord_confirm (c : Ctl) : (writeRecord c).save.confirm = c.save.confirm := by
  unfold writeRecord
  dsimp only
  split
  · split <;> rfl
  · rfl

/-- The slots that the die confirms now. -/
def slotsNew (c : Ctl) (d : Nat) : List Nat :=
  (List.range (slotTotal c)).filter (fun n => takesSlot c d n && !c.save.confirm.testBit n && slotDone c d n)

theorem confirmSlots_confirm {d : Nat} {c : Ctl} (hr : saveRuns c d = true) :
    (confirmSlots d c).save.confirm = (slotsNew c d).foldl bitSet c.save.confirm := by
  unfold confirmSlots
  rw [if_neg (by simp [hr])]
  exact writeRecord_confirm _

theorem confirmSlots_none {d : Nat} {c : Ctl} (hr : saveRuns c d = false) : confirmSlots d c = c := if_pos (by simp [hr])

/-- Every slot that the die saves and has done is confirmed, and no confirmation is taken back. -/
theorem confirmSlots_confirms {d : Nat} {c : Ctl} (hr : saveRuns c d = true) :
    (∀ n, n < slotTotal c → takesSlot c d n = true → slotDone c d n = true → (confirmSlots d c).save.confirm.testBit n = true)
    ∧ ∀ n, c.save.confirm.testBit n = true → (confirmSlots d c).save.confirm.testBit n = true := by
  rw [confirmSlots_confirm hr]
  refine ⟨fun n hn ht hd => (testBit_foldl_bitSet ..).2 ?_, fun n h => (testBit_foldl_bitSet ..).2 (.inr h)⟩
  by_cases h : c.save.confirm.testBit n = true
  · exact .inr h
  · exact .inl (List.mem_filter.2 ⟨List.mem_range.2 hn, by simp [ht, hd, h]⟩)

/-! What the hub tells a save die (R19, R215, R219). -/

theorem fwLoad_sends {d : Nat} {c : Ctl} (hs : c.op = .waking) (hg : wakeGoes c = true) (hw : wakeDone c 7 = true) (hl : linkLive c d = true) :
    fwLoad d c = sendLink d .fwLoad [c.mbx.fwSlot] [] { c with
      waking := { c.waking with fw := bitSet c.waking.fw d }
      mbx := { c.mbx with sdSlot := c.mbx.fwSlot } } := if_pos ⟨hs, hg, hw, hl⟩

theorem fwLoad_none {d : Nat} {c : Ctl} (h : c.op ≠ .waking ∨ wakeGoes c = false ∨ wakeDone c 7 = false ∨ linkLive c d = false) : fwLoad d c = c :=
  if_neg (fun ⟨hs, hg, hw, hl⟩ => by simp [hs, hg, hw, hl] at h)

/-- The die is to run its image, of the slot that the hub booted. -/
theorem fwLoad_leaves {d : Nat} {c : Ctl} (hs : c.op = .waking) (hg : wakeGoes c = true) (hw : wakeDone c 7 = true) (hl : linkLive c d = true) :
    (fwLoad d c).waking.fw.testBit d = true ∧ (fwLoad d c).mbx.sdSlot = c.mbx.fwSlot
    ∧ (⟨.link d, .fwLoad, [c.mbx.fwSlot], []⟩ : Msg) ∈ (fwLoad d c).sent ∧ (fwLoad d c).rf = c.rf := by
  rw [fwLoad_sends hs hg hw hl]
  obtain ⟨regs, parts⟩ := sendLink_only d .fwLoad [c.mbx.fwSlot] [] { c with
    waking := { c.waking with fw := bitSet c.waking.fw d }
    mbx := { c.mbx with sdSlot := c.mbx.fwSlot } }
  refine ⟨?_, congrArg Mbx.sdSlot (parts .mbx (by simp)), mem_sendLink_sent .., regs⟩
  rw [parts .waking (by simp)]
  exact testBit_bitSet ..

/-! The commands. -/

/-- Settles O22: each command by its operation's own lemma, a command of a die whose pipeline does not run by the branch that changes nothing. -/
theorem saveDies : Obligations.SaveDies := by
  refine ⟨fun s d => ⟨?start, ?startNone, ?fill, ?sfetch, ?sfetchNone, ?data, ?done, ?failed, ?doneNone, ?drop, ?dropNone, ?confirm, ?confirmNone⟩,
    fun s d => ⟨?fw, ?fwNone, ?key, ?service⟩⟩
  case start =>
    intro hs hd hw hn
    obtain ⟨started, saving, count, op⟩ := saveStart_leaves d hs hd hw hn
    exact ⟨onCtl (saveStart d.val) s, rfl, started, saving, count, op, rfl, rfl, rfl⟩
  case startNone => exact fun h => exec_fixed (f := saveStart d.val) rfl (saveStart_none h)
  case fill => exact leadsTo_onCtl (f := saveFill d.val) rfl (fun ⟨hr, hf⟩ => saveFill_sends hr hf) saveFill_none
  case sfetch =>
    intro n u hr hn
    obtain ⟨requested, other, sent⟩ := sfetch_leaves d hr hn
    exact ⟨onCtl (sfetch d.val) s, rfl, requested, other, sent, rfl, rfl, rfl⟩
  case sfetchNone => exact fun h => exec_fixed (f := sfetch d.val) rfl (sfetch_none h)
  case data =>
    intro key x hr hk hx hc
    obtain ⟨fetched, content, sent⟩ := sfetchData_leaves hr hk hx hc
    exact ⟨onCtl (sfetchData d.val) s, rfl, fetched, content, sent, rfl, rfl, rfl⟩
  case done =>
    intro k r pos busy hr hf hp hb
    have done := unitDone_ok_progress d busy hr hf hp hb
    exact ⟨onCtl (unitDone d.val k r pos true busy) s, rfl, congrArg Prod.fst done, congrArg (fun p => p.2.1) done, rfl, rfl, rfl⟩
  case failed =>
    intro k r pos busy n hr hf hp hb ht hn
    obtain ⟨programmed, missing⟩ := unitDone_failed_progress d busy hr hf hp hb ht hn
    exact ⟨onCtl (unitDone d.val k r pos false busy) s, rfl, programmed, missing, rfl, rfl, rfl⟩
  case doneNone => exact fun k r pos ok busy h => exec_fixed (f := unitDone d.val k r pos ok busy) rfl (unitDone_none h)
  case drop =>
    intro k pos key hr hd hf hw hp
    obtain ⟨dropped, programmed, missing⟩ := dropDie_leaves d hr hd hf hw hp
    exact ⟨onCtl (dropDie d.val k pos) s, rfl, dropped, programmed, missing, rfl, rfl, rfl⟩
  case dropNone => exact fun k pos h => exec_fixed (f := dropDie d.val k pos) rfl (dropDie_none h)
  case confirm =>
    intro hr
    obtain ⟨confirmed, kept⟩ := confirmSlots_confirms hr
    exact ⟨onCtl (confirmSlots d.val) s, rfl, confirmed, kept, rfl, rfl, rfl⟩
  case confirmNone => exact fun h => exec_fixed (f := confirmSlots d.val) rfl (confirmSlots_none h)
  case fw =>
    intro hs hg hw hl
    obtain ⟨fw, slot, sent, regs⟩ := fwLoad_leaves hs hg hw hl
    exact ⟨onCtl (fwLoad d.val) s, rfl, fw, slot, sent, regs, rfl, rfl, rfl⟩
  case fwNone => exact fun h => exec_fixed (f := fwLoad d.val) rfl (fwLoad_none h)
  case key =>
    exact leadsTo_onCtl (f := keyLoad d.val) rfl
      (fun ⟨hp, hl, hd⟩ => if_pos (by simpa [hp, hl] using hd)) (fun h => if_neg (by simpa using h))
  case service =>
    exact leadsTo_onCtl (f := service d.val) rfl
      (fun ⟨hp, hd, ho, hl⟩ => if_pos (by simp [hp, hd, ho, hl])) (fun h => if_neg (by simpa [and_assoc] using h))

end Sys2Proof.Machine
end

section
/-! What the shared operations of a restore touch at most (R229-R245): the release of images, the format of a die, a new media key, the ready
slots, the opening of guest intake, a report, and a frame lost. -/
namespace Sys2Proof.Machine

theorem PartsOnly.foldl {α : Type} {ps : List Part} {g : Ctl → α → Ctl} (h : ∀ c x, PartsOnly ps c (g c x)) (l : List α) (c : Ctl) :
    PartsOnly ps c (l.foldl g c) :=
  List.foldlRecOn (motive := PartsOnly ps c) l g (.refl _ c) (fun d hd x _ => hd.trans (h d x))

theorem restore_only (r : Restore) (c : Ctl) : PartsOnly [.restore] c { c with restore := r } :=
  ⟨rfl, fun p hp => by cases p <;> first | rfl | simp at hp⟩

theorem dtk_only (x : Dtk) (c : Ctl) : PartsOnly [.dtk] c { c with dtk := x } :=
  ⟨rfl, fun p hp => by cases p <;> first | rfl | simp at hp⟩

theorem epg_only (x : Epg) (c : Ctl) : PartsOnly [.epg] c { c with epg := x } :=
  ⟨rfl, fun p hp => by cases p <;> first | rfl | simp at hp⟩

theorem images_only (n : Nv) (m : Images) (c : Ctl) : PartsOnly [.nv, .images] c { c with nv := n, images := m } :=
  ⟨rfl, fun p hp => by cases p <;> first | rfl | simp at hp⟩

/-! The release of images (R233). -/

/-- The fields that a release of images may touch: the state of the seals, and KEEP_WRITES. -/
def releaseFlds : List Fld := [Reg.HEEL_RECOVERY.KEEP_WRITES, Reg.HEEL_SEAL_STATUS.SEALED_VALID, Reg.HEEL_SEAL_STATUS.PROTECTED,
  Reg.HEEL_CARRY.CARRY_VALID, Reg.HEEL_CARRY.CARRY_PROTECTED]

theorem keepWritesEnd_changes (ps : List Part) (x : Option Seal) (c : Ctl) : Changes releaseFlds ps c (keepWritesEnd x c) := by
  unfold keepWritesEnd
  split
  · exact Changes.ite (setF_within (by simp [releaseFlds]) 0 (Changes.refl _ _ _)) (Changes.refl _ _ _)
  · exact Changes.refl _ _ _

theorem releaseImages_changes (newest carried : Bool) (c : Ctl) : Changes releaseFlds [.nv, .images] c (releaseImages newest carried c) := by
  unfold releaseImages
  extract_lets ended _ _ sealGone
  have hended : Changes releaseFlds [.nv, .images] c ended := (keepWritesEnd_changes ..).trans (keepWritesEnd_changes ..)
  have hgone : Changes releaseFlds [.nv, .images] c sealGone :=
    Changes.ite (setF_within (by simp [releaseFlds]) 0 (setF_within (by simp [releaseFlds]) 0 (hended.trans ((images_only ..).changes _)))) hended
  exact Changes.ite (setF_within (by simp [releaseFlds]) 0 (setF_within (by simp [releaseFlds]) 0 (hgone.trans ((images_only ..).changes _)))) hgone

/-- A release of both images leaves none. -/
theorem releaseImages_both (c : Ctl) : (releaseImages true true c).images = Images.init := by
  simp [releaseImages, Images.init]

theorem placeLast_only (c : Ctl) : PartsOnly [.save] c (placeLast c) :=
  PartsOnly.ite (save_only _ c) (.refl _ c)

theorem releaseCheck_changes (c : Ctl) : Changes releaseFlds [.nv, .images, .save] c (releaseCheck c) := by
  unfold releaseCheck
  refine Changes.ite (Changes.refl _ _ _) (Changes.ite ?_ (Changes.refl _ _ _))
  exact ((releaseImages_changes ..).mono (fun _ h => h) (by simp)).trans (((placeLast_only _).mono (by simp)).changes _)

/-! The flash side of an erase (R219). -/

theorem formatWay_only (wk : Nat) (c : Ctl) : PartsOnly [.flash] c (formatWay wk c) :=
  ((updFlash_only _ c).trans (updFlash_only ..)).trans (updFlash_only ..)

theorem formatDie_only (d : Nat) (c : Ctl) : PartsOnly [.flash, .weltNv] c (formatDie d c) := by
  unfold formatDie
  extract_lets cleared _ journal _ ways
  have hcleared : PartsOnly [.flash, .weltNv] c cleared := (updFlash_only _ c).mono (by simp)
  have hjournal : PartsOnly [.flash, .weltNv] c journal := hcleared.trans ((weltNv_only _ cleared).mono (by simp))
  have hways : PartsOnly [.flash, .weltNv] c ways :=
    hjournal.trans (PartsOnly.foldl (fun c wk => ((updFlash_only _ c).trans (formatWay_only ..)).mono (by simp)) _ _)
  exact hways.trans ((updFlash_only ..).mono (by simp))

/-- A new media key is drawn, and goes to the save dies. -/
theorem newKey_changes (c : Ctl) : Changes [] [.fresh, .ef, .flash, .prd, .sent, .guest] c (newKey c) := by
  have goes : ∀ d c, PartsOnly [.fresh, .ef, .flash, .prd, .sent, .guest] c (keyGo d c) := fun d c =>
    ((updFlash_only _ c).mono (by simp)).trans ((sendLink_only ..).mono (by simp))
  unfold newKey
  extract_lets drawn _ _ stored
  have hdrawn : Changes [] [.fresh] c drawn.2 := drawBytes_changes [] 32 c
  clear_value drawn
  have hstored : Changes [] [.fresh, .ef, .flash, .prd, .sent, .guest] c stored :=
    (hdrawn.mono (by simp) (by simp)).trans ((ef_changes [] _ drawn.2).mono (by simp) (by simp))
  exact hstored.trans ((PartsOnly.foldl (fun c d => PartsOnly.ite (goes d c) (.refl _ c)) _ _).changes _)

/-! The ready slots (R173, R262). -/

theorem fillSlotless_changes (c : Ctl) : Changes [Reg.DTK_DIRTY.D] [.dtk] c (fillSlotless c) := by
  unfold fillSlotless
  refine Changes.foldl (fun c e => ?_) _ c
  split
  · exact setFrame_changes _ _ c
  · exact Changes.refl _ _ _

/-- Outside Serving no change to Derated follows. -/
theorem derateCheck_of_ne_serving {c : Ctl} (h : c.op ≠ .serving) : derateCheck c = setF Reg.HEEL_DEGRADE.DERATE (derateBits c) c :=
  if_neg (fun hs => h hs.1)

/-- Outside Serving the tracker alone knows the ready slots anew. -/
theorem setReady_changes (bits : Nat) {c : Ctl} (h : c.op ≠ .serving) :
    Changes [Reg.DTK_SOLE.READY, Reg.DTK_DIRTY.D, Reg.HEEL_DEGRADE.DERATE] [.dtk] c (setReady bits c) := by
  unfold setReady
  extract_lets _ known
  have hknown : Changes [Reg.DTK_SOLE.READY, Reg.DTK_DIRTY.D, Reg.HEEL_DEGRADE.DERATE] [.dtk] c known :=
    setF_within (by simp) _ ((dtk_only _ c).changes _)
  have filled : Changes [Reg.DTK_SOLE.READY, Reg.DTK_DIRTY.D, Reg.HEEL_DEGRADE.DERATE] [.dtk] c (fillSlotless known) :=
    hknown.trans ((fillSlotless_changes known).mono (by simp) (fun _ h => h))
  rw [derateCheck_of_ne_serving (by rwa [filled.op_eq (by simp)])]
  exact setF_within (by simp) _ filled

/-! Guest intake and reports (R293, R365). -/

/-- The fields and the parts that the opening of guest intake may touch. -/
def guestFlds : List Fld := [Reg.GST_STATUS.ERA, Reg.PRD_LK_STATUS.ERA 2, Reg.GST_STATUS.PORT, Reg.HUB_DOMAIN_STATUS.GUEST_OPEN]
def guestParts : List Part := [.prd, .sent, .guest]

theorem advanceEra_changes (c : Ctl) : Changes guestFlds guestParts c (advanceEra c) := by
  have told : ∀ f, Changes guestFlds guestParts c (updGuest f c) := fun f => ((updGuest_only f c).mono (by simp [guestParts])).changes _
  exact (setF_within (by simp [guestFlds]) _ (setF_within (by simp [guestFlds]) _ (told _))).trans ((sendEvt_only ..).changes _)

theorem guestTryOpen_changes (c : Ctl) : Changes guestFlds guestParts c (guestTryOpen c) := by
  unfold guestTryOpen
  refine Changes.ite ?_ (Changes.refl _ _ _)
  extract_lets era opened
  have hera : Changes guestFlds guestParts c era := Changes.ite (advanceEra_changes c) (Changes.refl _ _ _)
  have hopened : Changes guestFlds guestParts c opened := hera.trans (((updGuest_only _ era).mono (by simp [guestParts])).changes _)
  exact (setF_within (by simp [guestFlds]) _ (setF_within (by simp [guestFlds]) _ hopened)).trans
    (((sendLink_only ..).trans (sendLink_only ..)).changes _)

/-- The fields and the parts that a report may touch. -/
def reportFlds : List Fld := Reg.EPG_COUNTS.DROPPED :: Reg.SBB_ALERT_PEND.PEND :: Reg.MBX_ALERT_PEND.PEND :: alertFlds
def reportParts : List Part := [.epg, .sent, .sbb]

theorem report_changes (kind reason epoch : Nat) (c : Ctl) : Changes reportFlds reportParts c (report kind reason epoch c) := by
  unfold report queueReport
  refine Changes.ite ?_ (addF_within (by simp [reportFlds]) (Changes.refl _ _ _))
  have queued : ∀ x, Changes reportFlds reportParts c { c with epg := x } := fun x => ((epg_only x c).mono (by simp [reportParts])).changes _
  exact (sbAlertSource_changes ..).andThen (by simp [reportFlds]) (by simp [reportParts])
    ((vendorAlert_changes ..).andThen (fun f h => by simp_all [reportFlds]) (by simp [reportParts]) (queued _))

/-! A frame lost (R243). -/

/-- A frame lost is counted, listed and recorded, and nothing else moves. -/
theorem frameLost_move (f n : Nat) (c : Ctl) : EngineMove c (frameLost f n c) :=
  (engineMove_poisonAdd _ _ c).trans (EngineMove.trans ⟨fun p _ => (addF_changes _ _).2 p (by simp), List.suffix_refl _⟩ (engineMove_logEvent ..))

end Sys2Proof.Machine
end

section
/-! Proofs about the steps of a restore (R229, R231, R244): each step by what it leaves, and the command by the step that it runs. -/
namespace Sys2Proof.Machine

/-! Step 0: a pending erase is resumed (R231). -/

/-- What an erase on the flash side leaves in Restoring: the erase is no longer pending, the poison list and the copy units are empty, and no image
is held. -/
theorem wipeFlash_leaves (sanitize : Bool) {c : Ctl} (ho : c.op = .restoring) :
    (wipeFlash sanitize c).ef.pendingErase = 0 ∧ (wipeFlash sanitize c).ef.poisonList = [] ∧ (wipeFlash sanitize c).flash.units = []
    ∧ (wipeFlash sanitize c).images = Images.init := by
  have released := releaseImages_changes true true (newKey c)
  have unheld := releaseImages_both (newKey c)
  have restoring : (newKey c).op = .restoring := ((newKey_changes c).op_eq (by simp)).trans ho
  unfold wipeFlash
  extract_lets keyed formatted first n old base ring zeros pages journaled _ _ _ _ _ _ _ _ wiped
  have hformatted : PartsOnly [.flash, .weltNv] keyed formatted :=
    PartsOnly.ite (PartsOnly.foldl (fun c d => PartsOnly.ite (formatDie_only d c) (.refl _ c)) _ _) (.refl _ _)
  have hop : wiped.op = .restoring := (hformatted.2 .op (by simp)).trans ((released.op_eq (by simp)).trans restoring)
  have himages : wiped.images = Images.init := (hformatted.2 .images (by simp)).trans unheld
  have ready := (setReady_changes (readyBits wiped) (by simp [hop] : wiped.op ≠ .serving)).2
  exact ⟨congrArg Eflash.pendingErase (ready .ef (by simp)), congrArg Eflash.poisonList (ready .ef (by simp)),
    congrArg Flash.units (ready .flash (by simp)), (ready .images (by simp)).trans himages⟩

/-- The end of the background operation is told to the heads. -/
def eraseTold (c : Ctl) : Ctl := match c.cxl.bg with | some b => bgInterrupt b c | none => c

theorem eraseTold_changes (c : Ctl) : Changes l1Flds [.sent] c (eraseTold c) := by
  unfold eraseTold bgInterrupt
  split
  · split
    · exact msix_changes ..
    · exact Changes.foldl (fun c h => msix_changes h 0 c) _ c
  · exact Changes.refl _ _ _

/-- Step 0: the erase completes on the flash side, the heads are told, and the time of the restore counts from now. -/
def eraseResumed (c : Ctl) : Ctl :=
  let d := eraseTold (wipeFlash (c.restore.resume == 1) c)
  { d with
    cxl := { d.cxl with bg := none, lastBg := (if c.restore.resume = 1 then 0x4400 else 0x4401, 0) }
    restore := { d.restore with resume := 0, since := d.uptime } }

theorem eraseResumed_leaves {c : Ctl} (ho : c.op = .restoring) :
    (eraseResumed c).restore.resume = 0 ∧ (eraseResumed c).ef.pendingErase = 0 ∧ (eraseResumed c).cxl.bg = none
    ∧ (eraseResumed c).ef.poisonList = [] ∧ (eraseResumed c).flash.units = [] ∧ (eraseResumed c).images = Images.init := by
  obtain ⟨pending, poison, units, images⟩ := wipeFlash_leaves (c.restore.resume == 1) ho
  have told := (eraseTold_changes (wipeFlash (c.restore.resume == 1) c)).2
  exact ⟨rfl, (congrArg Eflash.pendingErase (told .ef (by simp))).trans pending, rfl,
    (congrArg Eflash.poisonList (told .ef (by simp))).trans poison, (congrArg Flash.units (told .flash (by simp))).trans units,
    (told .images (by simp)).trans images⟩

/-! The command runs the step that follows the last one. -/

/-- Step 1 of R229 has located the records. -/
def stepLocate (c : Ctl) : Ctl := setF Reg.SAV_RST_STATUS.PHASE 1 { c with restore := { c.restore with step := 1 } }

/-- What the command does when `n` steps have completed. -/
def stepAfter (i : RestoreInfo) : Nat → Ctl → Ctl
  | 0 => stepLocate
  | 1 => stepImages i
  | 2 => stepWelt i
  | 3 => stepTarget
  | 4 => stepMap
  | 5 => fun c => stepOpen (stepOutcome c)
  | _ => id

theorem stepAfter_open (i : RestoreInfo) {n : Nat} (h : 6 ≤ n) : stepAfter i n = id := by
  obtain ⟨m, rfl⟩ := Nat.exists_eq_add_of_le' h
  rfl

theorem restoreStep_idle (i : RestoreInfo) {c : Ctl} (h : c.op ≠ .restoring ∨ fwRunning c = false) : restoreStep i c = c :=
  if_pos (by simpa using h)

theorem restoreStep_resumes (i : RestoreInfo) {c : Ctl} (ho : c.op = .restoring) (hf : fwRunning c = true) (hr : c.restore.resume ≠ 0) :
    restoreStep i c = eraseResumed c := (if_neg (by simp [ho, hf])).trans (if_pos hr)

theorem restoreStep_steps (i : RestoreInfo) {c : Ctl} (ho : c.op = .restoring) (hf : fwRunning c = true) (hr : c.restore.resume = 0) :
    restoreStep i c = stepAfter i c.restore.step c := by
  refine (if_neg (by simp [ho, hf])).trans ((if_neg (by simp [hr])).trans ?_)
  match c.restore.step with
  | 0 | 1 | 2 | 3 | 4 | 5 | n + 6 => rfl

/-- A step of the restore by the number of those before it. -/
theorem exec_restoreStep {i : RestoreInfo} {s : State} {n : Nat} (ho : s.ctl.op = .restoring) (hf : fwRunning s.ctl = true)
    (hr : s.ctl.restore.resume = 0) (hn : s.ctl.restore.step = n) : exec (.restoreStepComplete i) s = .next (onCtl (stepAfter i n) s) :=
  exec_onCtl (f := restoreStep i) rfl (by rw [restoreStep_steps i ho hf hr, hn])

/-! Step 2: the records of the images, and the command journal (R229, R396). -/

theorem loadJournal_restore (c : Ctl) : (loadJournal c).restore = c.restore := by
  unfold loadJournal
  split <;> rfl

/-- No number below the recorded base is given again, and a journal is loaded when an image is held. -/
theorem loadJournal_mbx (c : Ctl) : getF Reg.HEEL_JRNL_BASE.SEQ c ≤ (loadJournal c).mbx.nextSeq
    ∧ (loadJournal c).mbx.loaded = (c.images.newest.or c.images.carried).isSome := by
  unfold loadJournal
  extract_lets base
  split
  · next h => exact ⟨Nat.le_max_right _ _, by rw [h]; rfl⟩
  · next h => exact ⟨Nat.le_max_right _ _, by rw [h]; rfl⟩

theorem stepImages_leaves (i : RestoreInfo) (c : Ctl) :
    (stepImages i c).restore.step = 2 ∧ getF Reg.SAV_RST_STATUS.PHASE (stepImages i c) = 2
    ∧ getF Reg.HEEL_JRNL_BASE.SEQ c ≤ (stepImages i c).mbx.nextSeq
    ∧ (stepImages i c).mbx.loaded = (c.images.newest.or c.images.carried).isSome := by
  unfold stepImages
  extract_lets scanN scanC scanned lostN lostC dirty allN allC position _ found
  have hscanned : Changes [Reg.SAV_RST_STATUS.SCAN] [] c scanned := Changes.ite (setF_changes _ _ c) (Changes.refl _ _ _)
  have hbase : getF Reg.HEEL_JRNL_BASE.SEQ scanned = getF Reg.HEEL_JRNL_BASE.SEQ c := hscanned.getF_eq _ (by decide)
  have himages : scanned.images = c.images := hscanned.2 .images (by simp)
  obtain ⟨seq, loaded⟩ := loadJournal_mbx { scanned with restore := found }
  exact ⟨congrArg Restore.step (loadJournal_restore _), getF_setF_same .., hbase ▸ seq, himages ▸ loaded⟩

/-! Step 3: the Welt state (R189, R231). -/

/-- Of the entries above the limit a die keeps the BASE_DONE entries alone. -/
theorem mem_voidAbove {limit : Option Nat} {w : WeltDie} {e : JEntry} (h : e ∈ (voidAbove limit w).pages.flatMap RingPage.entries) :
    e.type = .baseDone ∨ overLimit limit e.jseq = false := by
  obtain ⟨p, hp, he⟩ := List.mem_flatMap.1 h
  obtain ⟨q, _, rfl⟩ := List.mem_map.1 (List.mem_filter.1 hp).1
  have stays := (List.mem_filter.1 he).2
  cases limit with
  | none => exact .inr rfl
  | some n => simpa [overLimit] using stays

theorem stepWelt_leaves (i : RestoreInfo) {c : Ctl} (h : formattedNow c = false) :
    (stepWelt i c).restore.step = 3 ∧ getF Reg.SAV_RST_STATUS.PHASE (stepWelt i c) = 3
    ∧ (∀ e ∈ (stepWelt i c).weltNv.entries, (stepWelt i c).weltNv.base.covered < e.jseq
      ∧ (e.type = .baseDone ∨ overLimit (weltLimit c) e.jseq = false))
    ∧ (stepWelt i c).welt.nextJseq = recoveredJseq c ∧ (i.noBase = true → (stepWelt i c).weltNv.base.entries = []) := by
  unfold stepWelt
  extract_lets served lost read found lim _ base slot pages entries void gone
  rw [if_neg (by simp [h])]
  refine ⟨rfl, ?phase, ?entries, rfl, ?noBase⟩
  case phase =>
    rw [getF_setF_ne (by decide), getF_setF_ne (by decide), getF_setF_ne (by decide), getF_setF_ne (by decide), getF_setF_same]
    rfl
  case entries =>
    intro e he
    obtain ⟨hpage, hcovered⟩ := List.mem_filter.1 (show e ∈ entries from he)
    exact ⟨of_decide_eq_true hcovered, mem_voidAbove hpage⟩
  case noBase =>
    intro hb
    have hfound : found = none := if_pos hb
    show base.entries = []
    simp only [base, hfound]
    rfl

/-- A module without a base map writes its first one. -/
theorem stepWelt_first {i : RestoreInfo} {c : Ctl} (hf : formattedNow c = true) (hb : i.noBase = true) (hc : c.welt.compact = none) :
    (stepWelt i c).restore = c.restore ∧ (stepWelt i c).welt.compact = some { BaseMap.init with gen := 1 }
    ∧ (stepWelt i c).weltNv.entries = [] ∧ getF Reg.DTK_WELT_STATUS.COMPACTING (stepWelt i c) = 1 := by
  have step : stepWelt i c = firstBase c := if_pos (by simp [hb, hf])
  have first : firstBase c = setF Reg.DTK_WELT_STATUS.COMPACTING 1 _ := if_neg (by simp [hc])
  rw [step, first]
  exact ⟨rfl, rfl, rfl, getF_setF_same ..⟩

/-! Step 4: the target (R239, R240). -/

/-- The last sealed epoch of the Welt state is noted. -/
def sealedNoted (c : Ctl) : Ctl := { c with restore := { c.restore with sealedWas := (weltNow c).sealedEpoch } }

theorem stepTargetEnd_changes (c : Ctl) : Changes [Reg.HEEL_RESTORE_TGT.TARGET] [.restore] c (stepTargetEnd c) :=
  Changes.trans (d := if c.restore.once then setF Reg.HEEL_RESTORE_TGT.TARGET 0 c else c)
    (Changes.ite (setF_within (by simp) 0 (Changes.refl _ _ _)) (Changes.refl _ _ _)) ((restore_only _ _).changes _)

/-- The step ends; a target for one restore goes back to 0. -/
theorem stepTargetEnd_leaves (c : Ctl) : (stepTargetEnd c).restore = { c.restore with step := 4 }
    ∧ (c.restore.once = true → getF Reg.HEEL_RESTORE_TGT.TARGET (stepTargetEnd c) = 0) := by
  unfold stepTargetEnd
  split
  · exact ⟨rfl, fun _ => getF_setF_same Reg.HEEL_RESTORE_TGT.TARGET 0 c⟩
  · next h => exact ⟨rfl, fun once => absurd once h⟩

/-- The last group-committed epoch is the target applied. -/
def committedChosen (c : Ctl) : Ctl :=
  setF Reg.SAV_RST_EPOCH.EPOCH (committedEpoch c) (setF Reg.SAV_RST_STATUS.TARGET_USED 1
    { sealedNoted c with restore := { (sealedNoted c).restore with target := 1 } })

section
variable {c : Ctl} (ht : c.restore.target = 0)
include ht

theorem stepTarget_latest (hw : c.restore.want = 0) : stepTarget c = stepTargetEnd (sealedNoted c) := by
  unfold stepTarget
  exact (if_neg (by simp [ht])).trans (if_pos hw)

theorem stepTarget_fallback (hw : c.restore.want ≠ 0) (hg : grpPresent c = false) :
    stepTarget c = stepTargetEnd (setF Reg.SAV_RST_STATUS.TARGET_FALLBACK 1 (sealedNoted c)) := by
  have absent : (!grpPresent (sealedNoted c)) = true := by rw [show grpPresent (sealedNoted c) = false from hg]; rfl
  unfold stepTarget
  exact (if_neg (by simp [ht])).trans ((if_neg hw).trans (if_pos (.inl absent)))

/-- The last group-committed epoch becomes the target of a map to be written. -/
theorem stepTarget_committed (hw : c.restore.want = 1) (hg : grpPresent c = true) (he : committedEpoch c ≠ 0) :
    stepTarget c = startEpochMap (epochBase (committedEpoch c) c) (committedChosen c) := by
  have usable : ¬ ((!grpPresent (sealedNoted c)) = true ∨ committedEpoch c = 0) := by
    rw [show grpPresent (sealedNoted c) = true from hg]
    simp [he]
  unfold stepTarget
  rw [if_neg (by simp [ht]), hw]
  exact (if_neg (by decide)).trans (if_neg usable)

end

/-! Step 5: the map (R228, R243). -/

theorem stepMap_leaves (c : Ctl) : (stepMap c).restore.step = 5 ∧ (stepMap c).op = c.op := by
  unfold stepMap
  extract_lets w all map fromImage shadows _ r mapped chained
  have hchained : chained.restore = r ∧ chained.op = c.op := by
    unfold chained
    split <;> exact ⟨rfl, rfl⟩
  have lost := (EngineMove.foldl (c := chained) (l := all)
    (g := fun c e => match e.2.2 with | some k => frameLost e.1 k c | none => c) (fun c e => by
      split
      · exact frameLost_move ..
      · exact .refl c)).1
  exact ⟨congrArg Restore.step ((lost .restore (by decide)).trans hchained.1), (lost .op (by decide)).trans hchained.2⟩

/-! Steps 6 and 7: the outcome and the opening (R244, R245, R447). -/

/-- The fields that the judgement of a recovery may touch. -/
def outcomeFlds : List Fld := [Reg.HEEL_SEAL_STATUS.LAST_UNSEALED, Reg.HEEL_RECOVERY.NEW, Reg.HEEL_RECOVERY.LAST_LOSSY, Reg.SAV_RST_STATUS.LOSSY,
  Reg.SAV_RST_STATUS.DSC_INC]

theorem stepOutcome_changes (c : Ctl) : Changes outcomeFlds [.ef] c (stepOutcome c) := by
  unfold stepOutcome
  extract_lets l unsealed dirty marked judged
  have hmarked : Changes outcomeFlds [.ef] c marked := Changes.ite (setF_within (by simp [outcomeFlds]) 1 (Changes.refl _ _ _)) (Changes.refl _ _ _)
  have hjudged : Changes outcomeFlds [.ef] c judged :=
    setF_within (by simp [outcomeFlds]) _ (setF_within (by simp [outcomeFlds]) _ (setF_within (by simp [outcomeFlds]) _ hmarked))
  exact Changes.ite (setF_within (by simp [outcomeFlds]) _ (hjudged.trans (ef_changes _ _ judged))) hjudged

/-- Early service is open. -/
def serviceOpened (c : Ctl) : Ctl :=
  setF Reg.SAV_RST_EARLY.MS (min 0xFFFF ((c.uptime - c.restore.since) / 1000000))
    (setF Reg.SAV_RST_STATUS.EARLY_OPEN 1 (setF Reg.SAV_RST_STATUS.PHASE 4 { c with restore := { c.restore with step := 7 } }))

/-- The fields and the parts that may move as M3 takes over the epochs, guest intake opens and images are released. -/
def openFlds : List Fld := Reg.EPG_SEALED.VALUE :: Reg.EPG_STATE.UNRESOLVED :: reportFlds ++ guestFlds ++ releaseFlds
def openParts : List Part := [.epg, .nv, .sent, .sbb, .prd, .guest, .images, .save]

theorem keepCausesAtOpen_none {c : Ctl} (hch : ∀ n, n < 8 → chFailed c n = false) (ht : ∀ x ∈ c.heel.temps, x ≤ 105) :
    keepCausesAtOpen c = c := by
  have channels : (List.range 8).any (chFailed c) = false := by simpa using hch
  have sensors : c.heel.temps.any (fun t => decide (105 < t)) = false := by simpa using ht
  simp [keepCausesAtOpen, channels, sensors]

/-- With early service open the rest of the step keeps to the bound, up to the Keep causes that hold already. -/
theorem stepOpen_opens (c : Ctl) : ∃ d, Changes openFlds openParts (serviceOpened c) d ∧ stepOpen c = keepCausesAtOpen d := by
  unfold stepOpen
  extract_lets _ opened _ target sealed unresolved _ group
  refine ⟨_, ?_, rfl⟩
  have htarget : Changes openFlds openParts (serviceOpened c) target := ((epg_only _ opened).mono (by simp [openParts])).changes _
  have hsealed : Changes openFlds openParts (serviceOpened c) sealed := Changes.ite (setF_within (by simp [openFlds]) _ htarget) htarget
  have hunresolved : Changes openFlds openParts (serviceOpened c) unresolved := setF_within (by simp [openFlds]) _ hsealed
  have hgroup : Changes openFlds openParts (serviceOpened c) group := by
    refine Changes.ite ?_ htarget
    split
    · exact (report_changes ..).andThen (fun f h => by simp [openFlds, h]) (by simp [reportParts, openParts])
        (hunresolved.trans (((images_only _ _ unresolved).mono (by simp [openParts])).changes _))
    · exact hunresolved
  exact (releaseCheck_changes _).andThen (fun f h => by simp [openFlds, h]) (by simp [openParts])
    ((guestTryOpen_changes _).andThen (fun f h => by simp [openFlds, h]) (by simp [guestParts, openParts]) hgroup)

/-- With no Keep cause at hand early service opens, and Restoring goes on. -/
theorem stepOpen_leaves {c : Ctl} (hch : ∀ n, n < 8 → chFailed c n = false) (ht : ∀ x ∈ c.heel.temps, x ≤ 105) :
    (stepOpen c).restore.step = 7 ∧ getF Reg.SAV_RST_STATUS.EARLY_OPEN (stepOpen c) = 1 ∧ (stepOpen c).op = c.op := by
  obtain ⟨d, within, opens⟩ := stepOpen_opens c
  have opened : Changes [Reg.SAV_RST_STATUS.PHASE, Reg.SAV_RST_STATUS.EARLY_OPEN, Reg.SAV_RST_EARLY.MS] [.restore] c (serviceOpened c) :=
    setF_within (by simp) _ (setF_within (by simp) _ (setF_within (by simp) _ ((restore_only _ c).changes _)))
  have apart : ∀ n, n < 8 → (Reg.DRC_STATUS.STATE n).key ∉ openFlds.map Fld.key
      ∧ (Reg.DRC_STATUS.STATE n).key ∉ [Reg.SAV_RST_STATUS.PHASE, Reg.SAV_RST_STATUS.EARLY_OPEN, Reg.SAV_RST_EARLY.MS].map Fld.key := by decide
  have channels : ∀ n, n < 8 → chFailed d n = false := fun n hn => by
    have same : chState d n = chState c n := (within.getF_eq _ (apart n hn).1).trans (opened.getF_eq _ (apart n hn).2)
    rw [chFailed, same]
    exact hch n hn
  have sensors : d.heel = c.heel := (within.2 .heel (by decide)).trans (opened.2 .heel (by simp))
  rw [opens, keepCausesAtOpen_none channels (sensors ▸ ht)]
  refine ⟨congrArg Restore.step (within.2 .restore (by decide)), ?early, (within.op_eq (by decide)).trans (opened.op_eq (by simp))⟩
  case early =>
    rw [within.getF_eq _ (by decide), serviceOpened, getF_setF_ne (by decide), getF_setF_same]
    rfl

/-- The judgement moves no channel and no sensor, so that the opening follows by what held before it. -/
theorem stepOutcome_open_leaves {c : Ctl} (hch : ∀ n, n < 8 → chFailed c n = false) (ht : ∀ x ∈ c.heel.temps, x ≤ 105) :
    (stepOpen (stepOutcome c)).restore.step = 7 ∧ getF Reg.SAV_RST_STATUS.EARLY_OPEN (stepOpen (stepOutcome c)) = 1
    ∧ (stepOpen (stepOutcome c)).op = c.op := by
  have judged := stepOutcome_changes c
  have apart : ∀ n, n < 8 → (Reg.DRC_STATUS.STATE n).key ∉ outcomeFlds.map Fld.key := by decide
  have channels : ∀ n, n < 8 → chFailed (stepOutcome c) n = false := fun n hn => by
    rw [chFailed, show chState (stepOutcome c) n = chState c n from judged.getF_eq _ (apart n hn)]
    exact hch n hn
  have sensors : (stepOutcome c).heel = c.heel := judged.2 .heel (by simp)
  rw [← judged.op_eq (by simp)]
  exact stepOpen_leaves channels (sensors ▸ ht)

/-! The command. -/

/-- Settles O28: the pending erase first, then each step by what it leaves; after the last step, or outside Restoring, nothing. -/
theorem restoreSteps : Obligations.RestoreSteps := by
  intro s i
  refine ⟨?resume, ?locate, ?images, ?welt, ?firstBase, ?latest, ?fallback, ?committed, ?opens, ?map, ?idle⟩
  case resume =>
    intro ho hf hr
    obtain ⟨resumed, pending, bg, poison, units, images⟩ := eraseResumed_leaves ho
    exact ⟨onCtl eraseResumed s, exec_onCtl (f := restoreStep i) rfl (restoreStep_resumes i ho hf hr), resumed, pending, bg, poison, units,
      images, rfl, rfl, rfl⟩
  case locate => exact fun ho hf hr hn => exec_restoreStep ho hf hr hn
  case images =>
    intro ho hf hr hn
    obtain ⟨step, phase, seq, loaded⟩ := stepImages_leaves i s.ctl
    exact ⟨_, exec_restoreStep ho hf hr hn, step, phase, seq, loaded, rfl, rfl, rfl⟩
  case welt =>
    intro ho hf hr hn h
    obtain ⟨step, phase, entries, jseq, noBase⟩ := stepWelt_leaves i h
    exact ⟨_, exec_restoreStep ho hf hr hn, step, phase, entries, jseq, noBase, rfl, rfl, rfl⟩
  case firstBase =>
    intro ho hf hr hn h hb hc
    obtain ⟨restore, compact, entries, compacting⟩ := stepWelt_first h hb hc
    exact ⟨_, exec_restoreStep ho hf hr hn, restore, compact, entries, compacting, rfl, rfl, rfl⟩
  case latest =>
    intro ho hf hr hn ht hw
    obtain ⟨ended, once⟩ := stepTargetEnd_leaves (sealedNoted s.ctl)
    have changes : Changes [Reg.HEEL_RESTORE_TGT.TARGET] [.restore] s.ctl (stepTargetEnd (sealedNoted s.ctl)) :=
      ((restore_only _ s.ctl).changes _).trans (stepTargetEnd_changes _)
    exact ⟨onCtl (fun c => stepTargetEnd (sealedNoted c)) s,
      (exec_restoreStep ho hf hr hn).trans (congrArg _ (onCtl_congr (stepTarget_latest ht hw))),
      congrArg Restore.step ended, (congrArg Restore.target ended).trans ht, once, changes.1, fun p hp => changes.2 p (by simpa using hp), rfl, rfl, rfl⟩
  case fallback =>
    intro ho hf hr hn ht hw hg
    have changes := stepTargetEnd_changes (setF Reg.SAV_RST_STATUS.TARGET_FALLBACK 1 (sealedNoted s.ctl))
    have ended := (stepTargetEnd_leaves (setF Reg.SAV_RST_STATUS.TARGET_FALLBACK 1 (sealedNoted s.ctl))).1
    exact ⟨onCtl (fun c => stepTargetEnd (setF Reg.SAV_RST_STATUS.TARGET_FALLBACK 1 (sealedNoted c))) s,
      (exec_restoreStep ho hf hr hn).trans (congrArg _ (onCtl_congr (stepTarget_fallback ht hw hg))),
      congrArg Restore.step ended, (changes.getF_eq _ (by decide)).trans (getF_setF_same ..), (congrArg Restore.target ended).trans ht,
      changes.2 .images (by simp), rfl, rfl, rfl⟩
  case committed =>
    intro ho hf hr hn ht hw hg he
    exact ⟨onCtl (fun c => startEpochMap (epochBase (committedEpoch c) c) (committedChosen c)) s, epochBase (committedEpoch s.ctl) s.ctl,
      (exec_restoreStep ho hf hr hn).trans (congrArg _ (onCtl_congr (stepTarget_committed ht hw hg he))), hn, rfl, rfl, rfl, rfl, rfl, rfl, rfl⟩
  case opens =>
    intro ho hf hr hn hch ht
    obtain ⟨step, early, op⟩ := stepOutcome_open_leaves hch ht
    exact ⟨_, exec_restoreStep ho hf hr hn, step, early, op.trans ho, rfl, rfl, rfl⟩
  case map =>
    intro ho hf hr hn
    obtain ⟨step, op⟩ := stepMap_leaves s.ctl
    exact ⟨_, exec_restoreStep ho hf hr hn, step, op.trans ho, rfl, rfl, rfl⟩
  case idle =>
    intro h
    refine exec_fixed (f := restoreStep i) rfl ?_
    by_cases idle : s.ctl.op ≠ .restoring ∨ fwRunning s.ctl = false
    · exact restoreStep_idle i idle
    · obtain ⟨hr, hn⟩ := (or_assoc.2 h).resolve_left idle
      obtain ⟨ho, hf⟩ : s.ctl.op = .restoring ∧ fwRunning s.ctl = true := by simpa using idle
      rw [restoreStep_steps i ho hf hr, stepAfter_open i hn]
      rfl

end Sys2Proof.Machine
end

section
/-! A close of an epoch and a missed close (R289, R290, R293): what each touches at most and what it leaves, and what the conditions of a
close read. Messages and pulses close by these. -/
namespace Sys2Proof.Machine

/-! Saturating counters. -/

/-- A saturating increment fits its width. -/
theorem satInc_mod (w n : Nat) : satInc w n % 2 ^ w = satInc w n := by
  have positive : 0 < 2 ^ w := Nat.two_pow_pos w
  exact Nat.mod_eq_of_lt (by unfold satInc; omega)

theorem getF_addF_satInc (f : Fld) (c : Ctl) : getF f (addF f c) = satInc f.width (getF f c) := (getF_addF_same f c).trans (satInc_mod _ _)

/-! A missed close (R289, R293). -/

/-- The fields that a missed close may touch. -/
def missFlds : List Fld := Reg.EPG_STATE.LAST_MISS :: Reg.EPG_COUNTS.MISSED :: reportFlds

theorem closeMissed_changes (reason n : Nat) (c : Ctl) : Changes missFlds reportParts c (closeMissed reason n c) :=
  (report_changes ..).andThen (fun f h => by simp [missFlds, h]) (fun _ h => h)
    (setF_within (by simp [missFlds]) reason (addF_within (by simp [missFlds]) (Changes.refl _ _ c)))

theorem getF_closeMissed {reason : Nat} (h : reason < 16) (n : Nat) (c : Ctl) :
    getF Reg.EPG_STATE.LAST_MISS (closeMissed reason n c) = reason := by
  unfold closeMissed
  rw [(report_changes ..).getF_eq _ (by decide), getF_setF_same]
  exact Nat.mod_eq_of_lt h

/-- A report moves nothing of the epoch engine but its queue. -/
theorem report_epg (kind reason epoch : Nat) (c : Ctl) : ∃ l, (report kind reason epoch c).epg = { c.epg with reports := l } := by
  unfold report queueReport
  split
  · exact ⟨_, ((sbAlertSource_changes ..).2 .epg (by simp)).trans ((vendorAlert_changes ..).2 .epg (by simp))⟩
  · exact ⟨_, rfl⟩

theorem closeMissed_epg (reason n : Nat) (c : Ctl) : ∃ l, (closeMissed reason n c).epg = { c.epg with reports := l } := report_epg ..

/-! A close (R289, R290). -/

/-- The fields that the conditions of a close read. -/
def closeReads : List Fld := [Reg.EPG_STATE.MEMBER, Reg.EPG_STATE.UNRESOLVED, Reg.MEM_CAPACITY.SHADOW_UNITS, Reg.DTK_DIRTY.D, Reg.HEEL_EPOCH_HIGH.VALUE]

/-- The conditions of a close read their registers, the operating state, the frames, and whether an epoch is closed. -/
theorem closeReason_congr {fs : List Fld} {ps : List Part} {c d : Ctl} (h : Changes fs ps c d) (hf : ∀ f ∈ closeReads, f.key ∉ fs.map Fld.key)
    (hp : Part.op ∉ ps ∧ Part.dtk ∉ ps) (hc : d.epg.closed = c.epg.closed) (n : Nat) : closeReason n d = closeReason n c := by
  have read : ∀ f ∈ closeReads, getF f d = getF f c := fun f hm => h.getF_eq f (hf f hm)
  have frames : d.dtk = c.dtk := h.2 .dtk hp.2
  simp only [closeReads, List.forall_mem_cons] at read
  obtain ⟨hmember, hunresolved, hshadow, hdirty, hhigh, -⟩ := read
  unfold closeReason member framesPending unresolved sShadow epochHigh
  rw [hmember, hunresolved, hshadow, hdirty, hhigh, hc, frames, h.op_eq hp.1]

theorem closeReason_le {n r : Nat} {c : Ctl} (h : closeReason n c = some r) : r ≤ 6 := by
  unfold closeReason at h
  (repeat' split at h) <;> cases h <;> decide

/-- The seal of an epoch is written to the journal, and its writing noted. -/
theorem sealCheck_only (c : Ctl) : PartsOnly [.epg, .welt] c (sealCheck c) ∧ ∃ b, (sealCheck c).epg = { c.epg with sealWritten := b } := by
  have idle : PartsOnly [.epg, .welt] c c ∧ ∃ b, c.epg = { c.epg with sealWritten := b } := ⟨.refl _ c, _, rfl⟩
  unfold sealCheck
  split
  · split
    · exact idle
    · have appended := fun e x => jAppend_only e { c with epg := x }
      exact ⟨((epg_only _ c).mono (by simp)).trans ((appended ..).mono (by simp)), true, (appended ..).2 .epg (by simp)⟩
  · exact idle

/-- The fields and the parts that a close may touch. -/
def closeFlds : List Fld := [Reg.HEEL_EPOCH_HIGH.VALUE, Reg.EPG_CLOSE_CSN.VALUE, Reg.EPG_SHADOW.RESERVED]
def closeParts : List Part := [.dtk, .reel, .epg, .nv, .welt]

/-- A close puts the number, the CSN of its instant and the reserve of shadow frames on record. -/
def closeNumbered (n : Nat) (c : Ctl) : Ctl :=
  setF Reg.HEEL_EPOCH_HIGH.VALUE n (setF Reg.EPG_CLOSE_CSN.VALUE (getF Reg.MEM_CSN.CSN c) (setF Reg.EPG_SHADOW.RESERVED (dirtyCount c) c))

theorem closeNumbered_changes (n : Nat) (c : Ctl) : Changes closeFlds [] c (closeNumbered n c) :=
  setF_within (by simp [closeFlds]) _ (setF_within (by simp [closeFlds]) _ (setF_within (by simp [closeFlds]) _ (Changes.refl _ _ c)))

/-- A close parts the frames and copies of its epoch, is numbered, and may write its seal. -/
theorem epochClose_eq (n : Nat) (c : Ctl) : ∃ x r g v, epochClose n c
    = sealCheck (closeNumbered n { c with dtk := x, reel := r, epg := g, nv := v }) ∧ g.closed = some n ∧ g.faults = c.epg.faults :=
  ⟨_, _, { c.epg with closed := some n, closedAt := nowNs c, sealWritten := false, shadow := [], closedCopies := 0 }, _, rfl, rfl, rfl⟩

theorem epochClose_changes (n : Nat) (c : Ctl) : Changes closeFlds closeParts c (epochClose n c) := by
  obtain ⟨x, r, g, v, eq, -, -⟩ := epochClose_eq n c
  have parted : Changes closeFlds closeParts c { c with dtk := x, reel := r, epg := g, nv := v } :=
    changes_parts rfl (fun p hp => by cases p <;> first | rfl | simp [closeParts] at hp)
  rw [eq]
  exact (parted.trans ((closeNumbered_changes ..).mono (fun _ h => h) (by simp))).trans
    (((sealCheck_only _).1.mono (by simp [closeParts])).changes _)

/-- A close at `n` takes the number and the CSN of its instant, and leaves the epoch closed; the pulse's count of faults stands. -/
theorem epochClose_leaves (n : Nat) (c : Ctl) :
    epochHigh (epochClose n c) = n % 2 ^ Reg.HEEL_EPOCH_HIGH.VALUE.width
    ∧ getF Reg.EPG_CLOSE_CSN.VALUE (epochClose n c) = getF Reg.MEM_CSN.CSN c % 2 ^ Reg.EPG_CLOSE_CSN.VALUE.width
    ∧ (epochClose n c).epg.closed = some n ∧ (epochClose n c).epg.faults = c.epg.faults := by
  obtain ⟨x, r, g, v, eq, closed, faults⟩ := epochClose_eq n c
  obtain ⟨sealed, b, epg⟩ := sealCheck_only (closeNumbered n { c with dtk := x, reel := r, epg := g, nv := v })
  rw [eq]
  refine ⟨?high, ?csn, ?closed, ?faults⟩
  case high => exact (getF_congr _ sealed.1).trans (getF_setF_same ..)
  case csn => exact (getF_congr _ sealed.1).trans ((getF_setF_ne (by decide) _ _).trans (getF_setF_same ..))
  case closed => exact (congrArg Epg.closed epg).trans closed
  case faults => exact (congrArg Epg.faults epg).trans faults

end Sys2Proof.Machine
end

section
/-! Proofs about the group messages (R286-R294, R303, R304): what the arrival of a message keeps of the state that its checks read, and
what each message does behind its frame. -/
namespace Sys2Proof.Machine

/-! What the checks of a message read (R286). -/

/-- A mailbox command has arrived: its head's L1 bit, the doorbells and the journal have moved. -/
structure Arrived (c d : Ctl) : Prop where
  changes : Changes l1Flds [.mbx] c d
  running : runningFw d = runningFw c
  provEnd : d.mbx.provEnd = c.mbx.provEnd

theorem arrived_vendorTaken (opcode : Nat) (h : HeadId) (tag era : Nat) (inp : List Byte) (c : Ctl) : Arrived c (vendorTaken opcode h tag era inp c) :=
  ⟨vendorTaken_changes .., rfl, rfl⟩

namespace Arrived
variable {c d : Ctl} (arrived : Arrived c d)
include arrived

theorem getF_eq (f : Fld) (hf : f.key ∉ l1Flds.map Fld.key) : getF f d = getF f c := arrived.changes.getF_eq f hf

theorem epg_eq : d.epg = c.epg := arrived.changes.2 .epg (by simp)

theorem incSame_eq (inc : Nat) : incSame inc d = incSame inc c := by
  unfold incSame
  rw [arrived.getF_eq _ (by decide), arrived.getF_eq _ (by decide)]

theorem incNewer_eq (inc : Nat) : incNewer inc d = incNewer inc c := by
  unfold incNewer
  rw [arrived.getF_eq _ (by decide), arrived.getF_eq _ (by decide)]

theorem member_eq : member d = member c := arrived.getF_eq _ (by decide)

theorem joinRepeated_eq (m : GMsg) : joinRepeated m d = joinRepeated m c := by
  unfold joinRepeated
  rw [arrived.member_eq, arrived.incSame_eq, arrived.epg_eq]

theorem framesPending_eq : framesPending d = framesPending c := by
  unfold framesPending
  rw [show d.dtk = c.dtk from arrived.changes.2 .dtk (by simp)]

theorem unresolved_eq : unresolved d = unresolved c := by
  unfold unresolved
  rw [arrived.getF_eq _ (by decide)]

theorem grpTarget_eq (anyLevel : Bool) (m : GMsg) : grpTarget anyLevel m d = grpTarget anyLevel m c := by
  have cfg : d.cfg = c.cfg := arrived.changes.2 .cfg (by simp)
  unfold grpTarget grpPresent fwLevels
  rw [cfg, arrived.running, arrived.getF_eq Reg.EPG_GROUP_ID.GROUP_ID (by decide), arrived.getF_eq Reg.EPG_IDS.MODULE_ID (by decide),
    arrived.getF_eq Reg.HEEL_GRP.LEVEL (by decide)]

theorem grpLate_eq (m : GMsg) : grpLate m d = grpLate m c := by
  have clk : d.clk = c.clk := arrived.changes.2 .clk (by simp)
  unfold grpLate clkValid
  rw [clk, arrived.getF_eq Reg.CLK_STATUS.VALID (by decide), arrived.getF_eq Reg.EPG_CFG.LIFETIME (by decide)]

theorem grpChecks_eq (anyLevel activeOnly : Bool) (m : GMsg) : grpChecks anyLevel activeOnly m d = grpChecks anyLevel activeOnly m c := by
  unfold grpChecks
  rw [arrived.grpTarget_eq, arrived.incSame_eq, arrived.grpLate_eq, arrived.member_eq]

theorem joinChecks_eq (m : GMsg) : joinChecks m d = joinChecks m c := by
  have clk : d.clk = c.clk := arrived.changes.2 .clk (by simp)
  have uptime : d.uptime = c.uptime := arrived.changes.2 .uptime (by simp)
  unfold joinChecks
  rw [arrived.grpTarget_eq, arrived.incNewer_eq, arrived.incSame_eq, arrived.joinRepeated_eq, arrived.grpLate_eq, clk, uptime]

theorem closeReason_eq (n : Nat) : closeReason n d = closeReason n c :=
  closeReason_congr arrived.changes (by decide) (by simp) (congrArg Epg.closed arrived.epg_eq) n

end Arrived

/-! The frame of a group message (R392). -/

/-- A result other than 0 and 1 is counted as a refusal (R286). -/
def refusalCounted (n : Nat) (c : Ctl) : Ctl := if n = 0 ∨ n = 1 then c else addF Reg.EPG_COUNTS.REJECTED c

/-- The result of a group message, as its frame answers it. -/
def groupResult (type : Nat) (act : Ctl → Nat × List Byte × Ctl) (c : Ctl) : MbxResult :=
  ⟨refusalCounted (act c).1 (act c).2.2, stOk, (act c).1, (act c).1 == 0, (act c).2.1, (act c).1 + type * 256⟩

theorem groupMsg_eq (h : HeadId) (tag era type : Nat) (m : GMsg) (act : Ctl → Nat × List Byte × Ctl) : groupMsg h tag era type m act
    = vendor 0xC030 h tag era (gmsgBytes type m) true anyState false false (fun _ => groupResult type act) := rfl

/-- What a group message that passes the frame comes to: its result goes into DETAIL, and what it makes of the state that it arrives in stands. -/
theorem groupMsg_outcome {i : Instr} {s : State} {h : HeadId} {tag era type n : Nat} {m : GMsg} {act : Ctl → Nat × List Byte × Ctl}
    {f : Ctl → Ctl} {fs : List Fld} {ps : List Part} (hi : exec i s = .next (onCtl (groupMsg h tag era type m act) s))
    (hv : vendorRuns s.ctl h tag era anyState false = true) (hact : ∀ x, Arrived s.ctl x → ∃ data, act x = (n, data, f x))
    (hf : ∀ x, Changes fs ps x (refusalCounted n (f x))) (hp : Part.mbx ∉ ps) :
    ∃ x t, Arrived s.ctl x ∧ exec i s = .next t ∧ Answered t h 0 tag era stOk n s.ctl.mbx.nextSeq ∧ SameMemory s t
      ∧ Changes l1Flds [.sent, .mbx] (refusalCounted n (f x)) t.ctl ∧ KeepsRegs (fs ++ l1Flds) s t := by
  have arrived := arrived_vendorTaken 0xC030 h tag era (gmsgBytes type m) s.ctl
  have changed := hf (vendorTaken 0xC030 h tag era (gmsgBytes type m) s.ctl)
  obtain ⟨data, acts⟩ := hact _ arrived
  have result : groupResult type act (vendorTaken 0xC030 h tag era (gmsgBytes type m) s.ctl)
      = ⟨refusalCounted n (f (vendorTaken 0xC030 h tag era (gmsgBytes type m) s.ctl)), stOk, n, n == 0, data, n + type * 256⟩ := by
    unfold groupResult
    rw [acts]
  have mbx : (refusalCounted n (f (vendorTaken 0xC030 h tag era (gmsgBytes type m) s.ctl))).mbx
      = (vendorTaken 0xC030 h tag era (gmsgBytes type m) s.ctl).mbx := changed.2 .mbx hp
  have next : (vendorTaken 0xC030 h tag era (gmsgBytes type m) s.ctl).mbx.nextSeq = s.ctl.mbx.nextSeq + 1 := rfl
  rw [groupMsg_eq] at hi
  obtain ⟨t, ht, answered, -, memory, replied, -⟩ :=
    vendor_outcome hi hv result (congrArg Mbx.jrnl mbx) ((congrArg Mbx.nextSeq mbx).trans next)
  have before := arrived.changes.mono (List.subset_append_right fs _) (List.subset_append_left _ (.sent :: ps))
  have between := changed.mono (List.subset_append_left fs l1Flds) (fun _ h => by simp [h] : ps ⊆ [.mbx] ++ .sent :: ps)
  have after := replied.mono (List.subset_append_right fs _) (by simp : [.sent, .mbx] ⊆ [.mbx] ++ .sent :: ps)
  exact ⟨_, t, arrived, ht, answered, memory, replied, ((before.trans between).trans after).1⟩

/-- A group message that is accepted leaves what it makes of the state. -/
theorem groupMsg_accepted {i : Instr} {s : State} {h : HeadId} {tag era type : Nat} {m : GMsg} {act : Ctl → Nat × List Byte × Ctl}
    {f : Ctl → Ctl} {fs : List Fld} {ps : List Part} (hi : exec i s = .next (onCtl (groupMsg h tag era type m act) s))
    (hv : vendorRuns s.ctl h tag era anyState false = true) (hact : ∀ x, Arrived s.ctl x → ∃ data, act x = (0, data, f x))
    (hf : ∀ x, Changes fs ps x (f x)) (hp : Part.mbx ∉ ps) :
    ∃ x t, Arrived s.ctl x ∧ exec i s = .next t ∧ Answered t h 0 tag era stOk 0 s.ctl.mbx.nextSeq ∧ SameMemory s t
      ∧ Changes l1Flds [.sent, .mbx] (f x) t.ctl ∧ KeepsRegs (fs ++ l1Flds) s t := groupMsg_outcome hi hv hact hf hp

/-! Each message at the state that it arrives in (R288). -/

theorem grpJoin_newer {m : GMsg} {c : Ctl} (hc : joinChecks m c = none) (hr : joinRepeated m c = false) (hn : incNewer m.inc c = true)
    (hf : framesPending c = false) (he : epochHigh c ≤ m.epoch) : grpJoin m c = (0, [], joinNewer m c) := by
  unfold grpJoin
  rw [hc]
  dsimp only
  rw [if_neg (by simp [hr]), if_pos hn, if_neg (by simp [hf]), if_neg (Nat.not_lt_of_le he)]

/-- The fields of a JOIN. -/
def joinFlds : List Fld := [Reg.HEEL_GRP.INC_VALID, Reg.HEEL_GRP.INCARNATION, Reg.HEEL_EPOCH_HIGH.VALUE, Reg.EPG_STATE.UNRESOLVED,
  Reg.EPG_STATE.MEMBER, Reg.HEEL_GRP.LEVEL]

/-- The registers that a newer JOIN writes. -/
def joinWritten (m : GMsg) (c : Ctl) : Ctl :=
  setF Reg.EPG_STATE.UNRESOLVED 0 (setF Reg.EPG_STATE.MEMBER 2 (setF Reg.HEEL_GRP.LEVEL m.level
    (setF Reg.HEEL_GRP.INC_VALID 1 (setF Reg.HEEL_GRP.INCARNATION m.inc (setF Reg.HEEL_EPOCH_HIGH.VALUE m.epoch c)))))

theorem joinWritten_changes (m : GMsg) (c : Ctl) : Changes joinFlds [] c (joinWritten m c) := by
  unfold joinWritten
  repeat refine setF_within (by simp [joinFlds]) _ ?_
  exact Changes.refl _ _ c

theorem joinNewer_changes (m : GMsg) (c : Ctl) : Changes joinFlds [.epg, .clk] c (joinNewer m c) :=
  ((joinWritten_changes m c).mono (fun _ h => h) (by simp)).trans (changes_parts rfl (fun p hp => by cases p <;> first | rfl | simp at hp))

theorem joinNewer_leaves (m : GMsg) (c : Ctl) : member (joinNewer m c) = 2 ∧ getF Reg.HEEL_GRP.INCARNATION (joinNewer m c) = m.inc % 65536
    ∧ getF Reg.HEEL_GRP.INC_VALID (joinNewer m c) = 1 ∧ epochHigh (joinNewer m c) = m.epoch % 2 ^ Reg.HEEL_EPOCH_HIGH.VALUE.width
    ∧ getF Reg.HEEL_GRP.LEVEL (joinNewer m c) = m.level % 2 ^ Reg.HEEL_GRP.LEVEL.width ∧ getF Reg.EPG_STATE.UNRESOLVED (joinNewer m c) = 0 := by
  have written : ∀ f, getF f (joinNewer m c) = getF f (joinWritten m c) := fun f => getF_congr f rfl
  simp (disch := decide) only [member, epochHigh, written, joinWritten, getF_setF_same, getF_setF_ne]
  exact ⟨rfl, rfl, rfl, trivial, trivial, rfl⟩

theorem grpClose_closes {m : GMsg} {c : Ctl} (hc : grpChecks false true m c = none) (hr : closeReason m.epoch c = none) :
    ∃ data, grpClose m c = (0, data, epochClose m.epoch c) := by
  unfold grpClose
  rw [hc]
  dsimp only
  rw [hr]
  exact ⟨_, rfl⟩

theorem grpClose_misses {m : GMsg} {c : Ctl} {r : Nat} (hc : grpChecks false true m c = none) (hr : closeReason m.epoch c = some r) :
    ∃ data, grpClose m c = (if r = 6 then 9 else 7, data, closeMissed r m.epoch c) := by
  unfold grpClose
  rw [hc]
  dsimp only
  rw [hr]
  split
  case h_1 eq => cases eq; exact ⟨_, rfl⟩
  case h_2 ne eq => cases eq; rw [if_neg ne]; exact ⟨_, rfl⟩
  case h_3 eq => cases eq

theorem grpCommit_resolves {m : GMsg} {c : Ctl} (hc : grpChecks false false m c = none) (hn : committedEpoch c < m.epoch)
    (hs : m.epoch = sealedEpoch c) (hu : unresolved c = true) : grpCommit m c
      = (0, [], formatAdvance (setF Reg.EPG_STATE.UNRESOLVED 0 (setF Reg.HEEL_COMMITTED.VALUE m.epoch c))) := by
  unfold grpCommit
  rw [hc]
  dsimp only
  rw [if_neg (Nat.not_le_of_lt hn), if_pos ⟨hs, hu⟩]

theorem grpCommit_refused {m : GMsg} {c : Ctl} {e : Nat} (hc : grpChecks false false m c = some e) : grpCommit m c = (e, [], c) := by
  unfold grpCommit
  rw [hc]

theorem grpAbort_resolves {m : GMsg} {c : Ctl} (hc : grpChecks false false m c = none) (hs : m.epoch = sealedEpoch c)
    (hu : unresolved c = true) (ha : getF Reg.EPG_STATE.ABORTED c = 0) :
    grpAbort m c = (0, [], setF Reg.EPG_STATE.ABORTED 1 (setF Reg.EPG_STATE.UNRESOLVED 0 c)) := by
  unfold grpAbort
  rw [hc]
  dsimp only
  rw [if_neg (by simp [ha]), if_pos ⟨hs, hu⟩]

theorem grpLeave_leaves {m : GMsg} {c : Ctl} (hc : grpChecks false true m c = none) (hf : framesPending c = false) :
    grpLeave m c = (0, [], setF Reg.EPG_STATE.MEMBER 3 c) := by
  unfold grpLeave
  rw [hc]
  exact if_neg (by simp [hf])

theorem grpLevel_moves {m : GMsg} {c : Ctl} (hc : grpChecks true true m c = none) (hl : m.level ≠ getF Reg.HEEL_GRP.LEVEL c)
    (hm : getF Reg.HEEL_GRP.FORMAT c ≤ m.level) (hp : c.mbx.provEnd = none) (hf : framesPending c = false) (hu : unresolved c = false) :
    grpLevel m c = (0, [], setF Reg.HEEL_GRP.LEVEL m.level c) := by
  unfold grpLevel
  rw [hc]
  dsimp only
  rw [if_neg hl, if_neg (by simp [hp, hm]), if_neg (by simp [hf, hu])]

theorem grpStatus_reports {m : GMsg} {c : Ctl} (hc : grpTarget false m c = none) :
    ∃ data, grpStatus m c = (0, data, { c with epg := { c.epg with reports := c.epg.reports.drop 8 } }) := by
  unfold grpStatus
  rw [hc]
  exact ⟨_, rfl⟩

/-- A check that fails answers neither 0 nor 1. -/
theorem grpChecks_refuses {anyLevel activeOnly : Bool} {m : GMsg} {c : Ctl} {e : Nat} (h : grpChecks anyLevel activeOnly m c = some e) : 2 ≤ e := by
  have target : ∀ r, grpTarget anyLevel m c = some r → 2 ≤ r := by
    intro r hr
    unfold grpTarget at hr
    (repeat' split at hr) <;> cases hr <;> decide
  unfold grpChecks at h
  cases hr : grpTarget anyLevel m c with
  | some r =>
    rw [hr] at h
    cases h
    exact target _ hr
  | none =>
    rw [hr, Option.none_or] at h
    (repeat' split at h) <;> cases h <;> decide

theorem formatAdvance_changes (c : Ctl) : Changes [Reg.HEEL_GRP.FORMAT] [] c (formatAdvance c) :=
  Changes.ite (setF_changes _ _ c) (Changes.refl _ _ c)

/-! The commands. -/

section
variable (s : State) (h : HeadId) (tag era grp inc level module epoch sent : Nat)

theorem exec_join (resume : Bool) : exec (.join h tag era grp inc level module epoch sent resume) s = .next (onCtl
    (groupMsg h tag era 1 ⟨grp, inc, level, module, epoch, sent, resume⟩ (grpJoin ⟨grp, inc, level, module, epoch, sent, resume⟩)) s) := rfl

theorem exec_close : exec (.close h tag era grp inc level module epoch sent) s = .next (onCtl
    (groupMsg h tag era 2 ⟨grp, inc, level, module, epoch, sent, false⟩ (grpClose ⟨grp, inc, level, module, epoch, sent, false⟩)) s) := rfl

theorem exec_commit : exec (.commit h tag era grp inc level module epoch sent) s = .next (onCtl
    (groupMsg h tag era 3 ⟨grp, inc, level, module, epoch, sent, false⟩ (grpCommit ⟨grp, inc, level, module, epoch, sent, false⟩)) s) := rfl

theorem exec_abort : exec (.abort h tag era grp inc level module epoch sent) s = .next (onCtl
    (groupMsg h tag era 4 ⟨grp, inc, level, module, epoch, sent, false⟩ (grpAbort ⟨grp, inc, level, module, epoch, sent, false⟩)) s) := rfl

theorem exec_leave : exec (.leave h tag era grp inc level module epoch sent) s = .next (onCtl
    (groupMsg h tag era 5 ⟨grp, inc, level, module, epoch, sent, false⟩ (grpLeave ⟨grp, inc, level, module, epoch, sent, false⟩)) s) := rfl

theorem exec_level : exec (.level h tag era grp inc level module epoch sent) s = .next (onCtl
    (groupMsg h tag era 6 ⟨grp, inc, level, module, epoch, sent, false⟩ (grpLevel ⟨grp, inc, level, module, epoch, sent, false⟩)) s) := rfl

theorem exec_status : exec (.status h tag era grp inc level module epoch sent) s = .next (onCtl
    (groupMsg h tag era 7 ⟨grp, inc, level, module, epoch, sent, false⟩ (grpStatus ⟨grp, inc, level, module, epoch, sent, false⟩)) s) := rfl

end

/-- Settles O33: each message by what it makes of the state that it arrives in, whose checks read what they read before. -/
theorem groupMessages : Obligations.GroupMessages := by
  intro s h tag era grp inc level module epoch sent hv
  refine ⟨?join, ?close, ?closeMissed, ?commit, ?abort, ?leave, ?level, ?status, ?refused⟩
  case join =>
    intro resume m hc hr hn hf he
    obtain ⟨x, t, -, ht, answered, memory, replied, kept⟩ := groupMsg_accepted (exec_join s h tag era grp inc level module epoch sent resume) hv
      (fun x ax => ⟨_, grpJoin_newer ((ax.joinChecks_eq m).trans hc) ((ax.joinRepeated_eq m).trans hr) ((ax.incNewer_eq inc).trans hn)
        (ax.framesPending_eq.trans hf) (le_of_eq_of_le (ax.getF_eq _ (by decide)) he)⟩) (joinNewer_changes m) (by simp)
    obtain ⟨member, incarnation, valid, high, level, resolved⟩ := joinNewer_leaves m x
    have reads := fun f hf => replied.getF_eq f hf
    exact ⟨t, ht, (reads _ (by decide)).trans member, (reads _ (by decide)).trans incarnation, (reads _ (by decide)).trans valid,
      (reads _ (by decide)).trans high, (reads _ (by decide)).trans level, by rw [unresolved, reads _ (by decide), resolved]; rfl,
      answered, kept, memory⟩
  case close =>
    intro hc hr
    obtain ⟨x, t, ax, ht, answered, memory, replied, -⟩ := groupMsg_accepted (exec_close s h tag era grp inc level module epoch sent) hv
      (fun x ax => grpClose_closes ((ax.grpChecks_eq ..).trans hc) ((ax.closeReason_eq epoch).trans hr)) (epochClose_changes epoch) (by decide)
    obtain ⟨high, csn, closed, -⟩ := epochClose_leaves epoch x
    rw [ax.getF_eq _ (by decide)] at csn
    exact ⟨t, ht, (replied.getF_eq _ (by decide)).trans high, (replied.getF_eq _ (by decide)).trans csn,
      (congrArg Epg.closed (replied.2 .epg (by simp))).trans closed, answered, memory⟩
  case closeMissed =>
    intro r hc hr
    have accounted : ∀ x, Changes (Reg.EPG_COUNTS.REJECTED :: missFlds) reportParts x
        (refusalCounted (if r = 6 then 9 else 7) (closeMissed r epoch x)) := fun x =>
      have missed := (closeMissed_changes r epoch x).mono (List.subset_cons_self _ _) (fun _ h => h)
      Changes.ite missed (addF_within (by simp) missed)
    obtain ⟨x, t, ax, ht, answered, memory, replied, -⟩ := groupMsg_outcome (exec_close s h tag era grp inc level module epoch sent) hv
      (fun x ax => grpClose_misses ((ax.grpChecks_eq ..).trans hc) ((ax.closeReason_eq epoch).trans hr)) accounted (by decide)
    have counted : refusalCounted (if r = 6 then 9 else 7) (closeMissed r epoch x) = addF Reg.EPG_COUNTS.REJECTED (closeMissed r epoch x) :=
      if_neg (by split <;> decide)
    refine ⟨t, ht, ?_, ?_, answered, memory⟩
    · rw [replied.getF_eq _ (by decide), counted, getF_addF_ne (by decide)]
      exact getF_closeMissed (Nat.lt_of_le_of_lt (closeReason_le hr) (by decide)) _ _
    · exact (replied.getF_eq _ (by decide)).trans (((accounted x).getF_eq _ (by decide)).trans (ax.getF_eq _ (by decide)))
  case commit =>
    intro hc hn hs hu
    have resolves : ∀ x, Changes [Reg.HEEL_COMMITTED.VALUE, Reg.EPG_STATE.UNRESOLVED, Reg.HEEL_GRP.FORMAT] [] x
        (formatAdvance (setF Reg.EPG_STATE.UNRESOLVED 0 (setF Reg.HEEL_COMMITTED.VALUE epoch x))) := fun x =>
      (formatAdvance_changes _).andThen (by simp) (by simp) (setF_within (by simp) _ (setF_within (by simp) _ (Changes.refl _ _ x)))
    obtain ⟨x, t, -, ht, answered, memory, replied, kept⟩ := groupMsg_accepted (exec_commit s h tag era grp inc level module epoch sent) hv
      (fun x ax => ⟨_, grpCommit_resolves ((ax.grpChecks_eq ..).trans hc) (lt_of_eq_of_lt (ax.getF_eq _ (by decide)) hn)
        (hs.trans (ax.getF_eq _ (by decide)).symm) (ax.unresolved_eq.trans hu)⟩) resolves (by simp)
    refine ⟨t, ht, ?_, ?_, answered, kept, memory⟩
    · rw [committedEpoch, replied.getF_eq _ (by decide), (formatAdvance_changes _).getF_eq _ (by decide), getF_setF_ne (by decide), getF_setF_same]
    · rw [unresolved, replied.getF_eq _ (by decide), (formatAdvance_changes _).getF_eq _ (by decide), getF_setF_same]
      rfl
  case abort =>
    intro hc hs hu ha
    have resolves : ∀ x, Changes [Reg.EPG_STATE.ABORTED, Reg.EPG_STATE.UNRESOLVED] [] x
        (setF Reg.EPG_STATE.ABORTED 1 (setF Reg.EPG_STATE.UNRESOLVED 0 x)) := fun x =>
      setF_within (by simp) _ (setF_within (by simp) _ (Changes.refl _ _ x))
    obtain ⟨x, t, -, ht, answered, memory, replied, kept⟩ := groupMsg_accepted (exec_abort s h tag era grp inc level module epoch sent) hv
      (fun x ax => ⟨_, grpAbort_resolves ((ax.grpChecks_eq ..).trans hc) (hs.trans (ax.getF_eq _ (by decide)).symm) (ax.unresolved_eq.trans hu)
        ((ax.getF_eq _ (by decide)).trans ha)⟩) resolves (by simp)
    refine ⟨t, ht, ?_, ?_, answered, kept, memory⟩
    · exact (replied.getF_eq _ (by decide)).trans (getF_setF_same ..)
    · rw [unresolved, replied.getF_eq _ (by decide), getF_setF_ne (by decide), getF_setF_same]
      rfl
  case leave =>
    intro hc hf
    obtain ⟨x, t, -, ht, answered, memory, replied, kept⟩ := groupMsg_accepted (exec_leave s h tag era grp inc level module epoch sent) hv
      (fun x ax => ⟨_, grpLeave_leaves ((ax.grpChecks_eq ..).trans hc) (ax.framesPending_eq.trans hf)⟩) (setF_changes Reg.EPG_STATE.MEMBER 3) (by simp)
    exact ⟨t, ht, (replied.getF_eq _ (by decide)).trans (getF_setF_same ..), answered, kept, memory⟩
  case level =>
    intro hc hl hm hp hf hu
    obtain ⟨x, t, -, ht, answered, memory, replied, kept⟩ := groupMsg_accepted (exec_level s h tag era grp inc level module epoch sent) hv
      (fun x ax => ⟨_, grpLevel_moves ((ax.grpChecks_eq ..).trans hc) (fun same => hl (same.trans (ax.getF_eq _ (by decide))))
        (le_of_eq_of_le (ax.getF_eq _ (by decide)) hm) (ax.provEnd.trans hp) (ax.framesPending_eq.trans hf) (ax.unresolved_eq.trans hu)⟩)
      (setF_changes Reg.HEEL_GRP.LEVEL level) (by simp)
    exact ⟨t, ht, (replied.getF_eq _ (by decide)).trans (getF_setF_same ..), answered, kept, memory⟩
  case status =>
    intro hc
    obtain ⟨x, t, ax, ht, answered, memory, replied, kept⟩ := groupMsg_accepted (exec_status s h tag era grp inc level module epoch sent) hv
      (fun x ax => grpStatus_reports ((ax.grpTarget_eq ..).trans hc)) (fun x => (epg_only _ x).changes []) (by simp)
    refine ⟨t, ht, ?_, answered, kept, memory⟩
    rw [replied.2 .epg (by simp), ax.epg_eq]
  case refused =>
    intro e hc
    have refuses := grpChecks_refuses hc
    have counted : ∀ x, refusalCounted e x = addF Reg.EPG_COUNTS.REJECTED x := fun x => if_neg (by omega)
    obtain ⟨x, t, ax, ht, answered, memory, replied, kept⟩ := groupMsg_outcome (f := id) (exec_commit s h tag era grp inc level module epoch sent) hv
      (fun x ax => ⟨_, grpCommit_refused ((ax.grpChecks_eq ..).trans hc)⟩)
      (fun x => (counted x).symm ▸ addF_changes Reg.EPG_COUNTS.REJECTED x) (by simp)
    refine ⟨t, ht, ?_, answered, kept, memory⟩
    rw [replied.getF_eq _ (by decide), id, counted, getF_addF_satInc, ax.getF_eq _ (by decide)]

end Sys2Proof.Machine
end

section
/-! Module time (R300-R302): what a correction by an offset and a holdover touch at most, and what they leave. -/
namespace Sys2Proof.Machine

/-! A correction by an offset (R301). -/

theorem clk_only (k : Clk) (c : Ctl) : PartsOnly [.clk] c { c with clk := k } :=
  ⟨rfl, fun p hp => by cases p <;> first | rfl | simp at hp⟩

/-- A forward offset above 1 s steps the time at once, with its event (R301). -/
theorem clkCorrect_step {off : Int} (h : 1000000000 < off) (c : Ctl) : clkCorrect off c = logEvent 0x1201 18 1 off.toNat (addF Reg.CLK_STATUS.STEPS
    { setF Reg.CLK_OFFSET.NS (fieldOf 32 (max (-2147483648) (min 2147483647 off))) c with
      clk := { c.clk with time := c.clk.time + off.toNat, slew := 0 } }) := if_pos h

/-- Every other offset is slewed. -/
theorem clkCorrect_slew {off : Int} (h : off ≤ 1000000000) (c : Ctl) : clkCorrect off c
    = { setF Reg.CLK_OFFSET.NS (fieldOf 32 (max (-2147483648) (min 2147483647 off))) c with
        clk := { c.clk with slew := off * 1000000000, rate := min off.natAbs 1000 } } := if_neg (Int.not_lt.2 h)

/-- The fields and the parts that a correction of module time may touch. -/
def correctFlds : List Fld := Reg.CLK_OFFSET.NS :: Reg.CLK_STATUS.STEPS :: eventFlds
def clkParts : List Part := .clk :: eventParts

theorem clkCorrect_changes (off : Int) (c : Ctl) : Changes correctFlds clkParts c (clkCorrect off c) := by
  have corrected : ∀ k, Changes correctFlds clkParts c
      { setF Reg.CLK_OFFSET.NS (fieldOf 32 (max (-2147483648) (min 2147483647 off))) c with clk := k } := fun k =>
    (setF_within (by simp [correctFlds]) _ (Changes.refl _ _ c)).trans (((clk_only ..).mono (by simp [clkParts])).changes _)
  by_cases h : 1000000000 < off
  · rw [clkCorrect_step h]
    exact (logEvent_changes ..).andThen (fun _ h => by simp [correctFlds, h]) (List.subset_cons_self _ _)
      (addF_within (by simp [correctFlds]) (corrected _))
  · rw [clkCorrect_slew (Int.not_lt.1 h)]
    exact corrected _

theorem clkFreq_changes (off : Int) (c : Ctl) : Changes [Reg.CLK_FREQ.PPB] [.clk, .fresh] c (clkFreq off c) :=
  ((drawN_changes _ c).mono (fun _ h => h) (by simp)).trans
    ((setF_within (by simp) _ (Changes.refl _ _ _)).trans (((clk_only ..).mono (by simp)).changes _))

/-- An offset corrects module time and its frequency. -/
def clkSteered (off : Int) (c : Ctl) : Ctl := clkFreq off (clkCorrect off c)

/-- The fields and the parts that steering module time may touch. -/
def steerFlds : List Fld := Reg.CLK_FREQ.PPB :: correctFlds
def steerParts : List Part := .fresh :: clkParts

theorem clkSteered_changes (off : Int) (c : Ctl) : Changes steerFlds steerParts c (clkSteered off c) :=
  (clkFreq_changes off _).andThen (by simp [steerFlds]) (by simp [steerParts, clkParts])
    ((clkCorrect_changes off c).mono (List.subset_cons_self _ _) (List.subset_cons_self _ _))

theorem clkFreq_clk (off : Int) (c : Ctl) : (clkFreq off c).clk = { c.clk with offsets := (off :: c.clk.offsets).take 64 } := rfl

/-- What steering leaves of the time base: the offsets are noted; the time moves at once by a step alone. -/
theorem clkSteered_clk_slew {off : Int} (h : off ≤ 1000000000) (c : Ctl) : (clkSteered off c).clk = { c.clk with
    slew := off * 1000000000, rate := min off.natAbs 1000, offsets := (off :: c.clk.offsets).take 64 } := by
  rw [clkSteered, clkFreq_clk, clkCorrect_slew h]

theorem clkSteered_clk_step {off : Int} (h : 1000000000 < off) (c : Ctl) : (clkSteered off c).clk = { c.clk with
    time := c.clk.time + off.toNat, slew := 0, offsets := (off :: c.clk.offsets).take 64 } := by
  rw [clkSteered, clkFreq_clk, clkCorrect_step h, (logEvent_changes ..).2 .clk (by decide)]
  rfl

theorem clkSteered_steps {off : Int} (h : 1000000000 < off) (c : Ctl) : getF Reg.CLK_STATUS.STEPS (clkSteered off c)
    = satInc Reg.CLK_STATUS.STEPS.width (getF Reg.CLK_STATUS.STEPS c) := by
  rw [clkSteered, (clkFreq_changes ..).getF_eq _ (by decide), clkCorrect_step h, (logEvent_changes ..).getF_eq _ (by decide)]
  exact (getF_addF_satInc ..).trans (congrArg _ (getF_setF_ne (by decide) _ c))

/-! Holdover (R300, R302). -/

theorem clkHoldover_changes (c : Ctl) : Changes [Reg.CLK_STATUS.SOURCE] [.clk] c (clkHoldover c) :=
  setF_within (by simp) 4 ((clk_only _ c).changes _)

theorem holdoverLogged_changes (c : Ctl) : Changes (Reg.CLK_STATUS.SOURCE :: eventFlds) clkParts c (logEvent 0x1202 18 2 0 (clkHoldover c)) :=
  (logEvent_changes ..).andThen (List.subset_cons_self _ _) (List.subset_cons_self _ _) ((clkHoldover_changes c).mono (by simp) (by simp [clkParts]))

/-- The bound holds over from what it is, and grows from now on. -/
theorem holdoverLogged_leaves (c : Ctl) : clkSource (logEvent 0x1202 18 2 0 (clkHoldover c)) = 4
    ∧ clkErrNow (logEvent 0x1202 18 2 0 (clkHoldover c)) = clkErrNow c ∧ (logEvent 0x1202 18 2 0 (clkHoldover c)).clk.errAt = some c.uptime := by
  have logged := logEvent_changes 0x1202 18 2 0 (clkHoldover c)
  have clk : (logEvent 0x1202 18 2 0 (clkHoldover c)).clk = (clkHoldover c).clk := logged.2 .clk (by decide)
  have uptime : (logEvent 0x1202 18 2 0 (clkHoldover c)).uptime = c.uptime := logged.2 .uptime (by decide)
  have now : clkErrNow (clkHoldover c) = clkErrNow c + (c.uptime - c.uptime) * 20 / 1000000 := rfl
  refine ⟨(logged.getF_eq _ (by decide)).trans (getF_setF_same ..), ?bound, congrArg Clk.errAt clk⟩
  case bound =>
    calc clkErrNow (logEvent 0x1202 18 2 0 (clkHoldover c)) = clkErrNow (clkHoldover c) := by rw [clkErrNow, clk, uptime]; rfl
      _ = clkErrNow c := by simp [now]

end Sys2Proof.Machine
end

section
/-! Proofs about EPOCH_PULSE (R289, R296-R299): how a receiver in service and one in Qualifying take an edge, and what a fault leaves. -/
namespace Sys2Proof.Machine

/-! The discipline of module time, and a close by the pulse (R298, R299). -/

/-- The fields that the pulse may touch as it disciplines module time. -/
def disciplineFlds : List Fld := Reg.CLK_STATUS.VALID :: Reg.CLK_STATUS.SOURCE :: steerFlds

theorem pulseDiscipline_changes (off : Int) (c : Ctl) : Changes disciplineFlds steerParts c (pulseDiscipline off c) := by
  unfold pulseDiscipline
  have steered : Changes disciplineFlds steerParts c (clkSteered off c) :=
    (clkSteered_changes off c).mono (fun _ h => by simp [disciplineFlds, h]) (fun _ h => h)
  exact Changes.ite (Changes.refl _ _ c) ((setF_within (by simp [disciplineFlds]) 1 (setF_within (by simp [disciplineFlds]) 3 steered)).trans
    (((clk_only ..).mono (by simp [steerParts, clkParts])).changes _))

/-- The fields and the parts that a close by the pulse may touch. -/
def pulseCloseFlds : List Fld := closeFlds ++ missFlds
def pulseCloseParts : List Part := closeParts ++ reportParts

theorem pulseClose_changes (k : Nat) (c : Ctl) : Changes pulseCloseFlds pulseCloseParts c (pulseClose k c) := by
  unfold pulseClose
  split
  · exact (closeMissed_changes ..).mono (List.subset_append_right _ _) (List.subset_append_right _ _)
  · exact (epochClose_changes ..).mono (List.subset_append_left _ _) (List.subset_append_left _ _)

theorem pulseClose_closes {k : Nat} {c : Ctl} (h : closeReason k c = none) : pulseClose k c = epochClose k c := by
  unfold pulseClose
  rw [h]

theorem pulseClose_misses {k r : Nat} {c : Ctl} (h : closeReason k c = some r) : pulseClose k c = closeMissed r k c := by
  unfold pulseClose
  rw [h]

/-- Neither a close nor a missed one moves the pulse's count of faults. -/
theorem pulseClose_faults (k : Nat) (c : Ctl) : (pulseClose k c).epg.faults = c.epg.faults := by
  cases h : closeReason k c with
  | none =>
    obtain ⟨-, -, -, faults⟩ := epochClose_leaves k c
    rw [pulseClose_closes h, faults]
  | some r =>
    obtain ⟨l, epg⟩ := closeMissed_epg r k c
    rw [pulseClose_misses h, epg]

/-! An edge (R297). -/

/-- A receiver that still qualifies may align its phase. -/
def pulseRealigned (c : Ctl) : Ctl := if pulseState c = 1 then pulseAlign c else c

/-- A receiver in Qualifying notes an edge. -/
def edgeNoted (t : Nat) (c : Ctl) : Ctl := if pulseState c = 1 then { c with epg := { c.epg with edges := (t :: c.epg.edges).take 8 } } else c

/-- An edge far from any instant is a stray, after which a receiver in Qualifying begins anew. -/
def edgeStray (c : Ctl) : Ctl :=
  if pulseState (addF Reg.EPG_PULSE.STRAY c) = 1 then setF Reg.EPG_PULSE.GOOD 0 { addF Reg.EPG_PULSE.STRAY c with epg := { c.epg with lastGood := none } }
  else addF Reg.EPG_PULSE.STRAY c

/-- An edge that comes in `c` is taken on `d`: on time, near an instant that it may make a fault, or a stray. -/
def edgeTaken (t : Nat) (c d : Ctl) : Ctl :=
  if pulseDist t c ≤ 1000 then pulseOnTime t (pulseNearest t c).1 (pulseNearest t c).2 d
  else if pulseDist t c ≤ pulsePeriod d / 4 then (if d.epg.judged = some (pulseNearest t c).1 then d else pulseFaultAt (pulseNearest t c).1 d)
  else edgeStray d

theorem exec_edge_live {t : Nat} {s : State} (hl : pulseLive s.ctl = true) (hs : pulseState s.ctl = 1 ∨ pulseState s.ctl = 2)
    (hp : pulsePeriod s.ctl ≠ 0) : exec (.epochPulseEdge t) s = .next (onCtl (fun c => pulseRealigned (edgeTaken t c (edgeNoted t c))) s) :=
  exec_onCtl rfl (if_neg (by rcases hs with hs | hs <;> simp [hl, hs, hp]))

section
variable {t : Nat} {s : State} (hl : pulseLive s.ctl = true) (hp : pulsePeriod s.ctl ≠ 0)
include hl hp

/-- A receiver that an edge leaves in service keeps its phase. -/
theorem exec_edge_serves {f : Ctl → Ctl} (hs : pulseState s.ctl = 1 ∨ pulseState s.ctl = 2)
    (taken : edgeTaken t s.ctl (edgeNoted t s.ctl) = f s.ctl) (serves : pulseState (f s.ctl) = 2) :
    exec (.epochPulseEdge t) s = .next (onCtl f s) := by
  refine exec_onCtl (exec_edge_live hl hs hp) ?_
  rw [taken]
  exact if_neg (by simp [serves])

/-- A receiver in service notes no edge. -/
theorem exec_edge_inService {f : Ctl → Ctl} (hs : pulseState s.ctl = 2) (taken : edgeTaken t s.ctl s.ctl = f s.ctl)
    (serves : pulseState (f s.ctl) = 2) : exec (.epochPulseEdge t) s = .next (onCtl f s) := by
  have noted : edgeNoted t s.ctl = s.ctl := if_neg (by simp [hs])
  exact exec_edge_serves hl hp (.inr hs) (by rw [noted, taken]) serves

end

theorem edgeNoted_only (t : Nat) (c : Ctl) : PartsOnly [.epg] c (edgeNoted t c) := PartsOnly.ite (epg_only _ c) (.refl _ c)

theorem edgeNoted_lastGood (t : Nat) (c : Ctl) : (edgeNoted t c).epg.lastGood = c.epg.lastGood := by
  unfold edgeNoted
  split <;> rfl

theorem edgeTaken_onTime {t : Nat} {c : Ctl} (h : pulseDist t c ≤ 1000) (d : Ctl) :
    edgeTaken t c d = pulseOnTime t (pulseNearest t c).1 (pulseNearest t c).2 d := if_pos h

theorem edgeTaken_fault {t : Nat} {c : Ctl} (h : 1000 < pulseDist t c) (hq : pulseDist t c ≤ pulsePeriod c / 4)
    (hj : c.epg.judged ≠ some (pulseNearest t c).1) : edgeTaken t c c = pulseFaultAt (pulseNearest t c).1 c := by
  unfold edgeTaken
  rw [if_neg (Nat.not_le_of_lt h), if_pos hq, if_neg hj]

theorem edgeTaken_stray {t : Nat} {c : Ctl} (h : 1000 < pulseDist t c) (hq : pulsePeriod c / 4 < pulseDist t c) : edgeTaken t c c = edgeStray c := by
  unfold edgeTaken
  rw [if_neg (Nat.not_le_of_lt h), if_neg (Nat.not_le_of_lt hq)]

theorem pulseState_addF_stray (c : Ctl) : pulseState (addF Reg.EPG_PULSE.STRAY c) = pulseState c := getF_addF_ne (by decide) c

theorem edgeStray_inService {c : Ctl} (hs : pulseState c = 2) : edgeStray c = addF Reg.EPG_PULSE.STRAY c :=
  if_neg (by simp [pulseState_addF_stray, hs])

theorem exec_edge_none {t : Nat} {s : State}
    (h : pulseLive s.ctl = false ∨ (pulseState s.ctl ≠ 1 ∧ pulseState s.ctl ≠ 2) ∨ pulsePeriod s.ctl = 0) : exec (.epochPulseEdge t) s = .next s := by
  refine exec_fixed rfl ?_
  exact if_pos (by simpa using h)

/-! An edge on time (R289, R297, R298). -/

/-- An edge at an expected instant makes up for the faults before it. -/
def edgeJudged (k : Nat) (c : Ctl) : Ctl := { c with epg := { c.epg with judged := some k, faults := 0 } }

theorem pulseOnTime_inService {t k inst : Nat} {c : Ctl} (hs : pulseState c = 2) :
    pulseOnTime t k inst c = pulseClose k (pulseDiscipline ((inst : Int) - t) (edgeJudged k c)) := by
  have judged : ∀ x, pulseState { c with epg := x } = 2 := fun _ => hs
  unfold pulseOnTime
  dsimp only
  rw [judged, if_neg (by decide), if_pos rfl]
  rfl

/-- What an on-time edge leaves of a receiver in service: the epoch is closed, or the close is missed for the reason that stood before. -/
theorem pulseOnTime_leaves (t k inst : Nat) {c : Ctl} (hs : pulseState c = 2) :
    (pulseOnTime t k inst c).epg.faults = 0 ∧ pulseState (pulseOnTime t k inst c) = 2
    ∧ (closeReason k c = none → epochHigh (pulseOnTime t k inst c) = k % 2 ^ Reg.HEEL_EPOCH_HIGH.VALUE.width)
    ∧ ∀ r, closeReason k c = some r → getF Reg.EPG_STATE.LAST_MISS (pulseOnTime t k inst c) = r ∧ epochHigh (pulseOnTime t k inst c) = epochHigh c := by
  have judged : Changes [] [.epg] c (edgeJudged k c) := (epg_only _ c).changes []
  have disciplined := pulseDiscipline_changes ((inst : Int) - t) (edgeJudged k c)
  have before : Changes disciplineFlds (.epg :: steerParts) c (pulseDiscipline ((inst : Int) - t) (edgeJudged k c)) :=
    (judged.mono (by simp) (by simp)).trans (disciplined.mono (fun _ h => h) (List.subset_cons_self _ _))
  have epg : (pulseDiscipline ((inst : Int) - t) (edgeJudged k c)).epg = (edgeJudged k c).epg := disciplined.2 .epg (by decide)
  have reason := closeReason_congr before (by decide) (by decide) ((congrArg Epg.closed epg).trans rfl) k
  rw [pulseOnTime_inService hs]
  refine ⟨?faults, ?state, ?closes, ?misses⟩
  case faults => rw [pulseClose_faults, epg, edgeJudged]
  case state => exact ((pulseClose_changes ..).getF_eq _ (by decide)).trans ((before.getF_eq _ (by decide)).trans hs)
  case closes =>
    intro h
    obtain ⟨high, -⟩ := epochClose_leaves k (pulseDiscipline ((inst : Int) - t) (edgeJudged k c))
    rw [pulseClose_closes (reason.trans h), high]
  case misses =>
    intro r h
    rw [pulseClose_misses (reason.trans h)]
    exact ⟨getF_closeMissed (Nat.lt_of_le_of_lt (closeReason_le h) (by decide)) _ _,
      ((closeMissed_changes ..).getF_eq _ (by decide)).trans (before.getF_eq _ (by decide))⟩

/-- The eighth good edge in a row brings the receiver into service. -/
def pulseQualified (k inst : Nat) (c : Ctl) : Ctl :=
  setF Reg.EPG_PULSE.STATE 2 (setF Reg.EPG_PULSE.GOOD 8 { c with epg := { c.epg with judged := some k, lastGood := some inst, faults := 0 } })

theorem pulseOnTime_qualifies {t k inst g : Nat} {c : Ctl} (hs : pulseState c = 1) (hg : getF Reg.EPG_PULSE.GOOD c = 7)
    (hl : c.epg.lastGood = some g) (hi : inst = g + pulsePeriod c) :
    pulseOnTime t k inst c = logEvent 0x0801 8 1 0 (pulseDiscipline ((inst : Int) - t) (pulseQualified k inst c)) := by
  have judged : ∀ x, pulseState { c with epg := x } = 1 := fun _ => hs
  have good : ∀ x, getF Reg.EPG_PULSE.GOOD { c with epg := x } = 7 := fun _ => hg
  have next : ∀ x, decide (inst = g + pulsePeriod { c with epg := x }) = true := fun _ => decide_eq_true hi
  unfold pulseOnTime
  dsimp only
  rw [judged, if_pos rfl, hl]
  dsimp only
  rw [if_pos (next _), good, if_pos (by decide)]
  rfl

/-- What the edge leaves that brings a receiver into service. -/
theorem pulseOnTime_qualifies_leaves {t k inst g : Nat} {c : Ctl} (hs : pulseState c = 1) (hg : getF Reg.EPG_PULSE.GOOD c = 7)
    (hl : c.epg.lastGood = some g) (hi : inst = g + pulsePeriod c) :
    pulseState (pulseOnTime t k inst c) = 2 ∧ getF Reg.EPG_PULSE.GOOD (pulseOnTime t k inst c) = 8 ∧ (pulseOnTime t k inst c).epg.faults = 0 := by
  have disciplined := pulseDiscipline_changes ((inst : Int) - t) (pulseQualified k inst c)
  have after : Changes disciplineFlds steerParts (pulseQualified k inst c) (pulseOnTime t k inst c) := by
    rw [pulseOnTime_qualifies hs hg hl hi]
    exact (logEvent_changes ..).andThen (fun _ h => by simp [disciplineFlds, steerFlds, correctFlds, h])
      (fun _ h => by simp [steerParts, clkParts, h]) disciplined
  refine ⟨(after.getF_eq _ (by decide)).trans (getF_setF_same ..), (after.getF_eq _ (by decide)).trans ?good,
    congrArg Epg.faults (after.2 .epg (by decide))⟩
  case good => exact (getF_setF_ne (by decide) _ _).trans (getF_setF_same ..)

/-! A fault of an expected instant (R297). -/

/-- The fault is counted. -/
def faultCounted (k : Nat) (c : Ctl) : Ctl :=
  addF Reg.EPG_PULSE.FAULTS { c with epg := { c.epg with judged := some k, faults := c.epg.faults + 1 } }

/-- A receiver that goes out of service qualifies anew, with no good edge so far. -/
def pulseRequalifies (c : Ctl) : Ctl :=
  setF Reg.EPG_PULSE.GOOD 0 (setF Reg.EPG_PULSE.STATE 1 { c with epg := { c.epg with faults := 0, lastGood := none, edges := [] } })

theorem pulseRequalifies_leaves (c : Ctl) : pulseState (pulseRequalifies c) = 1 ∧ getF Reg.EPG_PULSE.GOOD (pulseRequalifies c) = 0 :=
  ⟨(getF_setF_ne (by decide) _ _).trans (getF_setF_same ..), getF_setF_same ..⟩

/-- Where the pulse was the time source the time base holds over (R300). -/
def pulseSourceLost (c : Ctl) : Ctl := if clkSource c = 3 then logEvent 0x1202 18 2 0 (clkHoldover c) else c

/-- In service a fault is counted and its close missed; the third in a row sends the receiver back to Qualifying. -/
theorem pulseFaultAt_inService {k : Nat} {c : Ctl} (hs : pulseState c = 2) : pulseFaultAt k c
    = if 3 ≤ c.epg.faults + 1 then logEvent 0x0802 8 2 0 (closeMissed 8 k (pulseSourceLost (pulseRequalifies (faultCounted k c))))
      else closeMissed 7 k (faultCounted k c) := by
  have judged : ∀ x, pulseState { c with epg := x } = 2 := fun _ => hs
  unfold pulseFaultAt
  dsimp only
  rw [judged, if_neg (by decide), if_pos rfl]
  rfl

/-- The first two faults in a row are counted and miss their close, and the receiver stays in service. -/
theorem pulseFaultAt_leaves {k : Nat} {c : Ctl} (hs : pulseState c = 2) (hf : c.epg.faults < 2) :
    pulseState (pulseFaultAt k c) = 2 ∧ (pulseFaultAt k c).epg.faults = c.epg.faults + 1 ∧ getF Reg.EPG_STATE.LAST_MISS (pulseFaultAt k c) = 7
    ∧ getF Reg.EPG_PULSE.FAULTS (pulseFaultAt k c) = satInc Reg.EPG_PULSE.FAULTS.width (getF Reg.EPG_PULSE.FAULTS c) := by
  obtain ⟨l, epg⟩ := closeMissed_epg 7 k (faultCounted k c)
  rw [pulseFaultAt_inService hs, if_neg (by omega)]
  refine ⟨?state, ?faults, getF_closeMissed (by decide) _ _, ?count⟩
  case state => exact ((closeMissed_changes ..).getF_eq _ (by decide)).trans ((getF_addF_ne (by decide) _).trans hs)
  case faults =>
    rw [epg]
    rfl
  case count => exact ((closeMissed_changes ..).getF_eq _ (by decide)).trans (getF_addF_satInc ..)

theorem pulseSourceLost_changes (c : Ctl) : Changes (Reg.CLK_STATUS.SOURCE :: eventFlds) clkParts c (pulseSourceLost c) :=
  Changes.ite (holdoverLogged_changes c) (Changes.refl _ _ c)

/-- The third fault in a row leaves the receiver in Qualifying, with no good edge and no fault to its count. -/
theorem pulseFaultAt_third_leaves {k : Nat} {c : Ctl} (hs : pulseState c = 2) (hf : 2 ≤ c.epg.faults) :
    pulseState (pulseFaultAt k c) = 1 ∧ (pulseFaultAt k c).epg.faults = 0 ∧ getF Reg.EPG_PULSE.GOOD (pulseFaultAt k c) = 0
    ∧ getF Reg.EPG_STATE.LAST_MISS (pulseFaultAt k c) = 8 := by
  have lost := pulseSourceLost_changes (pulseRequalifies (faultCounted k c))
  have missed := closeMissed_changes 8 k (pulseSourceLost (pulseRequalifies (faultCounted k c)))
  have logged := logEvent_changes 0x0802 8 2 0 (closeMissed 8 k (pulseSourceLost (pulseRequalifies (faultCounted k c))))
  obtain ⟨l, epg⟩ := closeMissed_epg 8 k (pulseSourceLost (pulseRequalifies (faultCounted k c)))
  obtain ⟨state, good⟩ := pulseRequalifies_leaves (faultCounted k c)
  rw [pulseFaultAt_inService hs, if_pos (by omega)]
  refine ⟨?state, ?faults, ?good, ?miss⟩
  case state => exact (logged.getF_eq _ (by decide)).trans ((missed.getF_eq _ (by decide)).trans ((lost.getF_eq _ (by decide)).trans state))
  case faults =>
    rw [logged.2 .epg (by decide), epg, lost.2 .epg (by decide)]
    rfl
  case good => exact (logged.getF_eq _ (by decide)).trans ((missed.getF_eq _ (by decide)).trans ((lost.getF_eq _ (by decide)).trans good))
  case miss => rw [logged.getF_eq _ (by decide), getF_closeMissed (by decide)]

/-! Contention (R42, R296). -/

/-- A source that meets another edge is a receiver in Qualifying, and nothing else of it moves but its count and the event. -/
theorem pulseContention_leaves (c : Ctl) :
    Changes (Reg.EPG_PULSE.GOOD :: Reg.EPG_PULSE.STATE :: eventFlds) (.epg :: eventParts) c (logEvent 0x0803 8 2 0 (pulseRequalifies c))
    ∧ pulseState (logEvent 0x0803 8 2 0 (pulseRequalifies c)) = 1 ∧ getF Reg.EPG_PULSE.GOOD (logEvent 0x0803 8 2 0 (pulseRequalifies c)) = 0 := by
  have logged := logEvent_changes 0x0803 8 2 0 (pulseRequalifies c)
  have requalified : Changes (Reg.EPG_PULSE.GOOD :: Reg.EPG_PULSE.STATE :: eventFlds) (.epg :: eventParts) c (pulseRequalifies c) :=
    setF_within (by simp) 0 (setF_within (by simp) 1 (((epg_only _ c).mono (by simp)).changes _))
  obtain ⟨state, good⟩ := pulseRequalifies_leaves c
  exact ⟨logged.andThen (fun _ h => by simp [h]) (List.subset_cons_self _ _) requalified, (logged.getF_eq _ (by decide)).trans state,
    (logged.getF_eq _ (by decide)).trans good⟩

end Sys2Proof.Machine
end

section
/-! Proofs about PTM and holdover (R105, R300-R302), and the statement about pulses and module time. -/
namespace Sys2Proof.Machine

/-! PTM (R105, R300, R301). -/

/-- The run of offsets within 1 µs is counted. -/
def runCounted (n : Nat) (c : Ctl) : Ctl := { c with clk := { c.clk with good := n } }

/-- PTM is locked: it is the source, with a bound of 1 µs. -/
def ptmLocked (c : Ctl) : Ctl :=
  setF Reg.EPG_PULSE.UNALIGNED 0 (clkErr 1000 (setF Reg.CLK_STATUS.VALID 1 (setF Reg.CLK_STATUS.SOURCE 1 c)))

theorem ptmLocked_leaves (c : Ctl) : clkSource (ptmLocked c) = 1 ∧ clkValid (ptmLocked c) = true ∧ getF Reg.EPG_PULSE.UNALIGNED (ptmLocked c) = 0 := by
  have reads : ∀ f, getF f (ptmLocked c) = getF f (setF Reg.EPG_PULSE.UNALIGNED 0 (setF Reg.CLK_STATUS.VALID 1 (setF Reg.CLK_STATUS.SOURCE 1 c))) :=
    fun f => getF_congr f rfl
  simp (disch := decide) only [clkSource, clkValid, reads, getF_setF_same, getF_setF_ne]
  exact ⟨rfl, rfl, rfl⟩

/-- The run of offsets within 1 µs that an offset leaves. -/
def offsetRun (off : Int) (c : Ctl) : Nat := if off.natAbs ≤ 1000 then c.clk.good + 1 else 0

/-- A time pair steers module time, and locks it after eight offsets in a row within 1 µs. -/
def ptmTaken (off : Int) (c : Ctl) : Ctl :=
  if 8 ≤ offsetRun off (clkSteered off c) then ptmLocked (runCounted (offsetRun off (clkSteered off c)) (clkSteered off c))
  else setF Reg.CLK_STATUS.SOURCE 2 (runCounted (offsetRun off (clkSteered off c)) (clkSteered off c))

theorem exec_ptmResponse_runs (off : Int) {s : State} (hr : ptmRuns s.ctl = true) : exec (.ptmResponse off) s = .next (onCtl (ptmTaken off) s) :=
  exec_onCtl rfl (if_neg (by simp [hr]))

theorem ptmTaken_locks {off : Int} {c : Ctl} (ho : off.natAbs ≤ 1000) (hg : 7 ≤ c.clk.good) :
    ptmTaken off c = ptmLocked (runCounted (c.clk.good + 1) (clkSteered off c)) := by
  have run : offsetRun off (clkSteered off c) = c.clk.good + 1 := by rw [offsetRun, if_pos ho, clkSteered_clk_slew (by omega)]
  unfold ptmTaken
  rw [run, if_pos (by omega)]

theorem ptmTaken_breaks {off : Int} (ho : 1000 < off.natAbs) (c : Ctl) :
    ptmTaken off c = setF Reg.CLK_STATUS.SOURCE 2 (runCounted 0 (clkSteered off c)) := by
  have run : offsetRun off (clkSteered off c) = 0 := if_neg (Nat.not_le_of_lt ho)
  unfold ptmTaken
  rw [run, if_neg (by decide)]

/-- The eighth offset in a row within 1 µs: PTM is the source and the time is valid within 1 µs; the time itself is slewed. -/
theorem ptmTaken_locks_leaves {off : Int} {c : Ctl} (ho : off.natAbs ≤ 1000) (hg : 7 ≤ c.clk.good) :
    clkSource (ptmTaken off c) = 1 ∧ clkValid (ptmTaken off c) = true ∧ clkErrNow (ptmTaken off c) = 1000
    ∧ getF Reg.EPG_PULSE.UNALIGNED (ptmTaken off c) = 0 ∧ (ptmTaken off c).clk.good = c.clk.good + 1 ∧ (ptmTaken off c).clk.time = c.clk.time := by
  have time : (clkSteered off c).clk.time = c.clk.time := by rw [clkSteered_clk_slew (by omega)]
  obtain ⟨source, valid, aligned⟩ := ptmLocked_leaves (runCounted (c.clk.good + 1) (clkSteered off c))
  rw [ptmTaken_locks ho hg]
  exact ⟨source, valid, rfl, aligned, rfl, time⟩

/-- A larger offset breaks the run; above 1 s forward it steps the time at once. -/
theorem ptmTaken_breaks_leaves {off : Int} (ho : 1000 < off.natAbs) (c : Ctl) :
    clkSource (ptmTaken off c) = 2 ∧ (ptmTaken off c).clk.good = 0 ∧ (off ≤ 1000000000 → (ptmTaken off c).clk.time = c.clk.time)
    ∧ (1000000000 < off → (ptmTaken off c).clk.time = c.clk.time + off.toNat ∧ (ptmTaken off c).clk.slew = 0
      ∧ getF Reg.CLK_STATUS.STEPS (ptmTaken off c) = satInc Reg.CLK_STATUS.STEPS.width (getF Reg.CLK_STATUS.STEPS c)) := by
  rw [ptmTaken_breaks ho]
  refine ⟨getF_setF_same .., rfl, fun h => ?slewed, fun h => ?stepped⟩
  case slewed =>
    have clk := clkSteered_clk_slew h c
    exact (congrArg Clk.time clk).trans rfl
  case stepped =>
    have clk := clkSteered_clk_step h c
    exact ⟨congrArg Clk.time clk, congrArg Clk.slew clk, (getF_setF_ne (by decide) _ _).trans (clkSteered_steps h c)⟩

/-! Holdover (R300, R302). -/

/-- PTM or the pulse has been the source while the hub is up: the time base is to hold over. -/
theorem holdover_due {c : Ctl} (hc : clkSource c = 1 ∨ clkSource c = 2 ∨ clkSource c = 3) (hh : hubPowered c = true) :
    ¬ (clkSource c = 0 ∨ clkSource c = 4 ∨ clkSource c = 5 ∨ (!hubPowered c) = true) := by
  rcases hc with h | h | h <;> simp [h, hh]

theorem exec_holdoverEntry_pulse {s : State} (hc : clkSource s.ctl = 1 ∨ clkSource s.ctl = 2) (hh : hubPowered s.ctl = true)
    (hp : pulseState s.ctl = 2) (hf : fwRunning s.ctl = true) : exec .holdoverEntry s
      = .next (onCtl (fun c => clkErr 1000 (setF Reg.CLK_STATUS.SOURCE 3 { c with clk := { c.clk with good := 0 } })) s) :=
  exec_onCtl rfl ((if_neg (holdover_due (by omega) hh)).trans ((if_pos ⟨hp, hf⟩).trans (if_neg (by omega))))

theorem exec_holdoverEntry_holds {s : State} (hc : clkSource s.ctl = 1 ∨ clkSource s.ctl = 2 ∨ clkSource s.ctl = 3) (hh : hubPowered s.ctl = true)
    (hp : pulseState s.ctl ≠ 2 ∨ fwRunning s.ctl = false) : exec .holdoverEntry s = .next (onCtl (fun c => logEvent 0x1202 18 2 0 (clkHoldover c)) s) := by
  have free : ¬ (pulseState s.ctl = 2 ∧ fwRunning s.ctl = true) := by rcases hp with hp | hp <;> simp [hp]
  exact exec_onCtl rfl ((if_neg (holdover_due hc hh)).trans (if_neg free))

theorem exec_holdoverEntry_none {s : State} (h : clkSource s.ctl = 0 ∨ clkSource s.ctl = 4 ∨ clkSource s.ctl = 5 ∨ hubPowered s.ctl = false
    ∨ (clkSource s.ctl = 3 ∧ pulseState s.ctl = 2 ∧ fwRunning s.ctl = true)) : exec .holdoverEntry s = .next s := by
  have idle : (clkSource s.ctl = 0 ∨ clkSource s.ctl = 4 ∨ clkSource s.ctl = 5 ∨ (!hubPowered s.ctl) = true) → exec .holdoverEntry s = .next s :=
    fun h => exec_fixed rfl (if_pos h)
  rcases h with h | h | h | h | ⟨hc, hp⟩
  · exact idle (.inl h)
  · exact idle (.inr (.inl h))
  · exact idle (.inr (.inr (.inl h)))
  · exact idle (.inr (.inr (.inr (by simp [h]))))
  · by_cases hh : hubPowered s.ctl = true
    · exact exec_fixed rfl ((if_neg (holdover_due (.inr (.inr hc)) hh)).trans ((if_pos hp).trans (if_pos hc)))
    · exact idle (.inr (.inr (.inr (by simp [hh]))))

/-! The statement. -/

/-- Settles O34: an edge by where it falls and by the state of the receiver, a fault by the count before it, and each source of module time by
what it makes of the time base. -/
theorem pulseAndModuleTime : Obligations.PulseAndModuleTime := by
  refine ⟨fun s e => ⟨?onTime, ?qualifies, ?stray, exec_edge_none, ?near, ?fault, pulseFaultAt_leaves, pulseFaultAt_third_leaves, ?drive,
    ?contention, ?noContention⟩, fun s => ⟨?request, ?locks, ?breaks, ?noPtm, exec_holdoverEntry_pulse, ?holds, exec_holdoverEntry_none⟩⟩
  case onTime =>
    intro hl hs hp hd
    obtain ⟨faults, state, closes, misses⟩ := pulseOnTime_leaves e (pulseNearest e s.ctl).1 (pulseNearest e s.ctl).2 hs
    exact ⟨_, exec_edge_inService hl hp hs (edgeTaken_onTime hd s.ctl) state, faults, state, ⟨rfl, rfl, rfl⟩, closes, misses⟩
  case qualifies =>
    intro hl hs hp hd hg hlast hfirst
    have noted := edgeNoted_only e s.ctl
    have next : (pulseNearest e s.ctl).2 = (pulseNearest e s.ctl).2 - pulsePeriod s.ctl + pulsePeriod (edgeNoted e s.ctl) := by
      rw [show pulsePeriod (edgeNoted e s.ctl) = pulsePeriod s.ctl from congrArg (· * 1000000) (getF_congr _ noted.1), Nat.sub_add_cancel hfirst]
    obtain ⟨state, good, faults⟩ := pulseOnTime_qualifies_leaves (t := e) (k := (pulseNearest e s.ctl).1) ((getF_congr _ noted.1).trans hs)
      ((getF_congr _ noted.1).trans hg) ((edgeNoted_lastGood ..).trans hlast) next
    exact ⟨_, exec_edge_serves (f := fun c => pulseOnTime e (pulseNearest e c).1 (pulseNearest e c).2 (edgeNoted e c)) hl hp (.inl hs)
      (edgeTaken_onTime hd _) state, state, good, faults, rfl, rfl, rfl⟩
  case stray =>
    intro hl hs hp hd hq
    exact exec_edge_inService hl hp hs ((edgeTaken_stray hd hq).trans (edgeStray_inService hs)) ((pulseState_addF_stray _).trans hs)
  case near =>
    intro hl hs hp hd hq hj hf
    exact exec_edge_inService hl hp hs (edgeTaken_fault hd hq hj) (pulseFaultAt_leaves hs hf).1
  case fault => exact leadsTo_onCtl rfl (fun h => if_pos h) (fun h => if_neg h)
  case drive => exact leadsTo_onCtl rfl (fun h => if_pos h) (fun h => if_neg h)
  case contention =>
    intro hl hs
    obtain ⟨changes, state, good⟩ := pulseContention_leaves s.ctl
    exact ⟨onCtl (fun c => logEvent 0x0803 8 2 0 (pulseRequalifies c)) s, exec_onCtl rfl (if_pos ⟨hl, hs⟩), state, good, changes.1, changes.2, rfl, rfl, rfl⟩
  case noContention => exact fun h => exec_fixed rfl (if_neg (by rcases h with h | h <;> simp [h]))
  case request => exact leadsTo_onCtl rfl (fun h => if_pos h) (fun h => if_neg h)
  case locks =>
    intro off hr ho hg
    obtain ⟨source, valid, bound, aligned, good, time⟩ := ptmTaken_locks_leaves ho hg
    exact ⟨_, exec_ptmResponse_runs off hr, source, valid, bound, aligned, good, time, rfl, rfl, rfl⟩
  case breaks =>
    intro off hr ho
    obtain ⟨source, good, slewed, stepped⟩ := ptmTaken_breaks_leaves ho s.ctl
    exact ⟨_, exec_ptmResponse_runs off hr, source, good, slewed, stepped, rfl, rfl, rfl⟩
  case noPtm => exact fun off hr => exec_fixed rfl (if_pos (by simp [hr]))
  case holds =>
    intro hc hh hp
    obtain ⟨source, bound, since⟩ := holdoverLogged_leaves s.ctl
    have changes := holdoverLogged_changes s.ctl
    exact ⟨_, exec_holdoverEntry_holds hc hh hp, source, bound, since, changes.1, changes.2, rfl, rfl, rfl⟩

end Sys2Proof.Machine
end
